-- ==== Sys2Proof/Word.lean ====
section
/-! DEFINITION. The plain words of the LC16's wires. Only what leaves the part bit for bit (R192, R193) is a
bit vector; days, cents, identifiers and counts are natural numbers, as chapter 00 gives them. -/

namespace Sys2Proof

/-- One byte of a lane word or a link frame. -/
abbrev Byte := BitVec 8

/-- A kiosk lane, 0 to 15. -/
abbrev Lane := Fin 16

/-- A station on a lane, 0 to 3. -/
abbrev Station := Fin 4

/-- A set of the four stations of a lane: bit n stands for station n, as the ROLL word has it (R192). -/
abbrev StationSet := BitVec 4

end Sys2Proof
end

