-- ==== Sys2Proof/Syntax.lean ====
section
/-! DEFINITION. The commands of the LC16: one constructor per row of spec/opcode_table.json, and the operands
they carry. A row that is an engine operation carries what may CROSS that operation: the memory errors its reads
find (R2, R185) and the waiters that claim an outbound entry it frees before the arbiter's search does (R182). -/

namespace Sys2Proof

/-- The guarded tables, in the order of R185's list (that order numbers them in a fault's context, R193). -/
inductive Table where
  | patron | loan | title | pool | tag | patronIndex | copyIndex | titleIndex | tagMap
  deriving DecidableEq, Repr

/-- One guarded record: a table and a slot of it (R185). -/
structure RecordId where
  table : Table
  slot  : Nat
  deriving DecidableEq, Repr

/-- A bit error in a guarded record: it comes after `skip` further accesses of that record, be they checked reads or
writes, and stands there until the next access. A read shows it; a write puts fresh check bits over it (R185). `hard`
is an error the check bits cannot correct; otherwise it is a single-bit error. -/
structure Flip where
  record : RecordId
  skip   : Nat
  hard   : Bool
  deriving DecidableEq, Repr

/-- What is received in place of a word that a station sends (R168, R192). -/
inductive BadWord where
  /-- a word that fails its check -/
  | failed
  /-- a word that passes it and names a station, of a type no station sends -/
  | outOfPlace (station : Station)
  /-- an IDENTIFY that passes it: no station sends it, and its station field is not examined -/
  | identify
  deriving DecidableEq, Repr

/-- A waiter that may claim a freed outbound entry before the arbiter grants (the list of R182). -/
inductive Claim where
  | fault | laneState (lane : Lane) | overrun | sideList | marker
  deriving DecidableEq, Repr

/-- What may cross one engine operation. -/
structure Crossing where
  flips  : List Flip
  claims : List Claim
  deriving DecidableEq, Repr

/-- An operation that nothing crosses. -/
def Crossing.quiet : Crossing := ⟨[], []⟩

/-- The 62 steps of the LC16. -/
inductive Instr where
  -- resets (R11, R12)
  | powerOn
  | resetLineAsserted
  | warmReset
  -- the catalogue link (R174 to R182, R8)
  | linkUp
  | linkDown
  /-- a complete frame between two searches for a start marker; its length byte is the payload's length (R175) -/
  | inboundFrame (kind : Byte) (payload : List Byte) (check : BitVec 16)
  | markerConfirm
  | overrunConfirm
  | sideListMove
  | entrySent (claims : List Claim)
  | owedFaultPost
  | owedLaneStatePost (lane : Lane)
  | waitingRoomPost (claims : List Claim)
  -- lane requests, performed by the engine after their grant
  | account (x : Crossing)
  | renew (x : Crossing)
  | renewAll (x : Crossing)
  | placeHold (x : Crossing)
  | cancelHold (x : Crossing)
  | suspendHold (x : Crossing)
  | resumeHold (x : Crossing)
  | payCash (x : Crossing)
  | payCard (x : Crossing)
  | detail (x : Crossing)
  | poll (x : Crossing)
  -- catalogue messages, performed by the engine after their grant
  | loanOpen (x : Crossing)
  | returnCopy (x : Crossing)
  | patronLoad (x : Crossing)
  | titleLoad (x : Crossing)
  | authResult (x : Crossing)
  | dayClose (x : Crossing)
  | calendar (x : Crossing)
  | schedule (x : Crossing)
  | waive (x : Crossing)
  | holdPlace (x : Crossing)
  | holdCancel (x : Crossing)
  | laneControlEnable (x : Crossing)
  | laneControlDisable (x : Crossing)
  | laneControlAbort (x : Crossing)
  | statusRead (x : Crossing)
  | faultRead (x : Crossing)
  | faultClear (x : Crossing)
  | restart (x : Crossing)
  -- sweep steps and request tags
  | loansStep (x : Crossing)
  | holdsStep (x : Crossing)
  /-- the tags whose deadlines pass together at this moment (R4, R148) -/
  | tagDeadline (numbers : List (Fin 32))
  | tagExpiry (x : Crossing)
  -- lane lifecycle (R158, R163)
  | carrierPresent (lane : Lane)
  | carrierLost (lane : Lane)
  | settleTimerExpiry (lane : Lane)
  | identifyTimerExpiry (lane : Lane)
  | roll (lane : Lane) (present : StationSet)
  | replyTimerExpiry (lane : Lane)
  -- words from stations that pass their check (R192)
  | call (lane : Lane) (station : Station)
  | req (lane : Lane) (station : Station) (code count : Byte)
  | field (lane : Lane) (station : Station) (code index : Byte) (value : BitVec 32)
  | accept (lane : Lane) (station : Station)
  | stop (lane : Lane) (station : Station)
  | halt (lane : Lane) (station : Station)
  | acceptOffer (lane : Lane) (station : Station)
  | defer (lane : Lane) (station : Station)
  /-- a word that fails its check, or one that passes it and is out of place because no station sends its type
  (R168, R192) -/
  | wordCheckFailure (lane : Lane) (word : BadWord)
  -- memory checking
  | scrubRead (flips : List Flip)
  deriving DecidableEq, Repr

end Sys2Proof
end

