-- ==== Sys2Proof/Decode.lean ====
section
/-! DEFINITION. From the wires to commands: the checks of R192 and R193, the lane word and the link's receiver. The
command table gives no row any bits, so `decodeTableWord` spells no command. -/

namespace Sys2Proof

/-- The command a table word spells: spec/opcode_table.json gives no row bits, so none. -/
def decodeTableWord (_nbits _w : Nat) : Option Instr := none

/-! ## Check computations -/

/-- One bit, most significant first, through the 8-bit check register: generator x^8 + x^2 + x + 1 (R192). -/
def crc8Bit (r : BitVec 8) (b : Bool) : BitVec 8 :=
  if r.msb != b then (r <<< 1) ^^^ 0x07#8 else r <<< 1

/-- One bit through the 16-bit check register: generator x^16 + x^12 + x^5 + 1 (R193). -/
def crc16Bit (r : BitVec 16) (b : Bool) : BitVec 16 :=
  if r.msb != b then (r <<< 1) ^^^ 0x1021#16 else r <<< 1

/-- The bits of a byte, bit 7 first (chapter 13). -/
def Byte.bits (b : Byte) : List Bool :=
  [b.getLsbD 7, b.getLsbD 6, b.getLsbD 5, b.getLsbD 4, b.getLsbD 3, b.getLsbD 2, b.getLsbD 1, b.getLsbD 0]

def crc8Byte (r : BitVec 8) (b : Byte) : BitVec 8 := (Byte.bits b).foldl crc8Bit r

def crc16Byte (r : BitVec 16) (b : Byte) : BitVec 16 := (Byte.bits b).foldl crc16Bit r

/-- The word check over bytes 0 to 11, the register starting at 0xFF (R192). -/
def wordCheck (bytes : List Byte) : BitVec 8 := bytes.foldl crc8Byte 0xFF#8

/-- The frame check over kind, length and payload, the register starting at 0xFFFF (R193). -/
def frameCheck (kind : Byte) (payload : List Byte) : BitVec 16 :=
  (kind :: BitVec.ofNat 8 payload.length :: payload).foldl crc16Byte 0xFFFF#16

/-! ## Byte order -/

/-- A value in `width` bytes, most significant byte first (chapter 13). -/
def bytesOf : Nat → Nat → List Byte
  | 0, _ => []
  | width + 1, v => BitVec.ofNat 8 (v / 256 ^ width) :: bytesOf width v

/-- The value of bytes sent most significant byte first. -/
def valueOf (bytes : List Byte) : Nat := bytes.foldl (fun v b => v * 256 + b.toNat) 0

/-! ## Lane words -/

/-- The station a word's byte 0 names: bits 1 to 0. -/
def wordStation (b0 : Byte) : Station := (b0.extractLsb' 0 2).toFin

/-- The word type: bits 7 to 2 of byte 0. -/
def wordType (b0 : Byte) : Nat := (b0.extractLsb' 2 6).toNat

/-- The command a word of a type that passes its check stands for (the type table of R192). Types that only the
LC16 sends are out of place, and the station field of IDENTIFY is not examined; types outside the table are treated as
a failed check. -/
def wordCommand (lane : Lane) (type : Nat) (st : Station) (code index aux : Byte) (a : BitVec 32) : Instr :=
  match type with
  | 1 => .call lane st
  | 3 => .req lane st code index
  | 6 => .field lane st code index a
  | 7 => .accept lane st
  | 8 => .stop lane st
  | 9 => .halt lane st
  | 12 => .acceptOffer lane st
  | 14 => .defer lane st
  | 16 => .roll lane (aux.extractLsb' 0 4)
  | 2 | 4 | 5 | 10 | 11 | 13 => .wordCheckFailure lane (.outOfPlace st)
  | 15 => .wordCheckFailure lane .identify
  | _ => .wordCheckFailure lane .failed

/-- The command a lane's 13 received bytes stand for, total on any bytes (R192). -/
def decodeWord (lane : Lane) (bytes : List Byte) : Instr :=
  match bytes with
  | [b0, code, index, aux, a3, a2, a1, a0, b3, b2, b1, b0', chk] =>
    if wordCheck [b0, code, index, aux, a3, a2, a1, a0, b3, b2, b1, b0'] = chk then
      wordCommand lane (wordType b0) (wordStation b0) code index aux (BitVec.ofNat 32 (valueOf [a3, a2, a1, a0]))
    else .wordCheckFailure lane .failed
  | _ => .wordCheckFailure lane .failed

/-! ## The link's receiver -/

/-- The receiver (R175, R193): it discards bytes until a start marker, takes kind, length, payload and check, and
searches again. `fuel` bounds the number of bytes examined; an unfinished frame is not an inbound frame. -/
def receive : Nat → List Byte → List Instr
  | 0, _ => []
  | _, [] => []
  | fuel + 1, b :: rest =>
    if b = 0x7E#8 then
      match rest with
      | kind :: len :: more =>
        let payload := more.take len.toNat
        match more.drop len.toNat with
        | hi :: lo :: after => .inboundFrame kind payload (hi ++ lo) :: receive fuel after
        | _ => []
      | _ => []
    else receive fuel rest

/-- The inbound frames in a stretch of the link's line. -/
def framesOf (line : List Byte) : List Instr := receive line.length line

end Sys2Proof
end

