-- ==== Sys2Proof/Config.lean ====
section
/-! DEFINITION. The capacities the manual fixes, and the free values it leaves open: each free value is an opaque
constant with no body, so that nothing rests on a number of it. -/

namespace Sys2Proof.Config

/-- Patron records (R13). -/
def patronSlots : Nat := 8192
/-- Loan records (R26). -/
def loanSlots : Nat := 16384
/-- Title records (R85). -/
def titleSlots : Nat := 2048
/-- Hold pool slots (R87). -/
def poolSlots : Nat := 8192
/-- Request tags (R146). -/
def tagSlots : Nat := 32
/-- Places of the inbound queue (R176). -/
def inboundPlaces : Nat := 64
/-- Occupied places at which flow hold is asserted (R177). -/
def holdLevel : Nat := 56
/-- Entries of the outbound queue (R180). -/
def outboundEntries : Nat := 128
/-- Places of the side list (R178). -/
def sideListPlaces : Nat := 8
/-- The balance ceiling in cents (R13). -/
def balanceCeiling : Nat := 999999
/-- The last day number (R35). -/
def lastDay : Nat := 65534
/-- A patron's loan limit (R13). -/
def loanLimit : Nat := 64
/-- A patron's hold list limit (R13). -/
def holdListLimit : Nat := 32
/-- A title's queue limit (R85). -/
def queueLimit : Nat := 255
/-- Station notices plus parked operations of one station (R154). -/
def parkedLimit : Nat := 2
/-- Days the window reaches behind the close day, and ahead of it (R36). -/
def windowBehind : Nat := 31
def windowAhead : Nat := 64
/-- The settle, identify and reply timers, in milliseconds (R158, R163). -/
def settleMs : Nat := 2000
def identifyMs : Nat := 5000
def replyMs : Nat := 500

/-- FREE VALUE. DESIGN CHOICE (notes/assumptions/5.md): the number an outcome RESULT FIELD carries on the wire. R192
numbers it in the list of "the rule that defines the value", and several rules list an outcome. The first argument
is the request code's number and the second the outcome's place in the model's own list. -/
opaque outcomeNumber : Nat → Nat → Nat

/-- FREE VALUE. DESIGN CHOICE (notes/assumptions/6.md): DETAIL's outcome field for a record of class NONE. -/
opaque noOutcomeNumber : Nat

/-- FREE VALUE. DESIGN CHOICE (notes/assumptions/6.md): DETAIL's request code field for a record with no code. -/
opaque noRequestNumber : Nat

/-- FREE VALUE. DESIGN CHOICE (notes/assumptions/7.md): the fault class byte of a FAULT_READ CONFIRM whose
first-fault record is empty ("class none", R190), which R193 gives no number. -/
opaque noFaultClass : Nat

/-- FREE VALUE. DESIGN CHOICE (notes/assumptions/7.md): the nth byte of the source and context that such a CONFIRM
carries; R190 says only that the class is none. -/
opaque noFaultByte : Nat → Nat

/-- FREE VALUE. DESIGN CHOICE (notes/assumptions/8.md): the nth count in the CONFIRM of a performed TITLE_LOAD after
which the title has no readable shelf, waiting or ready count (R103 gives no value there). -/
opaque noTitleCount : Nat → Nat → Nat

/-- FREE VALUE. DESIGN CHOICE (notes/assumptions/9.md): what an overrun tally that stands at 4,294,967,295 becomes at
one more overrun (R176 bounds it and no rule says what follows), for the overrun frame's sequence number. -/
opaque tallyPastTop : Nat → Nat

end Sys2Proof.Config
end

