-- ==== Sys2Proof/Machine/State.lean ====
section
/-! DEFINITION. The state of the LC16: one structure per block of chapter 00, all plain data, and the state after
power-on reset. A table of slots is a list of (slot, record) pairs, strictly rising, in which a slot that is not
listed is FREE. -/

namespace Sys2Proof.Machine

/-- A sparse table: (slot, contents) pairs with strictly rising slots; an unlisted slot is FREE. -/
abbrev Tbl (α : Type) := List (Nat × α)

/-! ## Request tags: identifiers -/

/-- A tag id: the number and the generation of this use of it (chapter 09). -/
structure TagId where
  number : Nat
  gen    : Nat
  deriving DecidableEq, Repr

/-- Where a lane request came from (R1). -/
structure Origin where
  lane    : Lane
  station : Station
  gen     : Nat
  deriving DecidableEq, Repr

/-! ## Patron Table (R13) -/

/-- The fields of a RESIDENT patron record. -/
structure Patron where
  id       : Nat
  category : Nat
  balance  : Nat
  pending  : Nat
  blocked  : Bool
  /-- loan slots, in order of opening -/
  loans    : List Nat
  /-- title ids, in order of placement -/
  holds    : List Nat
  lastDay  : Nat
  deriving DecidableEq, Repr

/-- A patron slot that is not FREE. The patron id of a DAMAGED record is the one its index place holds (R14, R185);
it is 0 when the index place has lost it (R186). -/
inductive PatronRec where
  | fetching (id lastDay : Nat) (tag : TagId)
  | resident (p : Patron)
  | unknown (id lastDay : Nat)
  | damaged (id : Nat)
  deriving DecidableEq, Repr

/-! ## Loan Table (R26) -/

/-- The fields of an ACTIVE loan record. -/
structure Loan where
  copy       : Nat
  title      : Nat
  patronSlot : Nat
  cls        : Nat
  due        : Nat
  used       : Nat
  overdue    : Nat
  charged    : Nat
  accrued    : Nat
  deriving DecidableEq, Repr

/-- A loan slot that is not FREE; a DAMAGED slot's copy id is its index place's, 0 when lost (R32, R186). -/
inductive LoanRec where
  | active (l : Loan)
  | damaged (copy : Nat)
  deriving DecidableEq, Repr

/-! ## Hold Store (R85, R87) -/

/-- One item of a title's queue: a pool slot and the patron id of its entry. -/
structure QueueItem where
  slot   : Nat
  patron : Nat
  deriving DecidableEq, Repr

/-- The fields of a RESIDENT title record. -/
structure Title where
  id      : Nat
  shelf   : Nat
  queue   : List QueueItem
  waiting : Nat
  ready   : Nat
  deriving DecidableEq, Repr

/-- A title slot that is not FREE; a DAMAGED record's title id is its index place's (R86, R108). -/
inductive TitleRec where
  | fetching (id : Nat) (tag : TagId)
  | resident (t : Title)
  | damaged (id : Nat)
  deriving DecidableEq, Repr

/-- The state of a hold entry with the fields present in that state (R87). -/
inductive HoldState where
  | waiting
  | suspended (until_ : Nat)
  | ready (deadline : Nat) (copy : Option Nat)
  deriving DecidableEq, Repr

/-- A hold entry. -/
structure Hold where
  patron : Nat
  title  : Nat
  branch : Nat
  placed : Nat
  state  : HoldState
  deriving DecidableEq, Repr

/-- A pool slot that is not FREE. -/
inductive PoolRec where
  | entry (h : Hold)
  | damaged
  deriving DecidableEq, Repr

/-! ## Calendar Unit (R35, R36) -/

/-- The marks a CALENDAR can set; a window day with no mark is UNKNOWN. -/
inductive Mark where
  | open_ | closed
  deriving DecidableEq, Repr

/-- The close day and the marks of the window's days that are not UNKNOWN. -/
structure Calendar where
  closeDay : Nat
  marks    : Tbl Mark
  deriving DecidableEq, Repr

/-! ## Fine Schedule (R47, R48) -/

structure ClassParams where
  rate       : Nat
  grace      : Nat
  cap        : Nat
  period     : Nat
  maxRenewal : Nat
  window     : Nat
  threshold  : Nat
  deriving DecidableEq, Repr

structure CategoryParams where
  factor    : Nat
  threshold : Nat
  holdLimit : Nat
  deriving DecidableEq, Repr

structure GlobalParams where
  pickupDays : Nat
  tagTimeout : Nat
  deriving DecidableEq, Repr

structure Schedule where
  classes    : Vector ClassParams 8
  categories : Vector CategoryParams 8
  globals    : GlobalParams
  deriving DecidableEq, Repr

/-! ## Sweep Unit (R128, R129) -/

inductive SweepState where
  | idle | loans | holds
  deriving DecidableEq, Repr

inductive SweepPhase where
  | none | evaluating | nextTitle | resuming | expiring | removing
  deriving DecidableEq, Repr

structure Summary where
  closeDay  : Nat
  evaluated : Nat
  cents     : Nat
  expired   : Nat
  resumed   : Nat
  released  : Nat
  freed     : Nat
  restarts  : Nat
  deriving DecidableEq, Repr

structure Sweep where
  state    : SweepState
  phase    : SweepPhase
  cursor   : Nat
  target   : Nat
  complete : Bool
  current  : Summary
  last     : Summary
  deriving DecidableEq, Repr

/-! ## Request Tag Table (R146) -/

inductive TagState where
  | free | outstanding | due | damaged
  deriving DecidableEq, Repr

inductive TagKind where
  | patronFetch | titleFetch | cardAuth
  deriving DecidableEq, Repr

/-- A placement parked on a TITLE_FETCH tag. -/
structure Parked where
  patron : Nat
  branch : Nat
  until_ : Option Nat
  deriving DecidableEq, Repr

/-- The question a tag record holds. `timeout` is the deadline, in seconds after the allocation (R147): the moment
itself comes as the command TAG_DEADLINE. -/
structure Question where
  kind    : TagKind
  subject : Nat
  reserve : Nat
  origin  : Option Origin
  parked  : Option Parked
  timeout : Nat
  deriving DecidableEq, Repr

/-- One number of the tag table: the map entry (state and generation) and the tag record beside it (the question
and the record's own copy of the generation). `mapLost` marks a map entry whose generation could not be repaired
(R186). -/
structure Tag where
  state     : TagState
  gen       : Nat
  mapLost   : Bool
  question  : Option Question
  recordGen : Nat
  deriving DecidableEq, Repr

/-! ## Lane Interfaces (R157, R169, R172) -/

inductive Lifecycle where
  | detached | settling | identifying | active | quiescing | disabled | faulted
  deriving DecidableEq, Repr

/-- The reasons a LANE_STATE carries, in R159's order. -/
inductive LaneReason where
  | attached | attachFailed | carrierLost | interlock | enabled | disabled | quiescing | aborted
  deriving DecidableEq, Repr

/-- The request codes, in R172's order. -/
inductive ReqCode where
  | account | renew | renewAll | placeHold | cancelHold | suspendHold | resumeHold | payCash | payCard | detail | poll
  deriving DecidableEq, Repr

/-- The field codes, in the order R192 numbers them. -/
inductive FieldCode where
  | patron | copy | title | branch | untilDay | amount | cardRef
  deriving DecidableEq, Repr

/-- The outcomes of a REFUSED final, in R169's order. -/
inductive Refused where
  | retry | tryLater | serviceLimited | linkDown | blocked | held | renewLimit | noGain | tooLate | notFound
  | duplicate | onLoan | holdLimit | queueFull | poolFull | tableFull | unknownPatron | damaged | badAmount
  | nothingDue | parkedLimit | wrongState | badField
  deriving DecidableEq, Repr

/-- The outcomes of a CHECK final, in R169's order. -/
inductive CheckOutcome where
  | lineCheck | badRequest | fieldCount | unknownStation | laneClosing
  deriving DecidableEq, Repr

/-- A FINAL: its class with an outcome of that class (R169). -/
inductive Final where
  | ok
  | pending
  | refused (r : Refused)
  | check (c : CheckOutcome)
  | interrupted (applied : Bool)
  deriving DecidableEq, Repr

/-- The outcome of a request or of a placement. -/
inductive ReqOutcome where
  | ok | pending | refused (r : Refused)
  deriving DecidableEq, Repr

inductive NoticeKind where
  | cardResult | holdResult
  deriving DecidableEq, Repr

/-- The outcome of a station notice (R153). -/
inductive NoticeOutcome where
  | ok | timedOut | refused (r : Refused)
  deriving DecidableEq, Repr

/-- A stacked station notice (R170); `value` is the title id or the amount. -/
structure StationNotice where
  kind     : NoticeKind
  patron   : Nat
  value    : Nat
  outcome  : NoticeOutcome
  tag      : Nat
  deferred : Bool
  deriving DecidableEq, Repr

/-- The class and outcome of a detail record (R157). -/
inductive DetailCause where
  | none | refused (r : Refused) | check (c : CheckOutcome)
  deriving DecidableEq, Repr

structure Detail where
  cause : DetailCause
  code  : Option ReqCode
  index : Nat
  deriving DecidableEq, Repr

/-- The state of a hold as ACCOUNT lists it, in R33's order. -/
inductive ListedState where
  | waiting | suspended | ready | unavailable
  deriving DecidableEq, Repr

/-- A result field, by its meaning; R192 gives the number it is sent as. -/
inductive RField where
  | num (n : Nat)
  | flag (b : Bool)
  | outcome (code : ReqCode) (o : ReqOutcome)
  | listed (h : ListedState)
  | detailClass (c : DetailCause)
  | detailOutcome (c : DetailCause)
  | detailCode (c : Option ReqCode)
  | noticeKind (k : NoticeKind)
  | noticeOutcome (o : NoticeOutcome)
  | pollEmpty
  deriving DecidableEq, Repr

/-- What a request comes to: its result fields and its final (R166). -/
structure Answer where
  fields : List RField
  final  : Final
  deriving DecidableEq, Repr

/-- Where a WORKING exchange's request stands: at the arbiter position, granted, or answered with the answer held
back until a LANE_CLOSING final is accepted (R161). `granted` says whether the answered request had its grant, which a
request refused SERVICE_LIMITED (R7) or withdrawn by a HALT (R167) had not. -/
inductive WorkPhase where
  | atArbiter | granted | answered (a : Answer) (granted : Bool)
  deriving DecidableEq, Repr

/-- The step of an exchange (R157). -/
inductive ExchangeStep where
  | called
  | begun
  | collecting (n : Nat)
  | working (w : WorkPhase)
  | results (index : Nat) (rest : List RField) (final : Final)
  | closing (final : Final)
  deriving DecidableEq, Repr

structure Exchange where
  station : Station
  step    : ExchangeStep
  code    : Option ReqCode
  count   : Nat
  fields  : List Nat
  deriving DecidableEq, Repr

/-- The offer in progress: its station, the notice it names, and whether a POLL has taken that notice off the stack
since (R170, R171). -/
structure Offering where
  station : Station
  notice  : StationNotice
  taken   : Bool
  deriving DecidableEq, Repr

inductive Offer where
  | none | offered (o : Offering) | noticeSent (o : Offering)
  deriving DecidableEq, Repr

/-- The timer that runs on a lane, if any (R158, R163). -/
inductive LaneTimer where
  | off | settle | identify | reply
  deriving DecidableEq, Repr

structure StationState where
  stack  : List StationNotice
  parked : Nat
  detail : Detail
  deriving DecidableEq, Repr

/-- One Lane Interface (R157). `closingCall` is the station whose LANE_CLOSING final awaits its ACCEPT (R161);
`reason` is the reason of the last lifecycle change, carried by an owed LANE_STATE (R159); `carrier` is the level of
the line's carrier. -/
structure LaneUnit where
  life        : Lifecycle
  gen         : Nat
  roll        : StationSet
  exchange    : Option Exchange
  held        : StationSet
  offer       : Offer
  stateOwed   : Bool
  timer       : LaneTimer
  closingCall : Option Station
  reason      : LaneReason
  carrier     : Bool
  stations    : Vector StationState 4
  deriving DecidableEq, Repr

/-- The words the LC16 sends on a lane (R192). -/
inductive LaneWord where
  | greet (st : Station)
  | begin_ (st : Station)
  | next (st : Station) (n : Nat)
  | field (st : Station) (index : Nat) (value : RField)
  | final (st : Station) (f : Final)
  | offer (st : Station)
  | notice (st : Station) (n : StationNotice)
  | identify
  deriving DecidableEq, Repr

/-! ## Fault Log (R188, R189) -/

inductive FaultClass where
  | laneInterlock | laneLineCheck | linkFrame | linkOverrun | staleReply | countClamp | holdMismatch
  | balanceCeiling | memoryCorrected | repeatedCorrected | memoryDamaged
  deriving DecidableEq, Repr

inductive Source where
  | laneStation (l : Lane) (st : Station) | lane (l : Lane) | link | engine | sweep | scrubber
  deriving DecidableEq, Repr

/-- The kind a context names: a request code or a message kind by its number, or neither (R188, R193). -/
inductive KindRef where
  | none | request (code : Nat) | message (kind : Nat)
  deriving DecidableEq, Repr

structure Context where
  kind   : KindRef
  patron : Nat
  title  : Nat
  copy   : Nat
  /-- the two bytes of a tag id as R193 lays them out, 0 when absent -/
  tag    : Nat
  cents  : Nat
  record : Option RecordId
  frame  : Nat
  deriving DecidableEq, Repr

structure FaultRec where
  cls     : FaultClass
  source  : Source
  context : Context
  deriving DecidableEq, Repr

/-- The Fault Log. `captures` counts captures, so that a FAULT sent whole is known to be the one posted at the
capture of the present record (R189). -/
structure FaultLog where
  first     : Option FaultRec
  /-- bit n set when the class numbered n is in the accumulated set -/
  classes   : BitVec 16
  corrected : Nat
  reported  : Bool
  owed      : Bool
  captures  : Nat
  deriving DecidableEq, Repr

/-! ## Catalogue Link (R174 to R182) -/

/-- The statuses of a CONFIRM, in R179's order. -/
inductive Status where
  | ok | clamped | clipped | stale | staleTag | wrongState | frameError | overrun | badMessage | unknownPatron
  | damaged | copyOnLoan | loanLimit | loanTableFull | tableFull | titleNotResident | blocked | duplicate | onLoan
  | holdLimit | queueFull | poolFull | badField | notFound | badAmount | nothingDue | laneBusy
  deriving DecidableEq, Repr

/-- A tag field of a message, as it stands on the link (R193): the number is a whole byte. -/
structure TagField where
  present : Bool
  gen     : Nat
  number  : Nat
  deriving DecidableEq, Repr

/-- The restore fields of a LOAN_OPEN (R28). -/
structure RestoreFields where
  used    : Nat
  overdue : Nat
  charged : Nat
  accrued : Nat
  deriving DecidableEq, Repr

/-- The catalogue's messages, in the order of the inbound table of chapter 11, with field values as received. -/
inductive Message where
  | loanOpen (copy title patron cls due pickup : Nat) (restore : Option RestoreFields)
  | returnCopy (copy title branch : Nat)
  | patronLoad (tag : TagField) (patron found category balance : Nat)
  | titleLoad (tag : TagField) (title found shelf : Nat)
  | authResult (tag : TagField) (amount : Nat)
  | dayClose (day : Nat)
  | calendar (first count : Nat) (marks : List Nat)
  | schedule (target number : Nat) (values : List Nat)
  | waive (patron amount : Nat)
  | holdPlace (patron title branch : Nat) (until_ : Option Nat)
  | holdCancel (patron title : Nat)
  | laneControl (lane action : Nat)
  | statusRead
  | faultRead
  | faultClear
  | restart
  deriving DecidableEq, Repr

/-- A result field of a CONFIRM: its width in bytes and its value (R193). -/
structure CField where
  width : Nat
  value : Nat
  deriving DecidableEq, Repr

/-- The new state or removal reason of a HOLD_CHANGE, in R193's order. -/
inductive HoldChange where
  | waiting | suspended | ready | filled | cancelled | expired | lost
  deriving DecidableEq, Repr

/-- An entry of the outbound queue: a CONFIRM or a notice, in the order of the outbound table of chapter 11. -/
inductive Notice where
  | confirm (seq kind : Nat) (status : Status) (fields : List CField)
  | balance (patron amount pending : Nat) (blocked : Bool)
  | renewed (copy patron due used : Nat)
  | holdChange (title patron : Nat) (change : HoldChange) (position : Nat)
  | trapped (title patron branch deadline : Nat) (copy : Option Nat) (returnBranch : Option Nat)
  | copyReleased (title : Nat) (copy : Option Nat) (returnBranch : Option Nat) (shelf : Nat)
  | fetchPatron (tag : TagId) (patron : Nat)
  | fetchTitle (tag : TagId) (title : Nat)
  | authRequest (tag : TagId) (patron reserve cardRef : Nat) (lane : Lane) (station : Station)
  | laneState (lane : Lane) (life : Lifecycle) (reason : LaneReason) (gen : Nat) (roll : StationSet)
  | sweepDone (summary : Summary)
  | fault (record : FaultRec) (capture : Nat)
  deriving DecidableEq, Repr

/-- What a taken frame is (R175): a marker with its raw kind byte and status, or a message. -/
inductive PlaceContent where
  | marker (kind : Nat) (status : Status)
  | message (kind : Nat) (m : Message)
  deriving DecidableEq, Repr

/-- A place of the inbound queue (R176, R178): `nextOverrun` is the sequence number of the next overrun CONFIRM it
owes, `confirmed` is set once its own CONFIRM is posted and it only drains, `late` says that its frame was taken while
a RESTART waits for its reset (R184). -/
structure Place where
  content     : PlaceContent
  seq         : Nat
  tally       : Nat
  nextOverrun : Nat
  confirmed   : Bool
  late        : Bool
  deriving DecidableEq, Repr

/-- The Catalogue Link. `up` is the catalogue-ready line's level, which is the link state (R174); `sending` is set
while the head of the outbound queue is being sent (R180). Flow hold is computed from the inbound queue (R177). -/
structure Link where
  up         : Bool
  sending    : Bool
  inbound    : List Place
  outbound   : List Notice
  sideList   : List Nat
  frameCount : Nat
  deriving DecidableEq, Repr

/-! ## Circulation Engine and Arbiter (R1, R4, R5, R11) -/

/-- The kind of an operation, with the operands its requester presented. -/
inductive OpKind where
  | request (code : ReqCode) (fields : List Nat)
  | message (kind : Nat) (m : Message)
  | loansStep
  | holdsStep
  | tagExpiry (number : Nat)
  deriving DecidableEq, Repr

/-- The operation record (R1). `waiting` holds the posts that wait for room (R8); `answer` and `handed` hold, until
completion, the lane result and the station notices to hand over (R10); `traps` counts the entries the operation
trapped (R103). -/
structure Op where
  position    : Nat
  kind        : OpKind
  origin      : Option Origin
  reservation : Nat
  resetOwed   : Bool
  waiting     : List Notice
  answer      : Option Answer
  handed      : List (Origin × StationNotice)
  traps       : Nat
  deriving DecidableEq, Repr

inductive Engine where
  | free | busy (op : Op) | waitingRoom (op : Op)
  deriving DecidableEq, Repr

/-- The arbiter's rotation pointer (0 to 18) and restart-pending flag; `resetDue` is set from the moment a warm reset
is to take effect until it has. -/
structure Arbiter where
  pointer        : Nat
  restartPending : Bool
  resetDue       : Bool
  deriving DecidableEq, Repr

/-! ## The whole machine -/

structure State where
  engine   : Engine
  arbiter  : Arbiter
  patrons  : Tbl PatronRec
  loans    : Tbl LoanRec
  titles   : Tbl TitleRec
  pool     : Tbl PoolRec
  calendar : Calendar
  schedule : Schedule
  sweep    : Sweep
  tags     : Vector Tag 32
  tagLine  : List Nat
  lanes    : Vector LaneUnit 16
  link     : Link
  faults   : FaultLog
  /-- the next record the scrubber reads, as an index into its fixed order (R187) -/
  scrub    : Nat
  /-- the check bits: the bit errors that stand in guarded records, or are to come in them, and that no read and no
  write has met yet (R185) -/
  upsets   : List Flip
  /-- the MODEL's own: the words sent on each lane since power-on, oldest first -/
  laneOut  : List (Lane × LaneWord)
  /-- the MODEL's own: the frames sent whole on the link since power-on, oldest first -/
  linkOut  : List Notice
  /-- the MODEL's own: the commands that wait, first in first out -/
  pending  : List Instr
  deriving DecidableEq, Repr

/-! ## Faults and refusals -/

/-- Why the machine stops. Nothing raises a fault: the manual gives every step of the table an effect, and what it
calls faults (R188) are entries of the Fault Log, after which the part goes on. -/
inductive Fault where
  deriving DecidableEq, Repr

/-- Why a command has no meaning here. -/
inductive Refusal where
  /-- raised by exec's own arm for a command that has no meaning yet; safe -/
  | notModelled (mnemonic : String)
  deriving DecidableEq, Repr

/-! ## Power-on reset -/

/-- R47's power-on values. -/
def ClassParams.powerOn : ClassParams := ⟨0, 0, 0, 14, 2, 0, 0⟩
/-- R48's power-on values. -/
def CategoryParams.powerOn : CategoryParams := ⟨100, 0, 10⟩
/-- R48's power-on values. -/
def GlobalParams.powerOn : GlobalParams := ⟨7, 20⟩

def Schedule.powerOn : Schedule :=
  ⟨Vector.replicate 8 .powerOn, Vector.replicate 8 .powerOn, .powerOn⟩

def Summary.zero : Summary := ⟨0, 0, 0, 0, 0, 0, 0, 0⟩

/-- R128. -/
def Sweep.powerOn : Sweep := ⟨.idle, .none, 0, 0, true, .zero, .zero⟩

/-- R146. -/
def Tag.powerOn : Tag := ⟨.free, 0, false, none, 0⟩

def Detail.clear : Detail := ⟨.none, none, 0⟩

def StationState.clear : StationState := ⟨[], 0, .clear⟩

/-- R157. -/
def LaneUnit.powerOn : LaneUnit :=
  { life := .detached, gen := 0, roll := 0, exchange := none, held := 0, offer := .none, stateOwed := false,
    timer := .off, closingCall := none, reason := .carrierLost, carrier := false,
    stations := Vector.replicate 4 .clear }

/-- R174, R177. -/
def Link.powerOn : Link := ⟨false, false, [], [], [], 0⟩

/-- R191. -/
def FaultLog.powerOn : FaultLog := ⟨none, 0, 0, true, false, 0⟩

/-- The machine right after power-on reset (R12, R13, R26, R46, R49, R85, R87, R128, R146, R157, R174, R187, R191). -/
def State.reset : State :=
  { engine := .free, arbiter := ⟨0, false, false⟩, patrons := [], loans := [], titles := [], pool := [],
    calendar := ⟨0, []⟩, schedule := .powerOn, sweep := .powerOn, tags := Vector.replicate 32 .powerOn, tagLine := [],
    lanes := Vector.replicate 16 .powerOn, link := .powerOn, faults := .powerOn, scrub := 0, upsets := [],
    laneOut := [], linkOut := [], pending := [] }

end Sys2Proof.Machine
end

