-- ==== Sys2Proof/Machine/Table.lean ====
section
/-! DEFINITION. Reading and writing the sparse tables. Every write keeps the slots strictly rising. -/

namespace Sys2Proof.Machine

/-- The contents of a slot, or none when it is FREE. -/
def Tbl.lookup {α : Type} : Tbl α → Nat → Option α
  | [], _ => none
  | (k, v) :: t, n => if k = n then some v else Tbl.lookup t n

/-- The table with slot n holding v. -/
def Tbl.store {α : Type} : Tbl α → Nat → α → Tbl α
  | [], n, v => [(n, v)]
  | (k, w) :: t, n, v =>
    if n < k then (n, v) :: (k, w) :: t else if n = k then (n, v) :: t else (k, w) :: Tbl.store t n v

/-- The table with slot n FREE. -/
def Tbl.release {α : Type} (t : Tbl α) (n : Nat) : Tbl α := t.filter fun e => e.1 != n

/-- The canonical form: slots strictly rising, so that equal tables are equal data. -/
def Tbl.wf {α : Type} : Tbl α → Bool
  | [] => true
  | [_] => true
  | (k, _) :: (l, w) :: t => decide (k < l) && Tbl.wf ((l, w) :: t)

/-- The lowest slot from n on that the rising list does not name. -/
def Tbl.gap {α : Type} : Tbl α → Nat → Nat
  | [], n => n
  | (k, _) :: t, n => if k = n then Tbl.gap t (n + 1) else n

/-- The lowest-numbered FREE slot of a table of `size` slots. -/
def Tbl.firstFree {α : Type} (t : Tbl α) (size : Nat) : Option Nat :=
  let n := Tbl.gap t 0
  if n < size then some n else none

/-- The lowest slot whose contents satisfy p. -/
def Tbl.findSlot {α : Type} (t : Tbl α) (p : α → Bool) : Option Nat :=
  (t.find? fun e => p e.2).map Prod.fst

/-! ## Sets of stations -/

/-- A station is in the set. -/
def StationSet.has (r : StationSet) (st : Station) : Bool := r.getLsbD st.val

def StationSet.add (r : StationSet) (st : Station) : StationSet := r ||| (1#4 <<< st.val)

def StationSet.remove (r : StationSet) (st : Station) : StationSet := r &&& ~~~(1#4 <<< st.val)

/-- The lowest-numbered station of the set. -/
def StationSet.lowest (r : StationSet) : Option Station :=
  (List.finRange 4).find? fun st => StationSet.has r st

end Sys2Proof.Machine
end

