-- ==== Sys2Proof/Machine/Operands.lean ====
section
/-! DEFINITION. The operands of requests and messages: the fields each request code takes (R172), the payload of each
inbound kind (R193), and the numbers that result fields, words and frames carry (R192, R193). -/

namespace Sys2Proof.Machine

/-! ## Request codes and fields (R172, R192) -/

/-- The number of a request code: 1 to 11 in R172's order. -/
def ReqCode.number : ReqCode → Nat
  | .account => 1 | .renew => 2 | .renewAll => 3 | .placeHold => 4 | .cancelHold => 5 | .suspendHold => 6
  | .resumeHold => 7 | .payCash => 8 | .payCard => 9 | .detail => 10 | .poll => 11

/-- The request code a REQ word names. -/
def reqCodeOf (code : Byte) : Option ReqCode :=
  match code.toNat with
  | 1 => some .account | 2 => some .renew | 3 => some .renewAll | 4 => some .placeHold | 5 => some .cancelHold
  | 6 => some .suspendHold | 7 => some .resumeHold | 8 => some .payCash | 9 => some .payCard | 10 => some .detail
  | 11 => some .poll | _ => none

/-- The fields of a request, in order (R172). -/
def ReqCode.fieldCodes : ReqCode → List FieldCode
  | .account => [.patron]
  | .renew => [.patron, .copy]
  | .renewAll => [.patron]
  | .placeHold => [.patron, .title, .branch, .untilDay]
  | .cancelHold => [.patron, .title]
  | .suspendHold => [.patron, .title, .untilDay]
  | .resumeHold => [.patron, .title]
  | .payCash => [.patron, .amount]
  | .payCard => [.patron, .amount, .cardRef]
  | .detail => []
  | .poll => []

/-- A code allows this field count (R172): PLACE_HOLD 3 or 4, every other code all of its fields. -/
def ReqCode.allows (c : ReqCode) (count : Nat) : Bool :=
  match c with
  | .placeHold => count == 3 || count == 4
  | c => count == c.fieldCodes.length

/-- The number of a field code (R192). -/
def FieldCode.number : FieldCode → Nat
  | .patron => 1 | .copy => 2 | .title => 3 | .branch => 4 | .untilDay => 5 | .amount => 6 | .cardRef => 7

/-- The range the lane checks (R172); the value is 32 bits wide, so only the lower bound of an id is left to check. -/
def FieldCode.inRange (f : FieldCode) (v : Nat) : Bool :=
  match f with
  | .patron | .copy => decide (1 ≤ v) && decide (v ≤ 4294967295)
  | .title => decide (1 ≤ v) && decide (v ≤ 16777215)
  | .branch => decide (v ≤ 63)
  | .untilDay => decide (v ≤ 65534)
  | .amount => decide (v ≤ 999999)
  | .cardRef => true

/-- A FIELD word is the field that a request takes at index n, counted from 1 (R165). -/
def fieldAccepted (c : ReqCode) (n : Nat) (code : Byte) (value : Nat) : Bool :=
  match c.fieldCodes[n - 1]? with
  | some f => code.toNat == f.number && f.inRange value
  | none => false

/-! ## Numbers of list values -/

/-- The number of a REFUSED outcome, from 1 in R169's order (R192). -/
def Refused.number : Refused → Nat
  | .retry => 1 | .tryLater => 2 | .serviceLimited => 3 | .linkDown => 4 | .blocked => 5 | .held => 6
  | .renewLimit => 7 | .noGain => 8 | .tooLate => 9 | .notFound => 10 | .duplicate => 11 | .onLoan => 12
  | .holdLimit => 13 | .queueFull => 14 | .poolFull => 15 | .tableFull => 16 | .unknownPatron => 17
  | .damaged => 18 | .badAmount => 19 | .nothingDue => 20 | .parkedLimit => 21 | .wrongState => 22 | .badField => 23

/-- The number of a CHECK outcome, from 1 in R169's order. -/
def CheckOutcome.number : CheckOutcome → Nat
  | .lineCheck => 1 | .badRequest => 2 | .fieldCount => 3 | .unknownStation => 4 | .laneClosing => 5

/-- A FINAL's class and outcome numbers (R192). -/
def Final.numbers : Final → Nat × Nat
  | .ok => (1, 1)
  | .pending => (1, 2)
  | .refused r => (2, r.number)
  | .check c => (3, c.number)
  | .interrupted applied => (4, if applied then 1 else 0)

def NoticeKind.number : NoticeKind → Nat
  | .cardResult => 1 | .holdResult => 2

/-- A notice outcome's number: 0 for OK, 254 for TIMED_OUT, else the REFUSED outcome's (R192). -/
def NoticeOutcome.number : NoticeOutcome → Nat
  | .ok => 0 | .timedOut => 254 | .refused r => r.number

/-- The place of an outcome in the model's own list of outcomes, the argument of the free value. -/
def ReqOutcome.place : ReqOutcome → Nat
  | .ok => 0 | .pending => 1 | .refused r => r.number + 1

def ListedState.number : ListedState → Nat
  | .waiting => 0 | .suspended => 1 | .ready => 2 | .unavailable => 3

/-- The number a result field is sent as, value A of its FIELD word (R192). DETAIL's outcome is numbered from 0 within its
class's list in R169, by the model's reading (notes/assumptions/66.md), its request code is sent as its own number, 1 to 11
(notes/assumptions/55.md), and the free values stand for none (notes/assumptions/6.md). -/
def RField.number : RField → Nat
  | .num n => n
  | .flag b => if b then 1 else 0
  | .outcome c o => Config.outcomeNumber c.number o.place
  | .listed h => h.number
  | .detailClass .none => 0
  | .detailClass (.refused _) => 1
  | .detailClass (.check _) => 2
  | .detailOutcome .none => Config.noOutcomeNumber
  | .detailOutcome (.refused r) => r.number - 1
  | .detailOutcome (.check c) => c.number - 1
  | .detailCode none => Config.noRequestNumber
  | .detailCode (some c) => c.number
  | .noticeKind k => k.number
  | .noticeOutcome o => o.number
  | .pollEmpty => Refused.notFound.number

def Lifecycle.number : Lifecycle → Nat
  | .detached => 0 | .settling => 1 | .identifying => 2 | .active => 3 | .quiescing => 4 | .disabled => 5 | .faulted => 6

def LaneReason.number : LaneReason → Nat
  | .attached => 0 | .attachFailed => 1 | .carrierLost => 2 | .interlock => 3 | .enabled => 4 | .disabled => 5
  | .quiescing => 6 | .aborted => 7

def SweepState.number : SweepState → Nat
  | .idle => 0 | .loans => 1 | .holds => 2

/-- In the order R128 lists the phases. -/
def SweepPhase.number : SweepPhase → Nat
  | .none => 0 | .evaluating => 1 | .nextTitle => 2 | .resuming => 3 | .expiring => 4 | .removing => 5

def HoldChange.number : HoldChange → Nat
  | .waiting => 0 | .suspended => 1 | .ready => 2 | .filled => 3 | .cancelled => 4 | .expired => 5 | .lost => 6

/-- Statuses from 0 in R179's order. -/
def Status.number : Status → Nat
  | .ok => 0 | .clamped => 1 | .clipped => 2 | .stale => 3 | .staleTag => 4 | .wrongState => 5 | .frameError => 6
  | .overrun => 7 | .badMessage => 8 | .unknownPatron => 9 | .damaged => 10 | .copyOnLoan => 11 | .loanLimit => 12
  | .loanTableFull => 13 | .tableFull => 14 | .titleNotResident => 15 | .blocked => 16 | .duplicate => 17
  | .onLoan => 18 | .holdLimit => 19 | .queueFull => 20 | .poolFull => 21 | .badField => 22 | .notFound => 23
  | .badAmount => 24 | .nothingDue => 25 | .laneBusy => 26

/-- Fault classes from 0 in the order of R188's table. -/
def FaultClass.number : FaultClass → Nat
  | .laneInterlock => 0 | .laneLineCheck => 1 | .linkFrame => 2 | .linkOverrun => 3 | .staleReply => 4
  | .countClamp => 5 | .holdMismatch => 6 | .balanceCeiling => 7 | .memoryCorrected => 8
  | .repeatedCorrected => 9 | .memoryDamaged => 10

/-- Tables from 0 in the order of R185's list, the three indexes in the order that item names them. -/
def tableNumber : Table → Nat
  | .patron => 0 | .loan => 1 | .title => 2 | .pool => 3 | .tag => 4 | .patronIndex => 5 | .copyIndex => 6
  | .titleIndex => 7 | .tagMap => 8

/-- A tag id as two bytes, the present bit set (R193). -/
def tagWord (gen number : Nat) : Nat := (128 + gen) * 256 + number

def TagId.word (t : TagId) : Nat := tagWord t.gen t.number

/-- A tag field's two bytes: 0 when it is absent. -/
def TagField.word (t : TagField) : Nat := if t.present then tagWord t.gen t.number else 0

/-- The kind number of a message, 1 to 16 in the inbound table's order (R193). -/
def Message.kind : Message → Nat
  | .loanOpen .. => 1 | .returnCopy .. => 2 | .patronLoad .. => 3 | .titleLoad .. => 4 | .authResult .. => 5
  | .dayClose .. => 6 | .calendar .. => 7 | .schedule .. => 8 | .waive .. => 9 | .holdPlace .. => 10
  | .holdCancel .. => 11 | .laneControl .. => 12 | .statusRead => 13 | .faultRead => 14 | .faultClear => 15
  | .restart => 16

/-! ## Inbound payloads (R193) -/

/-- Cut bytes into fields of the given widths, most significant byte first; none unless the widths use them up. -/
def cutFields : List Nat → List Byte → Option (List Nat)
  | [], [] => some []
  | [], _ => none
  | w :: ws, bs =>
    if bs.length < w then none else (cutFields ws (bs.drop w)).map (valueOf (bs.take w) :: ·)

/-- A two-byte tag field: bit 7 of the first byte says present, bits 3 to 0 the generation (R193). Bits 6 to 4 are not
kept (notes/assumptions/44.md). -/
def tagFieldOf (v : Nat) : TagField := ⟨decide (32768 ≤ v), v / 256 % 16, v % 256⟩

/-- The message of a frame whose kind and length the link admits (R175, R193); none for the others. -/
def parseMessage (kind : Nat) (payload : List Byte) : Option Message :=
  match kind with
  | 1 =>
    match cutFields [4, 3, 4, 1, 2, 1] payload with
    | some [copy, title, patron, cls, due, pickup] => some (.loanOpen copy title patron cls due pickup none)
    | _ =>
      match cutFields [4, 3, 4, 1, 2, 1, 1, 1, 2, 4] payload with
      | some [copy, title, patron, cls, due, pickup, used, overdue, charged, accrued] =>
        some (.loanOpen copy title patron cls due pickup (some ⟨used, overdue, charged, accrued⟩))
      | _ => none
  | 2 =>
    match cutFields [4, 3, 1] payload with
    | some [copy, title, branch] => some (.returnCopy copy title branch)
    | _ => none
  | 3 =>
    match cutFields [2, 4, 1, 1, 4] payload with
    | some [tag, patron, found, category, balance] => some (.patronLoad (tagFieldOf tag) patron found category balance)
    | _ => none
  | 4 =>
    match cutFields [2, 3, 1, 2] payload with
    | some [tag, title, found, shelf] => some (.titleLoad (tagFieldOf tag) title found shelf)
    | _ => none
  | 5 =>
    match cutFields [2, 4] payload with
    | some [tag, amount] => some (.authResult (tagFieldOf tag) amount)
    | _ => none
  | 6 =>
    match cutFields [2] payload with
    | some [day] => some (.dayClose day)
    | _ => none
  | 7 =>
    match cutFields [2, 1] (payload.take 3) with
    | some [first, count] => some (.calendar first count ((payload.drop 3).map BitVec.toNat))
    | _ => none
  | 8 =>
    match cutFields [1, 1] (payload.take 2), cutFields (List.replicate ((payload.length - 2) / 4) 4) (payload.drop 2) with
    | some [target, number], some values => some (.schedule target number values)
    | _, _ => none
  | 9 =>
    match cutFields [4, 4] payload with
    | some [patron, amount] => some (.waive patron amount)
    | _ => none
  | 10 =>
    match cutFields [4, 3, 1] payload with
    | some [patron, title, branch] => some (.holdPlace patron title branch none)
    | _ =>
      match cutFields [4, 3, 1, 2] payload with
      | some [patron, title, branch, day] => some (.holdPlace patron title branch (some day))
      | _ => none
  | 11 =>
    match cutFields [4, 3] payload with
    | some [patron, title] => some (.holdCancel patron title)
    | _ => none
  | 12 =>
    match cutFields [1, 1] payload with
    | some [lane, action] => some (.laneControl lane action)
    | _ => none
  | 13 => if payload.isEmpty then some .statusRead else none
  | 14 => if payload.isEmpty then some .faultRead else none
  | 15 => if payload.isEmpty then some .faultClear else none
  | 16 => if payload.isEmpty then some .restart else none
  | _ => none

/-! ## What the LC16 sends (R192, R193) -/

/-- One lane word's 13 bytes. -/
def wordBytes (type : Nat) (st : Nat) (code index aux a b : Nat) : List Byte :=
  let body := [BitVec.ofNat 8 (type * 4 + st), BitVec.ofNat 8 code, BitVec.ofNat 8 index, BitVec.ofNat 8 aux] ++
    bytesOf 4 a ++ bytesOf 4 b
  body ++ [wordCheck body]

/-- The bytes of a word the LC16 sends (the type table of R192). -/
def LaneWord.bytes : LaneWord → List Byte
  | .greet st => wordBytes 2 st.val 0 0 0 0 0
  | .begin_ st => wordBytes 4 st.val 0 0 0 0 0
  | .next st n => wordBytes 5 st.val 0 n 0 0 0
  | .field st index v => wordBytes 6 st.val 0 index 0 v.number 0
  | .final st f => wordBytes 10 st.val f.numbers.1 f.numbers.2 0 0 0
  | .offer st => wordBytes 11 st.val 0 0 0 0 0
  | .notice st n => wordBytes 13 st.val n.kind.number n.outcome.number n.tag n.patron n.value
  | .identify => wordBytes 15 0 0 0 0 0 0

/-- The fields of a summary, in R129's order. -/
def Summary.fields (m : Summary) : List CField :=
  [⟨2, m.closeDay⟩, ⟨2, m.evaluated⟩, ⟨4, m.cents⟩, ⟨2, m.expired⟩, ⟨2, m.resumed⟩, ⟨2, m.released⟩, ⟨2, m.freed⟩,
   ⟨2, m.restarts⟩]

/-- A fault's source in 3 bytes (R193). -/
def Source.fields : Source → List CField
  | .laneStation l st => [⟨1, 0⟩, ⟨1, l.val⟩, ⟨1, st.val⟩]
  | .lane l => [⟨1, 1⟩, ⟨1, l.val⟩, ⟨1, 0⟩]
  | .link => [⟨1, 2⟩, ⟨1, 0⟩, ⟨1, 0⟩]
  | .engine => [⟨1, 3⟩, ⟨1, 0⟩, ⟨1, 0⟩]
  | .sweep => [⟨1, 4⟩, ⟨1, 0⟩, ⟨1, 0⟩]
  | .scrubber => [⟨1, 5⟩, ⟨1, 0⟩, ⟨1, 0⟩]

def KindRef.fields : KindRef → List CField
  | .none => [⟨1, 0⟩, ⟨1, 0⟩]
  | .request code => [⟨1, 1⟩, ⟨1, code⟩]
  | .message kind => [⟨1, 2⟩, ⟨1, kind⟩]

def recordFields : Option RecordId → List CField
  | none => [⟨1, 0⟩, ⟨2, 0⟩]
  | some r => [⟨1, tableNumber r.table⟩, ⟨2, r.slot⟩]

/-- A fault's context, in R188's order (R193). -/
def Context.fields (c : Context) : List CField :=
  c.kind.fields ++ [⟨4, c.patron⟩, ⟨3, c.title⟩, ⟨4, c.copy⟩, ⟨2, c.tag⟩, ⟨4, c.cents⟩] ++ recordFields c.record ++
    [⟨2, c.frame⟩]

def FaultRec.fields (f : FaultRec) : List CField :=
  ⟨1, f.cls.number⟩ :: f.source.fields ++ f.context.fields

/-- The kind number of an outbound entry, 33 to 44 in the outbound table's order (R193). -/
def Notice.kind : Notice → Nat
  | .confirm .. => 33 | .balance .. => 34 | .renewed .. => 35 | .holdChange .. => 36 | .trapped .. => 37
  | .copyReleased .. => 38 | .fetchPatron .. => 39 | .fetchTitle .. => 40 | .authRequest .. => 41
  | .laneState .. => 42 | .sweepDone .. => 43 | .fault .. => 44

/-- The fields of an outbound entry, in the outbound table's order and at R193's widths. An absent copy id is 0 and a
return branch that is not known is 255. -/
def Notice.fields : Notice → List CField
  | .confirm seq kind status fs => [⟨2, seq⟩, ⟨1, kind⟩, ⟨1, status.number⟩] ++ fs
  | .balance patron amount pending blocked => [⟨4, patron⟩, ⟨4, amount⟩, ⟨4, pending⟩, ⟨1, if blocked then 1 else 0⟩]
  | .renewed copy patron due used => [⟨4, copy⟩, ⟨4, patron⟩, ⟨2, due⟩, ⟨1, used⟩]
  | .holdChange title patron change position => [⟨3, title⟩, ⟨4, patron⟩, ⟨1, change.number⟩, ⟨1, position⟩]
  | .trapped title patron branch deadline copy ret =>
    [⟨3, title⟩, ⟨4, patron⟩, ⟨1, branch⟩, ⟨2, deadline⟩, ⟨4, copy.getD 0⟩, ⟨1, ret.getD 255⟩]
  | .copyReleased title copy ret shelf => [⟨3, title⟩, ⟨4, copy.getD 0⟩, ⟨1, ret.getD 255⟩, ⟨1, shelf⟩]
  | .fetchPatron tag patron => [⟨2, tag.word⟩, ⟨4, patron⟩]
  | .fetchTitle tag title => [⟨2, tag.word⟩, ⟨3, title⟩]
  | .authRequest tag patron reserve cardRef lane st =>
    [⟨2, tag.word⟩, ⟨4, patron⟩, ⟨4, reserve⟩, ⟨4, cardRef⟩, ⟨1, lane.val⟩, ⟨1, st.val⟩]
  | .laneState lane life reason gen roll =>
    [⟨1, lane.val⟩, ⟨1, life.number⟩, ⟨1, reason.number⟩, ⟨2, gen⟩, ⟨1, roll.toNat⟩]
  | .sweepDone m => m.fields
  | .fault f _ => f.fields

/-- The frame an outbound entry is sent as (R193). -/
def Notice.frame (n : Notice) : List Byte :=
  let payload := n.fields.flatMap fun f => bytesOf f.width f.value
  let kind : Byte := BitVec.ofNat 8 n.kind
  [0x7E#8, kind, BitVec.ofNat 8 payload.length] ++ payload ++ bytesOf 2 (frameCheck kind payload).toNat

end Sys2Proof.Machine
end

