-- ==== Sys2Proof/Machine/Flags.lean ====
section
/-! DEFINITION. The conditions that rules read from the state without changing it: the calendar's questions, the
lookups by id, pressure and charge, payable amount and block condition, positions, free outbound entries, the
requests at the arbiter's positions and their notice need. -/

namespace Sys2Proof.Machine

/-! ## Calendar (R35 to R44) -/

/-- Today, C + 1 (R35). -/
def State.today (s : State) : Nat := s.calendar.closeDay + 1

/-- The day exists and lies in the window, C - 31 to C + 64 (R36). -/
def Calendar.inWindow (c : Calendar) (d : Nat) : Bool :=
  decide (c.closeDay ≤ d + Config.windowBehind) && decide (d ≤ c.closeDay + Config.windowAhead) &&
    decide (d ≤ Config.lastDay)

/-- The one case in which a day counts as closed: marked CLOSED inside the window (R37). -/
def Calendar.isClosed (c : Calendar) (d : Nat) : Bool :=
  c.inWindow d && decide (Tbl.lookup c.marks d = some .closed)

/-- The first of the next `fuel` days that counts as open, or the day after them. -/
def Calendar.scan (c : Calendar) : Nat → Nat → Nat
  | 0, d => d
  | fuel + 1, d => if c.isClosed d then Calendar.scan c fuel (d + 1) else d

/-- The open-day search (R43): it examines at most the window's 96 days. -/
def Calendar.openDay (c : Calendar) (base : Nat) : Nat :=
  if Config.lastDay < base then Config.lastDay
  else min Config.lastDay (c.scan (Config.windowBehind + Config.windowAhead + 1) base)

/-- The ready deadline of an entry trapped now (R44). -/
def State.pickupDeadline (s : State) : Nat := s.calendar.openDay (s.today + s.schedule.globals.pickupDays)

/-- An until-day as it is stored: at most today + 180, and at most 65,534 (R90, R101). -/
def State.storedUntil (s : State) (d : Nat) : Nat := min (min d (s.today + 180)) Config.lastDay

/-! ## Schedule -/

/-- The parameters of an item class. -/
def Schedule.cls (x : Schedule) (n : Nat) : ClassParams := x.classes[n]?.getD .powerOn

/-- The parameters of a patron category. -/
def Schedule.category (x : Schedule) (n : Nat) : CategoryParams := x.categories[n]?.getD .powerOn

/-! ## Lookups by id (R14, R27, R86) -/

/-- The patron id a slot's index place holds. -/
def PatronRec.id : PatronRec → Nat
  | .fetching id _ _ => id
  | .resident p => p.id
  | .unknown id _ => id
  | .damaged id => id

/-- The copy id a slot's index place holds. -/
def LoanRec.copy : LoanRec → Nat
  | .active l => l.copy
  | .damaged copy => copy

/-- The title id a slot's index place holds. -/
def TitleRec.id : TitleRec → Nat
  | .fetching id _ => id
  | .resident t => t.id
  | .damaged id => id

/-- The patron index: the slot that holds an id. A place that lost its id (0) is never found (R186). -/
def State.findPatron (s : State) (id : Nat) : Option Nat :=
  if id = 0 then none else Tbl.findSlot s.patrons fun r => r.id == id

/-- The copy index. -/
def State.findCopy (s : State) (copy : Nat) : Option Nat :=
  if copy = 0 then none else Tbl.findSlot s.loans fun r => r.copy == copy

/-- The title index. -/
def State.findTitle (s : State) (id : Nat) : Option Nat :=
  if id = 0 then none else Tbl.findSlot s.titles fun r => r.id == id

/-- The RESIDENT patron record of a slot. -/
def State.patronAt (s : State) (slot : Nat) : Option Patron :=
  match Tbl.lookup s.patrons slot with
  | some (.resident p) => some p
  | _ => none

/-- The ACTIVE loan record of a slot. -/
def State.loanAt (s : State) (slot : Nat) : Option Loan :=
  match Tbl.lookup s.loans slot with
  | some (.active l) => some l
  | _ => none

/-- The RESIDENT title record of a slot. -/
def State.titleAt (s : State) (slot : Nat) : Option Title :=
  match Tbl.lookup s.titles slot with
  | some (.resident t) => some t
  | _ => none

/-- The readable hold entry of a pool slot. -/
def State.holdAt (s : State) (slot : Nat) : Option Hold :=
  match Tbl.lookup s.pool slot with
  | some (.entry h) => some h
  | _ => none

/-- The RESIDENT title record of a title id. -/
def State.residentTitle (s : State) (id : Nat) : Option Title := (s.findTitle id).bind s.titleAt

/-! ## Queues (R88) -/

def Hold.isWaiting (h : Hold) : Bool := decide (h.state = .waiting)

def Hold.isSuspended (h : Hold) : Bool :=
  match h.state with
  | .suspended _ => true
  | _ => false

def Hold.isReady (h : Hold) : Bool :=
  match h.state with
  | .ready _ _ => true
  | _ => false

/-- The entries of a queue that satisfy p, counted over the readable ones. -/
def State.countHolds (s : State) (q : List QueueItem) (p : Hold → Bool) : Nat :=
  (q.filter fun i => ((s.holdAt i.slot).map p).getD false).length

/-- The first item of a queue whose readable entry satisfies p. -/
def State.firstHold (s : State) (q : List QueueItem) (p : Hold → Bool) : Option QueueItem :=
  q.find? fun i => ((s.holdAt i.slot).map p).getD false

/-- A patron's item in a queue: the first one in queue order. R88 allows no second one, but a patron whose record and index
place were lost with an entry in the queue (R186) is loaded anew with an empty hold list and can place again; no rule then
says which item is the patron's entry: the model's choice (notes/assumptions/71.md). -/
def Title.itemOf (t : Title) (patron : Nat) : Option QueueItem := t.queue.find? fun i => i.patron == patron

/-- 1 plus the WAITING and SUSPENDED entries ahead of the item that names this pool slot (R88). -/
def State.position (s : State) (t : Title) (slot : Nat) : Nat :=
  1 + s.countHolds (t.queue.takeWhile fun i => i.slot != slot) fun h => h.isWaiting || h.isSuspended

/-! ## Fines and accounts (R54, R56, R113, R123) -/

/-- A loan is under hold pressure (R54). -/
def State.underPressure (s : State) (l : Loan) : Bool :=
  let threshold := (s.schedule.cls l.cls).threshold
  decide (threshold ≠ 0) &&
    match s.residentTitle l.title with
    | some t => decide (threshold ≤ t.waiting)
    | none => false

/-- The daily charge: rate × factor × m, plus 50, divided by 100, the remainder discarded (R56). -/
def dailyCharge (rate factor multiplier : Nat) : Nat := (rate * factor * multiplier + 50) / 100

/-- The payable amount (R113). -/
def Patron.payable (p : Patron) : Nat := p.balance - p.pending

/-- The block compare's outcome (R123). -/
def State.blockDue (s : State) (p : Patron) : Bool :=
  let threshold := (s.schedule.category p.category).threshold
  decide (threshold ≠ 0) && decide (threshold ≤ p.balance)

/-! ## Request tags (R146, R147, R149) -/

/-- A number whose question is out and can be answered. -/
def Tag.isOut (t : Tag) : Bool := decide (t.state = .outstanding) || decide (t.state = .due)

/-- The question out under a number. -/
def Tag.asked (t : Tag) : Option Question := if t.isOut then t.question else none

/-- The lowest-numbered FREE number. -/
def State.freeTag (s : State) : Option (Fin 32) :=
  (List.finRange 32).find? fun n => decide ((s.tags.get n).state = .free)

/-- The questions out under every number. -/
def State.questions (s : State) : List Question := s.tags.toList.filterMap Tag.asked

/-- The sum of the reserves of the outstanding CARD_AUTH tags of a patron (R25, R113). -/
def State.reserves (s : State) (patron : Nat) : Nat :=
  ((s.questions.filter fun q => decide (q.kind = .cardAuth) && q.subject == patron).map Question.reserve).sum

/-- An outstanding tag names this patron (R18). -/
def State.tagNames (s : State) (patron : Nat) : Bool :=
  s.questions.any fun q =>
    match q.kind with
    | .patronFetch | .cardAuth => q.subject == patron
    | .titleFetch => (q.parked.map fun k => k.patron == patron).getD false

/-! ## The outbound queue (R3) -/

/-- The entries reserved for the operation in progress. -/
def Engine.reservation : Engine → Nat
  | .free => 0
  | .busy op => op.reservation
  | .waitingRoom op => op.reservation

/-- The free outbound entries: 128, less the occupied ones, less the reservation in force (R3). -/
def State.freeEntries (s : State) : Nat :=
  Config.outboundEntries - (s.link.outbound.length + s.engine.reservation)

/-- The entries another block may take: none while the engine is in WAITING_ROOM, which takes each freed entry first,
nor while an operation has posts waiting for room (R8). -/
def State.roomForOthers (s : State) : Nat :=
  match s.engine with
  | .waitingRoom _ => 0
  | .busy op => if op.waiting.isEmpty then s.freeEntries else 0
  | .free => s.freeEntries

/-- Flow hold is asserted while 56 or more inbound places are occupied (R177). -/
def State.flowHold (s : State) : Bool := decide (Config.holdLevel ≤ s.link.inbound.length)

/-! ## Lanes -/

/-- The lane is idle (R157). -/
def LaneUnit.isIdle (u : LaneUnit) : Bool :=
  decide (u.life = .active) && u.exchange.isNone && decide (u.offer = .none)

/-- Parked operations plus stacked notices of a station (R154). -/
def StationState.sum (x : StationState) : Nat := x.parked + x.stack.length

/-- A lane in its attachment: ACTIVE or QUIESCING. -/
def LaneUnit.isAttached (u : LaneUnit) : Bool := decide (u.life = .active) || decide (u.life = .quiescing)

/-! ## The arbiter's positions (R4, R6) -/

/-- The engine has no operation. -/
def Engine.isFree : Engine → Bool
  | .free => true
  | _ => false

/-- The operation record, while there is one. -/
def State.op? (s : State) : Option Op :=
  match s.engine with
  | .free => none
  | .busy op => some op
  | .waitingRoom op => some op

/-- The request of a lane: complete, in WORKING and not yet granted. -/
def LaneUnit.request (u : LaneUnit) : Option OpKind :=
  match u.exchange with
  | some ex =>
    match ex.step, ex.code with
    | .working .atArbiter, some code => some (.request code ex.fields)
    | _, _ => none
  | none => none

/-- The LINK request: the message at the head of the inbound queue, with no overrun CONFIRM owed ahead of it (R176,
R178). -/
def Link.request (k : Link) : Option OpKind :=
  if k.sideList.isEmpty then
    match k.inbound with
    | p :: _ =>
      match p.content with
      | .message kind m => if p.confirmed then none else some (.message kind m)
      | .marker _ _ => none
    | [] => none
  else none

/-- The SWEEP request: the step the Sweep Unit owes (R131). -/
def Sweep.request (w : Sweep) : Option OpKind :=
  match w.state with
  | .idle => none
  | .loans => some .loansStep
  | .holds => some .holdsStep

/-- The request an arbiter position presents (R4). -/
def State.requestAt (s : State) (p : Nat) : Option OpKind :=
  if h : p < 16 then (s.lanes.get ⟨p, h⟩).request
  else if p = 16 then s.link.request
  else if p = 17 then s.sweep.request
  else if p = 18 then s.tagLine.head?.map .tagExpiry
  else none

/-- The number of entries in a patron's loan list; only a RESIDENT record has one. -/
def State.loanCount (s : State) (patron : Nat) : Nat :=
  match (s.findPatron patron).bind s.patronAt with
  | some p => p.loans.length
  | none => 0

/-- A lane request's figure in the table of R6. -/
def State.requestFigure (s : State) (code : ReqCode) (patron : Nat) : Nat :=
  match code with
  | .account | .detail | .poll => 0
  | .payCash => 1
  | .renew | .payCard => 2
  | .placeHold | .cancelHold | .suspendHold | .resumeHold => 3
  | .renewAll => s.loanCount patron + 1

/-- The notice need of a request, from the present contents of the tables (R6). A title that is not RESIDENT has no queue
to count in (notes/assumptions/15.md). -/
def State.noticeNeed (s : State) : OpKind → Nat
  | .request code fields =>
    match fields with
    | patron :: _ =>
      if (s.findPatron patron).isNone then max 1 (s.requestFigure code patron) else s.requestFigure code patron
    | [] => s.requestFigure code 0
  | .message _ (.titleLoad _ title _ shelf) =>
    min 127 (max 3 (min shelf (((s.residentTitle title).map Title.waiting).getD 0))) + 1
  | .message _ _ => 4
  | .loansStep => 1
  | .holdsStep => 8
  | .tagExpiry _ => 1

/-- The source a fault of the present work carries: the sweep in a sweep step, the engine in any other operation, the
scrubber while the engine is FREE (R185, R188). -/
def State.workSource (s : State) : Source :=
  match s.op? with
  | none => .scrubber
  | some op =>
    match op.kind with
    | .loansStep | .holdsStep => .sweep
    | _ => .engine

/-- The request or message kind a fault of the present work carries (R188). -/
def State.workKind (s : State) : KindRef :=
  match s.op? with
  | none => .none
  | some op =>
    match op.kind with
    | .request code _ => .request code.number
    | .message kind _ => .message kind
    | _ => .none

end Sys2Proof.Machine
end

