-- ==== Sys2Proof/Machine/Ops.lean ====
section
/-! DEFINITION. The named operations over the state: slot writes with their fresh check bits (R185), the posting of
outbound entries (R1, R3, R8, R181) and the recording of faults (R189). -/

namespace Sys2Proof.Machine

/-! ## Check bits (R185) -/

/-- An error at an access of its record: one that stands there is read or written over, and goes; one that is to come
is one access nearer. -/
def passFlip (f : Flip) : Option Flip := if f.skip = 0 then none else some { f with skip := f.skip - 1 }

/-- The errors after an access of each record that `w` picks. -/
def passWhere (w : RecordId → Bool) (fs : List Flip) : List Flip :=
  fs.filterMap fun f => if w f.record then passFlip f else some f

/-- What the index place of a patron slot holds: the slot's state and its id. -/
def PatronRec.place : PatronRec → Nat × Nat
  | .fetching id _ _ => (1, id)
  | .resident p => (2, p.id)
  | .unknown id _ => (3, id)
  | .damaged id => (4, id)

/-- What the index place of a loan slot holds. -/
def LoanRec.place : LoanRec → Nat × Nat
  | .active l => (1, l.copy)
  | .damaged copy => (2, copy)

/-- What the index place of a title slot holds. -/
def TitleRec.place : TitleRec → Nat × Nat
  | .fetching id _ => (1, id)
  | .resident t => (2, t.id)
  | .damaged id => (3, id)

/-- What a tag number's map entry holds. -/
def Tag.mapPart (t : Tag) : TagState × Nat × Bool := (t.state, t.gen, t.mapLost)

/-- What a tag number's record holds. -/
def Tag.recordPart (t : Tag) : Option Question × Nat := (t.question, t.recordGen)

/-- The records that a write of slot n writes: the slot's record in table `t`, and its place in the index `p` when what
the place holds changes. -/
def slotWrites (t p : Table) (n : Nat) (placeToo : Bool) (r : RecordId) : Bool :=
  decide (r = ⟨t, n⟩) || (placeToo && decide (r = ⟨p, n⟩))

/-- The records that differ between two contents of a table and its index. -/
def tableWrites {α : Type} [DecidableEq α] (t p : Table) (place : α → Nat × Nat) (old new : Tbl α) (r : RecordId) :
    Bool :=
  let a := Tbl.lookup old r.slot
  let b := Tbl.lookup new r.slot
  (decide (r.table = t) && decide (a ≠ b)) || (decide (r.table = p) && decide (a.map place ≠ b.map place))

/-- The tag records and map entries that are written between two contents of the tag table: those that differ, and the
record of a number that becomes FREE, which is cleared (R152, R156). -/
def tagWrites (old new : Vector Tag 32) (r : RecordId) : Bool :=
  let a := old[r.slot]?
  let b := new[r.slot]?
  (decide (r.table = .tag) && (decide (a.map Tag.recordPart ≠ b.map Tag.recordPart) ||
      (decide (b.map Tag.state = some .free) && decide (a.map Tag.state ≠ some .free)))) ||
    (decide (r.table = .tagMap) && decide (a.map Tag.mapPart ≠ b.map Tag.mapPart))

/-! ## Slots -/

/-- A patron slot written, with its index place where its state or id changes (R14, R185). -/
def State.setPatron (s : State) (n : Nat) (r : PatronRec) : State :=
  { s with
    patrons := Tbl.store s.patrons n r
    upsets := passWhere (slotWrites .patron .patronIndex n
      (decide ((Tbl.lookup s.patrons n).map PatronRec.place ≠ some r.place))) s.upsets }

def State.freePatron (s : State) (n : Nat) : State :=
  { s with
    patrons := Tbl.release s.patrons n, upsets := passWhere (slotWrites .patron .patronIndex n true) s.upsets }

/-- A loan slot written, with its index place where its state or id changes (R27, R185). -/
def State.setLoan (s : State) (n : Nat) (r : LoanRec) : State :=
  { s with
    loans := Tbl.store s.loans n r
    upsets := passWhere (slotWrites .loan .copyIndex n
      (decide ((Tbl.lookup s.loans n).map LoanRec.place ≠ some r.place))) s.upsets }

def State.freeLoan (s : State) (n : Nat) : State :=
  { s with loans := Tbl.release s.loans n, upsets := passWhere (slotWrites .loan .copyIndex n true) s.upsets }

/-- A title slot written, with its index place where its state or id changes (R86, R185). -/
def State.setTitle (s : State) (n : Nat) (r : TitleRec) : State :=
  { s with
    titles := Tbl.store s.titles n r
    upsets := passWhere (slotWrites .title .titleIndex n
      (decide ((Tbl.lookup s.titles n).map TitleRec.place ≠ some r.place))) s.upsets }

def State.freeTitle (s : State) (n : Nat) : State :=
  { s with titles := Tbl.release s.titles n, upsets := passWhere (slotWrites .title .titleIndex n true) s.upsets }

def State.setPool (s : State) (n : Nat) (r : PoolRec) : State :=
  { s with pool := Tbl.store s.pool n r, upsets := passWhere (fun q => decide (q = ⟨.pool, n⟩)) s.upsets }

def State.freePool (s : State) (n : Nat) : State :=
  { s with pool := Tbl.release s.pool n, upsets := passWhere (fun q => decide (q = ⟨.pool, n⟩)) s.upsets }

/-- The whole patron table written: each record and index place that changes takes fresh check bits. -/
def State.putPatrons (s : State) (t : Tbl PatronRec) : State :=
  { s with patrons := t, upsets := passWhere (tableWrites .patron .patronIndex PatronRec.place s.patrons t) s.upsets }

/-- The whole title table written. -/
def State.putTitles (s : State) (t : Tbl TitleRec) : State :=
  { s with titles := t, upsets := passWhere (tableWrites .title .titleIndex TitleRec.place s.titles t) s.upsets }

/-- The whole pool written; pool slots have no index place. -/
def State.putPool (s : State) (t : Tbl PoolRec) : State :=
  { s with pool := t, upsets := passWhere (tableWrites .pool .pool (fun _ => (0, 0)) s.pool t) s.upsets }

/-- The whole tag table written. -/
def State.putTags (s : State) (v : Vector Tag 32) : State :=
  { s with tags := v, upsets := passWhere (tagWrites s.tags v) s.upsets }

def State.setTag (s : State) (n : Fin 32) (t : Tag) : State := s.putTags (s.tags.set n.val t n.isLt)

def State.setLane (s : State) (l : Lane) (u : LaneUnit) : State := { s with lanes := s.lanes.set l.val u l.isLt }

def State.lane (s : State) (l : Lane) : LaneUnit := s.lanes.get l

/-- The RESIDENT record of a slot changed by f; any other record is left as it stands. -/
def State.mapPatron (s : State) (n : Nat) (f : Patron → Patron) : State :=
  match s.patronAt n with
  | some p => s.setPatron n (.resident (f p))
  | none => s

/-- The RESIDENT title of a slot changed by f. -/
def State.mapTitle (s : State) (n : Nat) (f : Title → Title) : State :=
  match s.titleAt n with
  | some t => s.setTitle n (.resident (f t))
  | none => s

/-- The station state of a lane's station changed by f. -/
def LaneUnit.mapStation (u : LaneUnit) (st : Station) (f : StationState → StationState) : LaneUnit :=
  { u with stations := u.stations.set st.val (f (u.stations.get st)) st.isLt }

/-- The operation record changed by f. -/
def Engine.mapOp (f : Op → Op) : Engine → Engine
  | .free => .free
  | .busy op => .busy (f op)
  | .waitingRoom op => .waitingRoom (f op)

def State.mapOp (s : State) (f : Op → Op) : State := { s with engine := s.engine.mapOp f }

/-! ## The outbound queue -/

/-- A notice updates a waiting one for the same subject: BALANCE by patron, LANE_STATE by lane (R181). -/
def Notice.sameSubject (new old : Notice) : Bool :=
  match new, old with
  | .balance p _ _ _, .balance q _ _ _ => p == q
  | .laneState l _ _ _ _, .laneState m _ _ _ _ => l == m
  | _, _ => false

/-- The first notice of the same subject replaced, or none when there is none. -/
def coalesceIn (n : Notice) : List Notice → Option (List Notice)
  | [] => none
  | old :: rest => if n.sameSubject old then some (n :: rest) else (coalesceIn n rest).map (old :: ·)

/-- The outbound queue with the notice merged into an unsent entry; the entry being sent is not unsent (R180, R181). -/
def Link.coalesce (k : Link) (n : Notice) : Option (List Notice) :=
  if k.sending then
    match k.outbound with
    | [] => none
    | head :: rest => (coalesceIn n rest).map (head :: ·)
  else coalesceIn n k.outbound

def State.setOutbound (s : State) (q : List Notice) : State := { s with link := { s.link with outbound := q } }

/-- The notice at the end of the outbound queue. -/
def State.append (s : State) (n : Notice) : State := s.setOutbound (s.link.outbound ++ [n])

/-- A post by the operation in progress: it coalesces, or uses one reserved entry, or takes a free entry, or waits for
room behind the posts that already wait (R1, R3, R8). -/
def State.post (s : State) (n : Notice) : State :=
  match s.link.coalesce n with
  | some q => s.setOutbound q
  | none =>
    match s.engine with
    | .busy op =>
      if op.waiting ≠ [] then s.mapOp fun o => { o with waiting := o.waiting ++ [n] }
      else if 0 < op.reservation then (s.append n).mapOp fun o => { o with reservation := o.reservation - 1 }
      else if 0 < s.freeEntries then s.append n
      else s.mapOp fun o => { o with waiting := [n] }
    | _ => s

/-- The BALANCE of ACCOUNT and of PATRON_LOAD: it coalesces, or takes a free entry, or is not posted (R9). -/
def State.postIfRoom (s : State) (n : Notice) : State :=
  match s.link.coalesce n with
  | some q => s.setOutbound q
  | none => if 0 < s.roomForOthers then s.append n else s

/-- ACCOUNT and PATRON_LOAD do not count their BALANCE in their notice need (R9). -/
def State.balanceIsOptional (s : State) : Bool :=
  match s.op? with
  | some op =>
    match op.kind with
    | .request .account _ => true
    | .message _ (.patronLoad ..) => true
    | _ => false
  | none => false

def Patron.balanceNotice (p : Patron) : Notice := .balance p.id p.balance p.pending p.blocked

/-- Post the BALANCE of a RESIDENT patron slot (R125). -/
def State.postBalance (s : State) (slot : Nat) : State :=
  match s.patronAt slot with
  | some p => if s.balanceIsOptional then s.postIfRoom p.balanceNotice else s.post p.balanceNotice
  | none => s

/-! ## Lane words and lane states out -/

/-- A word sent on a lane. -/
def State.send (s : State) (l : Lane) (w : LaneWord) : State := { s with laneOut := s.laneOut ++ [(l, w)] }

/-- The LANE_STATE of a lane's present values (R159). -/
def LaneUnit.stateNotice (u : LaneUnit) (l : Lane) : Notice := .laneState l u.life u.reason u.gen u.roll

def State.setOwed (s : State) (l : Lane) (b : Bool) : State := s.setLane l { s.lane l with stateOwed := b }

/-- Post LANE_STATE for a change made by the Lane Interface: coalesce, take a free entry, or owe it (R159). -/
def State.announce (s : State) (l : Lane) : State :=
  let n := (s.lane l).stateNotice l
  match s.link.coalesce n with
  | some q => (s.setOutbound q).setOwed l false
  | none => if 0 < s.roomForOthers then (s.append n).setOwed l false else s.setOwed l true

/-- Post LANE_STATE within a LANE_CONTROL operation, against its reservation (R159). -/
def State.announceByOp (s : State) (l : Lane) : State :=
  (s.post ((s.lane l).stateNotice l)).setOwed l false

/-! ## Faults (R188, R189) -/

def Context.empty : Context := ⟨.none, 0, 0, 0, 0, 0, none, 0⟩

/-- The accumulated set holds a class. -/
def FaultLog.has (f : FaultLog) (c : FaultClass) : Bool := f.classes.getLsbD c.number

/-- A correction's class (R189). -/
def FaultLog.correctionClass (f : FaultLog) : FaultClass :=
  if f.has .memoryCorrected || f.has .repeatedCorrected then .repeatedCorrected else .memoryCorrected

/-- The set and the corrected count after a fault of a class (R189 steps 1 and 2). -/
def FaultLog.count (f : FaultLog) (c : FaultClass) : FaultLog :=
  { f with
    classes := f.classes ||| (1#16 <<< c.number)
    corrected := if c = .memoryCorrected ∨ c = .repeatedCorrected then min 65535 (f.corrected + 1) else f.corrected }

/-- Record one fault (R189): it joins the set, and an empty first-fault record captures it and posts a FAULT, or owes
it when no entry is free (R182). -/
def State.logFault (s : State) (c : FaultClass) (source : Source) (ctx : Context) : State :=
  let counted := s.faults.count c
  match s.faults.first with
  | some _ => { s with faults := counted }
  | none =>
    let f : FaultRec := ⟨c, source, ctx⟩
    let captured := { counted with first := some f, reported := false, captures := counted.captures + 1 }
    if 0 < s.roomForOthers then ({ s with faults := captured }).append (.fault f captured.captures)
    else { s with faults := { captured with owed := true } }

/-- A FAULT that is owed takes a free entry (R182). -/
def State.postOwedFault (s : State) : State :=
  match s.faults.owed, s.faults.first with
  | true, some f =>
    if 0 < s.roomForOthers then
      ({ s with faults := { s.faults with owed := false } }).append (.fault f s.faults.captures)
    else s
  | _, _ => s

/-- A LANE_STATE that is owed takes a free entry (R159). -/
def State.postOwedLaneState (s : State) (l : Lane) : State :=
  if (s.lane l).stateOwed then s.announce l else s

end Sys2Proof.Machine
end

