-- ==== Sys2Proof/Machine/Memory.lean ====
section
/-! DEFINITION. The Memory Checker (R185 to R187): checked reads, correction, damage marking, index repair, and the
scrubber's order. -/

namespace Sys2Proof.Machine

/-! ## One check -/

/-- The error that stands in a record: none, or whether it is one that the check bits cannot correct. -/
def standing (r : RecordId) (fs : List Flip) : Option Bool :=
  let now := fs.filter fun f => decide (f.record = r) && f.skip == 0
  if now.isEmpty then none else some (now.any Flip.hard)

def State.logMemory (s : State) (c : FaultClass) (r : RecordId) (patron title copy tag : Nat) : State :=
  s.logFault c s.workSource { Context.empty with patron, title, copy, tag, record := some r }

/-- A single-bit error is corrected in place and logged (R185, R189). -/
def State.logCorrection (s : State) (r : RecordId) : State := s.logMemory s.faults.correctionClass r 0 0 0 0

/-- The check of a record that is read: true when it finds an error that cannot be corrected (R185). -/
def State.check (s : State) (r : RecordId) : Bool × State :=
  let s' := { s with upsets := passWhere (fun q => decide (q = r)) s.upsets }
  match standing r s.upsets with
  | none => (false, s')
  | some false => (false, s'.logCorrection r)
  | some true => (true, s')

/-! ## Damage -/

/-- The patron id a slot's index place holds, 0 for none. -/
def State.patronIdAt (s : State) (n : Nat) : Nat := ((Tbl.lookup s.patrons n).map PatronRec.id).getD 0

def State.copyIdAt (s : State) (n : Nat) : Nat := ((Tbl.lookup s.loans n).map LoanRec.copy).getD 0

def State.titleIdAt (s : State) (n : Nat) : Nat := ((Tbl.lookup s.titles n).map TitleRec.id).getD 0

/-- The two bytes of the tag id of a number that the map knows, 0 otherwise. A FREE number has one too, with its kept
generation, though no question is out under it: the model's choice, since R155 says it of an OUTSTANDING or DUE tag
(notes/assumptions/69.md). -/
def State.tagWordAt (s : State) (n : Nat) : Nat :=
  if h : n < 32 then
    let t := s.tags.get ⟨n, h⟩
    if t.mapLost then 0 else tagWord t.gen n
  else 0

/-- MEMORY_DAMAGED with the record and the id that its index place holds now, 0 where none is known (R185, R186). A pool
slot has no index place: its context names the slot alone, with patron and title 0, also where the queue of a RESIDENT title
names the slot and its patron id is still known (R110). R188 asks for the id where known and does not say whether that one
counts: the model's choice (notes/assumptions/73.md). -/
def State.logDamage (s : State) (r : RecordId) : State :=
  match r.table with
  | .patron | .patronIndex => s.logMemory .memoryDamaged r (s.patronIdAt r.slot) 0 0 0
  | .loan | .copyIndex => s.logMemory .memoryDamaged r 0 0 (s.copyIdAt r.slot) 0
  | .title | .titleIndex => s.logMemory .memoryDamaged r 0 (s.titleIdAt r.slot) 0 0
  | .tag | .tagMap => s.logMemory .memoryDamaged r 0 0 0 (s.tagWordAt r.slot)
  | .pool => s.logMemory .memoryDamaged r 0 0 0 0

/-- The title slot whose RESIDENT queue names a pool slot. -/
def State.queueNaming (s : State) (slot : Nat) : Option Nat :=
  Tbl.findSlot s.titles fun r =>
    match r with
    | .resident t => t.queue.any fun i => i.slot == slot
    | _ => false

/-- Some title record is DAMAGED. -/
def State.anyTitleDamaged (s : State) : Bool :=
  s.titles.any fun e =>
    match e.2 with
    | .damaged _ => true
    | _ => false

/-- The counts of a title's readable entries. -/
def State.recount (s : State) (t : Title) : Title :=
  { t with waiting := s.countHolds t.queue Hold.isWaiting, ready := s.countHolds t.queue Hold.isReady }

/-- A number at the end of the TAGS line, whether or not it stood there before (R155). -/
def State.toLineEnd (s : State) (n : Nat) : State := { s with tagLine := s.tagLine.filter (· != n) ++ [n] }

/-- A checked read of one record, as it is made of other records while an error is dealt with. -/
abbrev Reader := RecordId → State → State

/-- The slots of a table whose records have an error standing or to come, rising. -/
def State.upsetSlots (s : State) (t : Table) : List Nat :=
  (s.upsets.filterMap fun f => if f.record.table = t then some f.record.slot else none).dedup.insertionSort (· ≤ ·)

/-- Every record of a table read, in slot order; only the records with an error show anything. -/
def State.scanBy (read : Reader) (t : Table) (s : State) : State :=
  (s.upsetSlots t).foldl (fun s n => read ⟨t, n⟩ s) s

/-- The counts of a title come afresh from its queue's readable entries, which are read for it in queue order (R110). -/
def State.recountBy (read : Reader) (tslot : Nat) (s : State) : State :=
  match s.titleAt tslot with
  | some t =>
    let s := t.queue.foldl (fun s i => read ⟨.pool, i.slot⟩ s) s
    s.mapTitle tslot s.recount
  | none => s

/-- An unreadable pool slot holds no readable entry, while the titles are read for what becomes of it; its check bits are
written once that is known. -/
def State.forgetEntry (s : State) (n : Nat) : State := { s with pool := Tbl.store s.pool n .damaged }

/-- An uncorrectable error in a record (R185): an occupied record becomes DAMAGED as its table's rule gives (R24, R32,
R108, R110, R155), and a slot that nothing names is rewritten as FREE. The queues that may name a pool slot are read
from the title records, while what the slot held is known no longer: a title lost within that read does not take its id
from it (R186). -/
def State.markDamaged (read : Reader) (r : RecordId) (s : State) : State :=
  match r.table with
  | .patron =>
    match Tbl.lookup s.patrons r.slot with
    | some x => s.setPatron r.slot (.damaged x.id)
    | none => s
  | .loan =>
    match Tbl.lookup s.loans r.slot with
    | some x => s.setLoan r.slot (.damaged x.copy)
    | none => s
  | .title =>
    match Tbl.lookup s.titles r.slot with
    | some x => s.setTitle r.slot (.damaged x.id)
    | none => s
  | .pool =>
    let s := (s.forgetEntry r.slot).scanBy read .title
    match s.queueNaming r.slot with
    | some title => (s.setPool r.slot .damaged).recountBy read title
    | none => if s.anyTitleDamaged then s.setPool r.slot .damaged else s.freePool r.slot
  | .tag =>
    if h : r.slot < 32 then
      let t := s.tags.get ⟨r.slot, h⟩
      if t.isOut then
        (s.setTag ⟨r.slot, h⟩ { t with state := .damaged, question := none }).toLineEnd r.slot
      else s.setTag ⟨r.slot, h⟩ { t with question := none, recordGen := t.gen }
    else s
  | _ => s

/-- The record is already DAMAGED, and so is not read again (R185). -/
def State.isDamaged (s : State) (r : RecordId) : Bool :=
  match r.table with
  | .patron =>
    match Tbl.lookup s.patrons r.slot with
    | some (.damaged _) => true
    | _ => false
  | .loan =>
    match Tbl.lookup s.loans r.slot with
    | some (.damaged _) => true
    | _ => false
  | .title =>
    match Tbl.lookup s.titles r.slot with
    | some (.damaged _) => true
    | _ => false
  | .pool => decide (Tbl.lookup s.pool r.slot = some .damaged)
  | .tag => if h : r.slot < 32 then decide ((s.tags.get ⟨r.slot, h⟩).state = .damaged) else false
  | _ => false

/-! ## Index places and map entries (R186) -/

/-- The first hold entry, in pool-slot order, whose id (patron or title) no other readable index place holds. -/
def State.unplacedId (s : State) (idOf : Hold → Nat) (placed : List Nat) : Option Nat :=
  ((s.pool.filterMap fun e =>
    match e.2 with
    | .entry h => some (idOf h)
    | .damaged => none).find? fun id => !placed.contains id)

/-- An ACTIVE loan record names this patron slot. -/
def State.loanNames (s : State) (slot : Nat) : Bool :=
  s.loans.any fun e =>
    match e.2 with
    | .active l => l.patronSlot == slot
    | .damaged _ => false

/-- The id that an unreadable index place held is known no longer, while it is looked for elsewhere (R186). -/
def State.forgetId (place : RecordId) (s : State) : State :=
  match place.table with
  | .patronIndex => { s with patrons := Tbl.store s.patrons place.slot (.damaged 0) }
  | .titleIndex => { s with titles := Tbl.store s.titles place.slot (.damaged 0) }
  | _ => s

/-- The other places of an index read, in slot order. -/
def State.scanOthers (read : Reader) (place : RecordId) (s : State) : State :=
  s.scanBy (fun r s => if r = place then s else read r s) place.table

/-- The index place and the record beside it are both lost: the id is recovered from elsewhere where the tables allow
(R186), from the hold entries, the other places and the loan records as they read now. When the read of the other places
finds a second slot so lost, that slot takes the first unplaced id before this one does, an order that no rule gives: the
model's choice (notes/assumptions/61.md). -/
def State.recoverPlace (read : Reader) (place : RecordId) (s : State) : State :=
  let n := place.slot
  match place.table with
  | .patronIndex =>
    let s := ((s.forgetId place).scanOthers read place).scanBy read .pool
    match s.unplacedId Hold.patron ((s.patrons.filter fun e => e.1 != n).map fun e => e.2.id) with
    | some id => s.setPatron n (.damaged id)
    | none =>
      let s := s.scanBy read .loan
      if s.loanNames n then s.setPatron n (.damaged 0) else s.freePatron n
  | .titleIndex =>
    let s := ((s.forgetId place).scanOthers read place).scanBy read .pool
    match s.unplacedId Hold.title ((s.titles.filter fun e => e.1 != n).map fun e => e.2.id) with
    | some id => s.setTitle n (.damaged id)
    | none => s.freeTitle n
  | .copyIndex => s.setLoan n (.damaged 0)
  | .tagMap =>
    if h : n < 32 then
      (s.setTag ⟨n, h⟩ ⟨.damaged, 0, true, none, 0⟩).toLineEnd n
    else s
  | _ => s

/-- The index place or map entry that stands beside a record, if its table has one. -/
def indexTable : Table → Option Table
  | .patron => some .patronIndex
  | .loan => some .copyIndex
  | .title => some .titleIndex
  | .tag => some .tagMap
  | _ => none

/-- The table whose record stands beside an index place or a map entry. -/
def besideTable : Table → Option Table
  | .patronIndex => some .patron
  | .copyIndex => some .loan
  | .titleIndex => some .title
  | .tagMap => some .tag
  | _ => none

/-- A record and the place beside it are found unreadable together (R186). Both are logged once the recovery has shown
which id the place holds, the record before the place (notes/assumptions/49.md). -/
def State.bothLost (read : Reader) (record place : RecordId) (s : State) : State :=
  ((s.recoverPlace read place).logDamage record).logDamage place

/-- An index place or map entry with an uncorrectable error is repaired from the record beside it when that record
reads clean; otherwise its id is recovered from elsewhere or lost (R186). A correction of that record is logged before the
MEMORY_DAMAGED of the place, an order that no rule gives: the model's choice (notes/assumptions/65.md). -/
def State.placeLost (read : Reader) (place record : RecordId) (s : State) : State :=
  if s.isDamaged record then (s.recoverPlace read place).logDamage place
  else
    let x := s.check record
    if x.1 then x.2.bothLost read record place else x.2.logDamage place

/-- A record with an uncorrectable error is marked by what its index place or map entry, read now, says of it; a pool
slot has none (R185). A correction of that place is logged before the MEMORY_DAMAGED of the record, an order that no rule
gives: the model's choice (notes/assumptions/65.md). -/
def State.recordLost (read : Reader) (r : RecordId) (s : State) : State :=
  match indexTable r.table with
  | none => (s.logDamage r).markDamaged read r
  | some t =>
    let x := s.check ⟨t, r.slot⟩
    if x.1 then x.2.bothLost read r ⟨t, r.slot⟩ else (x.2.logDamage r).markDamaged read r

/-- An uncorrectable error, in a record or in the place beside one. -/
def State.lost (read : Reader) (r : RecordId) (s : State) : State :=
  match besideTable r.table with
  | some t => s.placeLost read r ⟨t, r.slot⟩
  | none => s.recordLost read r

/-! ## Checked reads -/

/-- One checked read of a record, an index place or a map entry, and within it the reads that dealing with its error
takes. Each of those reads stands at least one error nearer the end, so `fuel` more than the errors left is enough. -/
def State.readBy : Nat → RecordId → State → State
  | 0, _, s => s
  | fuel + 1, r, s =>
    if s.isDamaged r then s
    else
      let x := s.check r
      if x.1 then x.2.lost (State.readBy fuel) r else x.2

/-- One checked read of a record, an index place or a map entry (R185, R186). -/
def State.readRecord (s : State) (r : RecordId) : State := s.readBy (s.upsets.length + 1) r

/-- A scan that reads every record of a table, in slot order. -/
def State.scanTable (s : State) (t : Table) : State := s.scanBy (fun r s => s.readRecord r) t

/-! ## The reads of operations -/

def State.readPatron (s : State) (n : Nat) : State := s.readRecord ⟨.patron, n⟩

def State.readLoan (s : State) (n : Nat) : State := s.readRecord ⟨.loan, n⟩

def State.readTitle (s : State) (n : Nat) : State := s.readRecord ⟨.title, n⟩

def State.readPool (s : State) (n : Nat) : State := s.readRecord ⟨.pool, n⟩

/-- A tag number's map entry and record. -/
def State.readTag (s : State) (n : Nat) : State := (s.readRecord ⟨.tagMap, n⟩).readRecord ⟨.tag, n⟩

/-- Every tag number's map entry and record. -/
def State.scanTags (s : State) : State := (s.scanTable .tagMap).scanTable .tag

/-- The reads of a search through a table's places from slot `start` on: in slot order up to the slot found, or all of
them when none is (R185). What is found is asked again before each read, since a read may repair or lose a place (R186);
only the places with an error show anything. -/
def State.searchFrom (s : State) (t : Table) (start : Nat) (found : State → Option Nat) : State :=
  ((s.upsetSlots t).filter (start ≤ ·)).foldl (fun s n => if (found s).any (· < n) then s else s.readRecord ⟨t, n⟩) s

/-- The reads of a search through all of a table's places, from slot 0 on. -/
def State.searchPlaces (s : State) (t : Table) (found : State → Option Nat) : State := s.searchFrom t 0 found

/-- A lookup by patron id searches the index places, then reads the record of the slot it found (R14, R185). -/
def State.lookUpPatron (s : State) (id : Nat) : State :=
  let s := s.searchPlaces .patronIndex fun s => s.findPatron id
  match s.findPatron id with
  | some n => s.readPatron n
  | none => s

/-- A lookup by copy id. One whose reads lose the id (R186) finds no slot: the index is asked once they are made
(notes/assumptions/53.md). -/
def State.lookUpCopy (s : State) (copy : Nat) : State :=
  let s := s.searchPlaces .copyIndex fun s => s.findCopy copy
  match s.findCopy copy with
  | some n => s.readLoan n
  | none => s

/-- A lookup by title id. -/
def State.lookUpTitle (s : State) (id : Nat) : State :=
  let s := s.searchPlaces .titleIndex fun s => s.findTitle id
  match s.findTitle id with
  | some n => s.readTitle n
  | none => s

/-- The search for the lowest FREE patron slot reads the index places, which tell the occupied slots (R18, R185). -/
def State.readFreePatron (s : State) : State :=
  s.searchPlaces .patronIndex fun s => Tbl.firstFree s.patrons Config.patronSlots

/-- The search for the lowest FREE loan slot (R29). -/
def State.readFreeLoan (s : State) : State :=
  s.searchPlaces .copyIndex fun s => Tbl.firstFree s.loans Config.loanSlots

/-- The search for the lowest FREE title slot (R86). -/
def State.readFreeTitle (s : State) : State :=
  s.searchPlaces .titleIndex fun s => Tbl.firstFree s.titles Config.titleSlots

/-- The search for the lowest FREE pool slot reads the slots, each of which holds its own state (R87, R90;
notes/assumptions/11.md). -/
def State.readFreePool (s : State) : State :=
  s.searchPlaces .pool fun s => Tbl.firstFree s.pool Config.poolSlots

/-- A slot put into a rising list of slots, where it is not there already. -/
def insertSlot (n : Nat) : List Nat → List Nat
  | [] => [n]
  | m :: ms => if n < m then n :: m :: ms else if n = m then m :: ms else m :: insertSlot n ms

/-- The slots whose index places a sweep step may read from its cursor on: the occupied ones, and those FREE ones whose
place has an error standing or to come (R132, R134, R185). -/
def State.slotsFrom (s : State) (place : Table) (occupied : List Nat) (cursor : Nat) : List Nat :=
  ((s.upsetSlots place).foldr insertSlot occupied).filter fun n => cursor ≤ n

/-- The entries a queue names, read in queue order. -/
def State.readQueue (s : State) (q : List QueueItem) : State := q.foldl (fun s i => s.readPool i.slot) s

/-! ## The scrubber's order (R187) -/

/-- The number of records in the scrubber's round. -/
def scrubRound : Nat :=
  Config.patronSlots + Config.loanSlots + Config.titleSlots + Config.poolSlots + Config.tagSlots

/-- The slot of the table that the scrubber reads at a place of its round. -/
def scrubTarget (n : Nat) : RecordId :=
  if n < Config.patronSlots then ⟨.patron, n⟩
  else
    let n := n - Config.patronSlots
    if n < Config.loanSlots then ⟨.loan, n⟩
    else
      let n := n - Config.loanSlots
      if n < Config.titleSlots then ⟨.title, n⟩
      else
        let n := n - Config.titleSlots
        if n < Config.poolSlots then ⟨.pool, n⟩ else ⟨.tag, n - Config.poolSlots⟩

/-- One record of the scrubber's round: its index place or map entry, then the record unless it is DAMAGED; the two are
one read of the round (notes/assumptions/51.md). -/
def State.scrubOne (s : State) (r : RecordId) : State :=
  match indexTable r.table with
  | some t => (s.readRecord ⟨t, r.slot⟩).readRecord r
  | none => s.readRecord r

/-- The scrubber reads the next record and moves on; after the last it returns to patron slot 0 (R187). -/
def State.scrubNext (s : State) : State :=
  let s' := s.scrubOne (scrubTarget s.scrub)
  { s' with scrub := if s.scrub + 1 < scrubRound then s.scrub + 1 else 0 }

end Sys2Proof.Machine
end

