-- ==== Sys2Proof/Machine/Lanes.lean ====
section
/-! DEFINITION. The Lane Interface's own work: lifecycle changes and cuts (R158 to R162), the exchange (R164 to R168),
finals and the detail record (R169), and station notices (R153, R170). -/

namespace Sys2Proof.Machine

def codeRef : Option ReqCode → KindRef
  | some c => .request c.number
  | none => .none

/-- LANE_LINE_CHECK with the lane, the station where known, and the request code (R188). -/
def State.logLineCheck (s : State) (l : Lane) (st : Option Station) (code : Option ReqCode) : State :=
  s.logFault .laneLineCheck (match st with | some st => .laneStation l st | none => .lane l)
    { Context.empty with kind := codeRef code }

/-! ## Lifecycle -/

/-- What every cut does (R162): the exchange ends without a FINAL, held calls and offer go, the timers stop. The roll stays,
so that a lane entering FAULTED keeps it, as R162 says against R157 and R158: the model's choice between them
(notes/assumptions/64.md). -/
def LaneUnit.cut (u : LaneUnit) : LaneUnit :=
  { u with exchange := none, held := 0, offer := .none, closingCall := none, timer := .off }

/-- A cut that leaves for DETACHED or DISABLED also empties the stations' state and the roll (R162). -/
def LaneUnit.cutAndClear (u : LaneUnit) : LaneUnit :=
  { u.cut with stations := Vector.replicate 4 .clear, roll := 0 }

/-- The lane enters a lifecycle state for a reason. -/
def LaneUnit.enter (u : LaneUnit) (life : Lifecycle) (reason : LaneReason) : LaneUnit :=
  { u with life := life, reason := reason }

/-- A lane that is DETACHED with carrier present starts settling at once (R158, R173). -/
def LaneUnit.settleIfCarrier (u : LaneUnit) : LaneUnit :=
  if u.life = .detached ∧ u.carrier then { u with life := .settling, timer := .settle } else u

/-! ## Finals -/

/-- A REFUSED or CHECK final overwrites the station's detail record; the others leave it (R169). -/
def LaneUnit.noteFinal (u : LaneUnit) (st : Station) (f : Final) (code : Option ReqCode) (index : Nat) : LaneUnit :=
  match f with
  | .refused r => u.mapStation st fun x => { x with detail := ⟨.refused r, code, index⟩ }
  | .check c => u.mapStation st fun x => { x with detail := ⟨.check c, code, index⟩ }
  | _ => u

/-- The field index that a final takes into the detail record when it comes from the engine or the arbiter: the refused
field for BAD_FIELD, which is the until-day of a PLACE_HOLD or a SUSPEND_HOLD (R89, R91, R101), and 0 otherwise (R169,
R172). -/
def Final.fieldIndex (f : Final) (code : Option ReqCode) : Nat :=
  match f, code with
  | .refused .badField, some .placeHold => 4
  | .refused .badField, some .suspendHold => 3
  | _, _ => 0

/-- A word that awaits an answer: it is sent and the reply timer starts (R163). -/
def State.sendAwaited (s : State) (l : Lane) (w : LaneWord) : State :=
  (s.setLane l { s.lane l with timer := .reply }).send l w

/-- The exchange's FINAL is sent and the exchange is CLOSING; `code` and `index` are what the detail record takes. -/
def State.sendFinal (s : State) (l : Lane) (ex : Exchange) (f : Final) (code : Option ReqCode) (index : Nat) : State :=
  (s.setLane l ({ s.lane l with exchange := some { ex with step := .closing f } }.noteFinal ex.station f code index)).sendAwaited
    l (.final ex.station f)

/-- Move the exchange to another step. -/
def State.setStep (s : State) (l : Lane) (ex : Exchange) (step : ExchangeStep) : State :=
  s.setLane l { s.lane l with exchange := some { ex with step := step } }

/-- The results of a request go to the station: the first result field, or the FINAL when there are none (R166). -/
def State.sendAnswer (s : State) (l : Lane) (ex : Exchange) (a : Answer) : State :=
  match a.fields with
  | [] => s.sendFinal l ex a.final ex.code (a.final.fieldIndex ex.code)
  | v :: rest => (s.setStep l ex (.results 1 rest a.final)).sendAwaited l (.field ex.station 1 v)

/-! ## Calls, held calls and offers -/

/-- A CALL taken on an idle lane opens the exchange (R164). -/
def State.openExchange (s : State) (l : Lane) (st : Station) : State :=
  let ex : Exchange := ⟨st, .called, none, 0, []⟩
  if StationSet.has (s.lane l).roll st then
    (s.setStep l ex .called).sendAwaited l (.greet st)
  else s.sendFinal l ex (.check .unknownStation) none 0

/-- The station's oldest undeferred notice. -/
def StationState.offerable (x : StationState) : Option StationNotice := x.stack.find? fun n => !n.deferred

/-- The lowest-numbered station with an undeferred notice, and its oldest one (R170). -/
def LaneUnit.offerTo (u : LaneUnit) : Option (Station × StationNotice) :=
  (List.finRange 4).findSome? fun st => (u.stations.get st).offerable.map fun n => (st, n)

/-- What a lane does when its line is free: serve the lowest held call, or offer a stacked notice (R164, R170). -/
def State.useIdleLine (s : State) (l : Lane) : State :=
  let u := s.lane l
  if u.isIdle then
    match StationSet.lowest u.held with
    | some st => (s.setLane l { u with held := StationSet.remove u.held st }).openExchange l st
    | none =>
      match u.offerTo with
      | some (st, n) => (s.setLane l { u with offer := .offered ⟨st, n, false⟩ }).sendAwaited l (.offer st)
      | none => s
  else s

/-- The exchange is over: a QUIESCING lane closes (R161), an ACTIVE one serves its held calls (R164). -/
def State.endExchange (s : State) (l : Lane) : State :=
  let u := { s.lane l with exchange := none, timer := .off }
  match u.life with
  | .quiescing => (s.setLane l (u.cutAndClear.enter .disabled .disabled)).announce l
  | _ => (s.setLane l u).useIdleLine l

/-- A QUIESCING lane whose exchange is in WORKING answers its held calls, one FINAL (CHECK, LANE_CLOSING) at a time,
lowest station first (R161). -/
def State.answerHeldCall (s : State) (l : Lane) : State :=
  let u := s.lane l
  match u.life, u.exchange, u.closingCall, StationSet.lowest u.held with
  | .quiescing, some ⟨_, .working _, _, _, _⟩, none, some st =>
    (s.setLane l ({ u with held := StationSet.remove u.held st, closingCall := some st }.noteFinal st
      (.check .laneClosing) none 0)).sendAwaited l (.final st (.check .laneClosing))
  | _, _, _, _ => s

/-- The LANE_CLOSING final is accepted: results that arrived meanwhile are sent, or the next held call is answered
(R161). -/
def State.closingAccepted (s : State) (l : Lane) : State :=
  let u := s.lane l
  let s' := s.setLane l { u with closingCall := none, timer := .off }
  match u.exchange with
  | some ex =>
    match ex.step with
    | .working (.answered a _) => s'.sendAnswer l ex a
    | _ => s'.answerHeldCall l
  | none => s'

/-- The LANE_CLOSING final is sent again (R161, R168). -/
def State.repeatClosing (s : State) (l : Lane) (st : Station) : State :=
  (s.logLineCheck l (some st) none).sendAwaited l (.final st (.check .laneClosing))

/-- The request of a complete exchange is placed at the lane's arbiter position (R166). On a QUIESCING lane a held call is
answered then, before the search that may refuse the request (notes/assumptions/56.md). -/
def State.submit (s : State) (l : Lane) (ex : Exchange) : State :=
  (s.setLane l { s.lane l with exchange := some { ex with step := .working .atArbiter }, timer := .off }).answerHeldCall l

/-- A request's results handed to the lane that submitted it: they are sent when no LANE_CLOSING final awaits its
ACCEPT, and kept for that ACCEPT otherwise, with whether the request had its grant (R161, R166, R167). -/
def State.takeAnswer (s : State) (l : Lane) (ex : Exchange) (a : Answer) (granted : Bool) : State :=
  match (s.lane l).closingCall with
  | some _ => s.setStep l ex (.working (.answered a granted))
  | none => s.sendAnswer l ex a

/-- Results handed by the engine, accepted only by the exchange that submitted the request, still in WORKING under the
attach generation of the grant (R10). -/
def State.handAnswer (s : State) (o : Origin) (a : Answer) : State :=
  let u := s.lane o.lane
  match u.exchange with
  | some ex =>
    if ex.step = .working .granted ∧ u.gen = o.gen ∧ ex.station = o.station then s.takeAnswer o.lane ex a true else s
  | none => s

/-! ## Station notices (R153, R170) -/

/-- Push a notice on a station's stack and take one off its parked count. -/
def StationState.stackNotice (x : StationState) (n : StationNotice) : StationState :=
  { x with stack := x.stack ++ [n], parked := x.parked - 1 }

/-- A station notice handed to its origin lane is stacked when the lane is ACTIVE or QUIESCING under the generation
handed, and discarded otherwise (R153). -/
def State.handNotice (s : State) (o : Origin) (n : StationNotice) : State :=
  let u := s.lane o.lane
  if u.isAttached ∧ u.gen = o.gen then
    (s.setLane o.lane (u.mapStation o.station fun x => x.stackNotice n)).useIdleLine o.lane
  else s

/-- The first undeferred notice marked deferred. -/
def deferFirst : List StationNotice → List StationNotice
  | [] => []
  | n :: rest => if n.deferred then n :: deferFirst rest else { n with deferred := true } :: rest

/-- The first undeferred notice taken away. -/
def dropFirst : List StationNotice → List StationNotice
  | [] => []
  | n :: rest => if n.deferred then n :: dropFirst rest else rest

/-- The offer ends with the station's stack changed by f, and the line is free again. A notice that a POLL has taken
meanwhile is not on the stack, which then stays (notes/assumptions/47.md). -/
def State.endOffer (s : State) (l : Lane) (o : Offering) (f : List StationNotice → List StationNotice) : State :=
  (s.setLane l ({ s.lane l with offer := .none, timer := .off }.mapStation o.station fun x =>
    { x with stack := if o.taken then x.stack else f x.stack })).useIdleLine l

/-- A POLL takes a notice of a station off its stack: when it is the one offered, that is noted (R171). -/
def Offering.noteTaken (o : Offering) (st : Station) (n : StationNotice) : Offering :=
  { o with taken := o.taken || (decide (o.station = st) && !n.deferred) }

def Offer.noteTaken (o : Offer) (st : Station) (n : StationNotice) : Offer :=
  match o with
  | .none => .none
  | .offered x => .offered (x.noteTaken st n)
  | .noticeSent x => .noticeSent (x.noteTaken st n)

/-! ## Words out of place and failed words (R158, R165, R168, R170, R192) -/

/-- Where a word from a station that passes its check stands. -/
inductive WordPlace where
  /-- from the station whose exchange is open -/
  | inExchange (ex : Exchange)
  /-- from the station whose LANE_CLOSING final awaits its ACCEPT -/
  | inClosing
  /-- on an ACTIVE lane with an offer in progress -/
  | inOffer (o : Offer)
  /-- on an attached lane, outside an exchange of the word's station -/
  | outside
  /-- on a lane that is neither ACTIVE nor QUIESCING -/
  | deaf

def LaneUnit.wordPlace (u : LaneUnit) (st : Station) : WordPlace :=
  if u.isAttached then
    match u.exchange with
    | some ex =>
      if u.closingCall = some st then .inClosing else if st = ex.station then .inExchange ex else .outside
    | none =>
      match u.offer with
      | .none => .outside
      | o => .inOffer o
  else .deaf

/-- The exchange's answer to a word that fails its check, and to one its step does not await (R168). -/
def State.lineCheck (s : State) (l : Lane) (ex : Exchange) : State :=
  let s' := s.logLineCheck l (some ex.station) ex.code
  match ex.step with
  | .working _ => s'
  | .closing f => s'.sendAwaited l (.final ex.station f)
  | _ => s'.sendFinal l ex (.check .lineCheck) ex.code 0

/-- A field refused: FINAL (REFUSED, BAD_FIELD) with the field's index in the detail record (R165). -/
def State.badField (s : State) (l : Lane) (ex : Exchange) (n : Nat) : State :=
  s.sendFinal l ex (.refused .badField) ex.code n

/-- A word of the exchange's station that its step does not await: a missing field while a FIELD is awaited (R165),
and otherwise a line check (R168). -/
def State.outOfPlace (s : State) (l : Lane) (ex : Exchange) : State :=
  match ex.step with
  | .collecting n => s.badField l ex n
  | _ => s.lineCheck l ex

/-- A word ignored and logged (R158, R170, R192). -/
def State.ignoreWord (s : State) (l : Lane) (st : Option Station) : State := s.logLineCheck l st none

/-- The common handling of a word from a station: `take` is what the exchange does with it; out of an exchange it is
ignored and logged on an attached lane, and ignored on the others. -/
def State.stationWord (s : State) (l : Lane) (st : Station) (take : Exchange → State) : State :=
  match (s.lane l).wordPlace st with
  | .inExchange ex => take ex
  | .inClosing => s.repeatClosing l st
  | .inOffer _ => s.ignoreWord l (some st)
  | .outside => s.ignoreWord l (some st)
  | .deaf => s

/-! ## The words of an exchange -/

/-- REQ (R165). -/
def State.takeReq (s : State) (l : Lane) (ex : Exchange) (code count : Byte) : State :=
  match ex.step with
  | .called =>
    match reqCodeOf code with
    | none => s.sendFinal l ex (.check .badRequest) none 0
    | some c =>
      if decide (count.toNat ≤ 15) && c.allows count.toNat then
        (s.setStep l { ex with code := some c, count := count.toNat } .begun).sendAwaited l (.begin_ ex.station)
      else s.sendFinal l ex (.check .fieldCount) none 0
  | _ => s.outOfPlace l ex

/-- FIELD in answer to NEXT for field n (R165). -/
def State.takeField (s : State) (l : Lane) (ex : Exchange) (code : Byte) (value : Nat) : State :=
  match ex.step, ex.code with
  | .collecting n, some c =>
    if fieldAccepted c n code value then
      let ex' := { ex with fields := ex.fields ++ [value] }
      if n < ex.count then (s.setStep l ex' (.collecting (n + 1))).sendAwaited l (.next ex.station (n + 1))
      else s.submit l ex'
    else s.badField l ex n
  | _, _ => s.outOfPlace l ex

/-- After a result field is accepted: the next one, or the FINAL (R166). -/
def State.nextResult (s : State) (l : Lane) (ex : Exchange) (index : Nat) (rest : List RField) (f : Final) : State :=
  match rest with
  | [] => s.sendFinal l ex f ex.code (f.fieldIndex ex.code)
  | v :: vs => (s.setStep l ex (.results (index + 1) vs f)).sendAwaited l (.field ex.station (index + 1) v)

/-- ACCEPT in an exchange (R165, R166). -/
def State.takeAccept (s : State) (l : Lane) (ex : Exchange) : State :=
  match ex.step with
  | .begun =>
    if ex.count = 0 then s.submit l ex
    else (s.setStep l ex (.collecting 1)).sendAwaited l (.next ex.station 1)
  | .results index rest f => s.nextResult l ex index rest f
  | .closing _ => s.endExchange l
  | _ => s.outOfPlace l ex

/-- STOP in answer to a result field (R166). -/
def State.takeStop (s : State) (l : Lane) (ex : Exchange) : State :=
  match ex.step with
  | .results _ _ f => s.sendFinal l ex f ex.code (f.fieldIndex ex.code)
  | _ => s.outOfPlace l ex

/-- The INTERRUPTED final of an exchange in WORKING: it waits for a LANE_CLOSING final's ACCEPT as results do. -/
def State.interruptWorking (s : State) (l : Lane) (ex : Exchange) (applied : Bool) : State :=
  s.takeAnswer l ex ⟨[], .interrupted applied⟩ applied

/-- HALT in an exchange, with the applied flag of its step: set from the grant on (R167). A second HALT over a kept
INTERRUPTED final changes nothing (notes/assumptions/20.md). -/
def State.takeHalt (s : State) (l : Lane) (ex : Exchange) : State :=
  match ex.step with
  | .called | .begun | .collecting _ => s.sendFinal l ex (.interrupted false) ex.code 0
  | .working .atArbiter => s.interruptWorking l ex false
  | .working .granted => s.interruptWorking l ex true
  | .working (.answered a granted) =>
    match a.final with
    | .interrupted _ => s
    | _ => s.interruptWorking l ex granted
  | .results _ _ _ => s.sendFinal l ex (.interrupted true) ex.code 0
  | .closing _ => s.endExchange l

end Sys2Proof.Machine
end

