-- ==== Sys2Proof/Machine/Arbiter.lean ====
section
/-! DEFINITION. The Engine Arbiter (R4 to R7), the link's own CONFIRMs (R176, R178), the claims on a freed entry (R182),
the warm reset (R11, R34, R112, R144, R156, R173, R184, R187, R191), and the frame every command shares. -/

namespace Sys2Proof.Machine

/-! ## Grants -/

/-- The origin of a lane request at its grant (R1). -/
def State.originOf (s : State) (p : Nat) : Option Origin :=
  if h : p < 16 then
    let u := s.lanes.get ⟨p, h⟩
    u.exchange.map fun ex => ⟨⟨p, h⟩, ex.station, u.gen⟩
  else none

/-- A lane's request is marked granted. -/
def State.markGranted (s : State) (p : Nat) : State :=
  if h : p < 16 then
    let l : Lane := ⟨p, h⟩
    match (s.lane l).exchange with
    | some ex => s.setStep l ex (.working .granted)
    | none => s
  else s

/-- The grant (R1, R3, R5): the engine becomes BUSY with its record and reservation, and the pointer moves past the
position. -/
def State.grant (s : State) (p : Nat) (k : OpKind) : State :=
  { s.markGranted p with
    engine := .busy ⟨p, k, s.originOf p, s.noticeNeed k, false, [], none, [], 0⟩
    arbiter := { s.arbiter with pointer := if p = 18 then 0 else p + 1 } }

/-- A lane request refused for room while the link is DOWN (R7). -/
def State.serviceLimited (s : State) (p : Nat) : State :=
  if h : p < 16 then
    let l : Lane := ⟨p, h⟩
    match (s.lane l).exchange with
    | some ex => s.takeAnswer l ex ⟨[], .refused .serviceLimited⟩ false
    | none => s
  else s

/-- The search over positions in rotation order: the first request that passes the room test is granted (R5, R6), and
a lane request that fails it while the link is DOWN is refused (R7). -/
def State.searchOver (s : State) : List Nat → State
  | [] => s
  | p :: ps =>
    match s.requestAt p with
    | none => s.searchOver ps
    | some k =>
      if s.noticeNeed k ≤ s.freeEntries then s.grant p k
      else if p < 16 ∧ s.link.up = false then (s.serviceLimited p).searchOver ps
      else s.searchOver ps

/-- The nineteen positions from the rotation pointer on (R4, R5). -/
def rotation (pointer : Nat) : List Nat := (List.range 19).map fun i => (pointer + i) % 19

/-- An arbiter search: only while the engine is FREE, and not while a warm reset is pending (R5, R11). -/
def State.search (s : State) : State :=
  if s.engine.isFree && !s.arbiter.restartPending && !s.arbiter.resetDue then s.searchOver (rotation s.arbiter.pointer)
  else s

/-! ## The link's own CONFIRMs -/

/-- A confirmed head place is freed, or stays to drain while it owes overrun CONFIRMs (R176, R178). -/
def settleHead : List Place → List Place
  | [] => []
  | p :: rest => if p.tally = 0 then rest else { p with confirmed := true } :: rest

def State.settlePlace (s : State) : State :=
  { s with link := { s.link with inbound := settleHead s.link.inbound } }

/-- The link confirms a marker at the head of the inbound queue into a free entry (R176). A marker taken while a RESTART
waits for its reset gets no CONFIRM (R184). -/
def State.confirmMarker (s : State) : State :=
  match s.link.inbound with
  | ⟨.marker kind status, seq, _, _, false, late⟩ :: _ =>
    if s.link.sideList.isEmpty && decide (0 < s.roomForOthers) && !(late && s.arbiter.restartPending) then
      (s.append (.confirm seq kind status [])).settlePlace
    else s
  | _ => s

/-- One owed overrun CONFIRM of the draining head place is dealt with; the place is freed with its last one (R178). -/
def dropOverrun : List Place → List Place
  | [] => []
  | p :: rest =>
    if p.tally ≤ 1 then rest
    else { p with tally := p.tally - 1, nextOverrun := (p.nextOverrun + 1) % 65536 } :: rest

/-- The next owed overrun CONFIRM takes a free entry, or enters the side list (R178). -/
def State.confirmOverrun (s : State) : State :=
  match s.link.inbound with
  | p :: _ =>
    if p.confirmed && decide (0 < p.tally) then
      if s.link.sideList.isEmpty && decide (0 < s.roomForOthers) then
        let s' := s.append (.confirm p.nextOverrun 0 .overrun [])
        { s' with link := { s'.link with inbound := dropOverrun s'.link.inbound } }
      else if s.link.sideList.length < Config.sideListPlaces then
        { s with link := { s.link with
            sideList := s.link.sideList ++ [p.nextOverrun], inbound := dropOverrun s.link.inbound } }
      else s
    else s
  | [] => s

/-- The first side-list CONFIRM moves into a free outbound entry (R178). -/
def State.moveSideList (s : State) : State :=
  match s.link.sideList with
  | seq :: rest =>
    if 0 < s.roomForOthers then
      let s' := s.append (.confirm seq 0 .overrun [])
      { s' with link := { s'.link with sideList := rest } }
    else s
  | [] => s

/-- A waiter claims a free entry ahead of the search; one that does not wait, or finds none, claims nothing (R182). -/
def State.claim (s : State) : Claim → State
  | .fault => s.postOwedFault
  | .laneState l => s.postOwedLaneState l
  | .overrun => s.confirmOverrun
  | .sideList => s.moveSideList
  | .marker => s.confirmMarker

def State.claimAll (s : State) (cs : List Claim) : State := cs.foldl State.claim s

/-! ## Completion (R1, R10, R11) -/

/-- The station notices of a completed operation go to their lanes (R10, R153). -/
def State.handNotices (s : State) (ns : List (Origin × StationNotice)) : State :=
  ns.foldl (fun s n => s.handNotice n.1 n.2) s

/-- The lane result of a completed operation goes to its origin lane (R10). -/
def State.routeAnswer (s : State) (op : Op) : State :=
  match op.origin, op.answer with
  | some o, some a => s.handAnswer o a
  | _, _ => s

/-- A performed message leaves the inbound queue, and a performed RESTART sets the restart-pending flag (R10, R11), on a
link that is DOWN already too: the wait then lasts as notes/assumptions/58.md says. -/
def State.leaveQueue (s : State) (op : Op) : State :=
  match op.kind with
  | .message _ .restart =>
    { s.settlePlace with arbiter := { s.arbiter with restartPending := true } }
  | .message _ _ => s.settlePlace
  | _ => s

/-- Completion: the results go to the requester, what is left of the reservation returns, the engine is FREE, and a
search follows the claims (R3, R5, R10). A warm reset owed takes effect now, and the lane result is dropped (R11). -/
def State.finishOp (s : State) (op : Op) (claims : List Claim) : State :=
  if op.resetOwed then
    let s' := s.leaveQueue op
    { s' with engine := .free, arbiter := { s'.arbiter with resetDue := true } }
  else
    let s' := { ((s.leaveQueue op).routeAnswer op).handNotices op.handed with engine := .free }
    (s'.claimAll claims).search

/-- The operation's work is done: it completes, or enters WAITING_ROOM while a post waits for room (R8). -/
def State.complete (s : State) (claims : List Claim) : State :=
  match s.engine with
  | .busy op => if op.waiting.isEmpty then s.finishOp op claims else { s with engine := .waitingRoom op }
  | _ => s

/-- One engine operation as a command: performed when the engine holds a granted operation that `mine` recognises,
with the errors that cross it added to the memory; otherwise it is not this command's turn and nothing changes. -/
def State.perform (mine : OpKind → Bool) (work : Op → State → State) (x : Crossing) (s : State) : State :=
  match s.engine with
  | .busy op =>
    if mine op.kind then (work op { s with upsets := s.upsets ++ x.flips }).complete x.claims else s
  | _ => s

/-! ## Warm reset -/

/-- A warm reset frees FETCHING records and releases every reserve (R34). -/
def resetPatrons (t : Tbl PatronRec) : Tbl PatronRec :=
  t.filterMap fun e =>
    match e.2 with
    | .fetching _ _ _ => none
    | .resident p => some (e.1, .resident { p with pending := 0 })
    | r => some (e.1, r)

/-- FETCHING titles become FREE (R112). -/
def resetTitles (t : Tbl TitleRec) : Tbl TitleRec :=
  t.filter fun e =>
    match e.2 with
    | .fetching _ _ => false
    | _ => true

/-- A retired number: FREE with its generation kept, or generation 0 when the map entry lost it (R152, R155). R156 keeps
every generation at a warm reset and does not name one that was lost: 0 there too is the model's choice
(notes/assumptions/63.md). -/
def Tag.retired (t : Tag) : Tag :=
  let gen := if t.mapLost then 0 else t.gen
  ⟨.free, gen, false, none, gen⟩

/-- The Sweep Unit at a warm reset: a running sweep is owed from its start (R144). -/
def Sweep.warmReset (w : Sweep) : Sweep :=
  match w.state with
  | .idle => w
  | _ =>
    { w with
      state := .loans, phase := .evaluating, cursor := 0, complete := false,
      current := { Summary.zero with closeDay := w.target } }

/-- A lane at a warm reset: DETACHED with everything but its generation cleared, settling at once when carrier is
present (R173). -/
def LaneUnit.warmReset (u : LaneUnit) : LaneUnit :=
  ({ u.cutAndClear with life := .detached, stateOwed := false } : LaneUnit).settleIfCarrier

/-- The Fault Log at a warm reset: a first fault not yet reported is owed (R191). -/
def FaultLog.warmReset (f : FaultLog) : FaultLog := { f with owed := f.first.isSome && !f.reported }

/-- A warm reset takes effect (R11); the search that follows grants the first step of an owed sweep. -/
def State.warmReset (s : State) : State :=
  ({ ((s.putPatrons (resetPatrons s.patrons)).putTitles (resetTitles s.titles)).putTags (s.tags.map Tag.retired) with
      engine := .free
      arbiter := ⟨0, false, false⟩
      sweep := s.sweep.warmReset
      tagLine := []
      lanes := s.lanes.map LaneUnit.warmReset
      link := { s.link with inbound := [], outbound := [], sideList := [], frameCount := 0, sending := false }
      faults := s.faults.warmReset
      scrub := 0 } : State).search

/-! ## The frame every command shares -/

/-- A warm reset that is due takes effect before anything else happens (R11: "at once"). -/
def State.takeDueReset (s : State) : State := if s.arbiter.resetDue then s.warmReset else s

/-- While the link is UP the head of the outbound queue is being sent (R180). -/
def State.startSending (s : State) : State :=
  { s with link := { s.link with sending := s.link.up && !s.link.outbound.isEmpty } }

/-- A command: a due reset first, then the command's own effect, then the link goes on sending. -/
def State.command (f : State → State) (s : State) : Host.Outcome State Fault Refusal :=
  .next (f s.takeDueReset).startSending

end Sys2Proof.Machine
end

