-- ==== Sys2Proof/Machine/Accrual.lean ====
section
/-! DEFINITION. Fine evaluation (R54 to R62), the block compare (R123) and the catch-up (R9). -/

namespace Sys2Proof.Machine

/-! ## The walk (R58 to R61) -/

/-- What one evaluation's walk reads: the calendar, the loan's due day, the grace and item cap of its class, and the
daily charge computed at its start. -/
structure WalkContext where
  calendar : Calendar
  due      : Nat
  grace    : Nat
  cap      : Nat
  charge   : Nat

/-- What the walk changes, with the figures it hands over (R62). -/
structure Walk where
  overdue      : Nat
  accrued      : Nat
  balance      : Nat
  daysCharged  : Nat
  accruedAdded : Nat
  balanceAdded : Nat
  deriving DecidableEq, Repr

/-- A balance with an amount added, saturating at the ceiling (R61). One that already stands above the ceiling, as a
restoration can leave it (notes/assumptions/67.md), is not lowered by a charge, which only raises it: the model's choice between two sentences of R61
(36.md). -/
def addToBalance (balance amount : Nat) : Nat := max balance (min Config.balanceCeiling (balance + amount))

/-- A charge for one day: the smaller of the daily charge and the cap room goes to the accrued fine and to the balance
(R60, R61). -/
def Walk.charge (x : WalkContext) (w : Walk) : Walk :=
  let amount := min x.charge (x.cap - w.accrued)
  let balance := addToBalance w.balance amount
  { w with
    accrued := w.accrued + amount
    balance := balance
    daysCharged := w.daysCharged + 1
    accruedAdded := w.accruedAdded + amount
    balanceAdded := w.balanceAdded + (balance - w.balance) }

/-- One day of the walk (R58, R59). -/
def Walk.day (x : WalkContext) (d : Nat) (w : Walk) : Walk :=
  if d ≤ x.due then w
  else if x.calendar.isClosed d then w
  else
    let counted := { w with overdue := min 255 (w.overdue + 1) }
    if x.grace < counted.overdue then counted.charge x else counted

/-- `n` days in increasing order, from day d. -/
def Walk.days (x : WalkContext) : Nat → Nat → Walk → Walk
  | 0, _, w => w
  | n + 1, d, w => Walk.days x n (d + 1) (w.day x d)

/-! ## Evaluation of one loan (R57, R62) -/

/-- The figures an evaluation hands its caller (R62). -/
structure Figures where
  daysWalked   : Nat
  daysCharged  : Nat
  accruedAdded : Nat
  balanceAdded : Nat
  dropped      : Nat
  deriving DecidableEq, Repr

def Figures.zero : Figures := ⟨0, 0, 0, 0, 0⟩

/-- What the walk of a loan reads in this state, for a RESIDENT patron (R54, R56). -/
def State.walkContext (s : State) (l : Loan) (p : Patron) : WalkContext :=
  let c := s.schedule.cls l.cls
  let m := if s.underPressure l then 2 else 1
  ⟨s.calendar, l.due, c.grace, c.cap, dailyCharge c.rate (s.schedule.category p.category).factor m⟩

/-- The walk of a loan up to the close day. -/
def State.walkLoan (s : State) (l : Loan) (p : Patron) : Walk :=
  Walk.days (s.walkContext l p) (s.calendar.closeDay - l.charged) (l.charged + 1)
    ⟨l.overdue, l.accrued, p.balance, 0, 0, 0⟩

/-- BALANCE_CEILING for an evaluation that dropped cents (R61). -/
def State.logCeiling (s : State) (p : Patron) (l : Loan) (cents : Nat) : State :=
  if cents = 0 then s
  else s.logFault .balanceCeiling s.workSource { Context.empty with patron := p.id, title := l.title, cents := cents }

/-- The walk's outcome written to the loan and to the patron's balance; the charged-through day becomes C (R62). -/
def State.writeWalk (s : State) (slot : Nat) (l : Loan) (p : Patron) (w : Walk) : State :=
  (s.setLoan slot (.active { l with overdue := w.overdue, accrued := w.accrued, charged := s.calendar.closeDay })).setPatron
    l.patronSlot (.resident { p with balance := w.balance })

/-- The evaluation of the ACTIVE loan of a slot up to C (R57): nothing is done when its patron record is not RESIDENT
or when it stands at C already. -/
def State.evaluate (s : State) (slot : Nat) : State × Figures :=
  let s := s.readLoan slot
  match s.loanAt slot with
  | none => (s, .zero)
  | some l =>
    let s := s.readPatron l.patronSlot
    match s.patronAt l.patronSlot with
    | none => (s, .zero)
    | some p =>
      if l.charged < s.calendar.closeDay then
        let s := if (s.schedule.cls l.cls).threshold = 0 then s else s.lookUpTitle l.title
        let w := s.walkLoan l p
        let dropped := w.accruedAdded - w.balanceAdded
        ((s.writeWalk slot l p w).logCeiling p l dropped,
          ⟨s.calendar.closeDay - l.charged, w.daysCharged, w.accruedAdded, w.balanceAdded, dropped⟩)
      else (s, .zero)

/-! ## Block compare and catch-up -/

/-- The block compare of a RESIDENT patron slot (R123). -/
def State.blockCompare (s : State) (slot : Nat) : State := s.mapPatron slot fun p => { p with blocked := s.blockDue p }

/-- The patron's ACTIVE loans evaluated in loan-list order. -/
def State.evaluateAll (s : State) (loans : List Nat) : State := loans.foldl (fun s n => (s.evaluate n).1) s

/-- The balance and blocked flag a BALANCE would report a change of. -/
def State.account (s : State) (slot : Nat) : Option (Nat × Bool) := (s.patronAt slot).map fun p => (p.balance, p.blocked)

/-- The catch-up of a RESIDENT patron slot: every ACTIVE loan up to C, then the block compare, and a BALANCE when the
balance or the flag changed (R9, R63, R125). -/
def State.catchUp (s : State) (slot : Nat) : State :=
  match s.patronAt slot with
  | none => s
  | some p =>
    let s' := (s.evaluateAll p.loans).blockCompare slot
    if s'.account slot = some (p.balance, p.blocked) then s' else s'.postBalance slot

/-- The last activity day of a record in FETCHING, RESIDENT or UNKNOWN is set to today (R15). -/
def State.touchDay (s : State) (slot : Nat) : State :=
  match Tbl.lookup s.patrons slot with
  | some (.fetching id _ tag) => s.setPatron slot (.fetching id s.today tag)
  | some (.resident p) => s.setPatron slot (.resident { p with lastDay := s.today })
  | some (.unknown id _) => s.setPatron slot (.unknown id s.today)
  | _ => s

end Sys2Proof.Machine
end

