-- ==== Sys2Proof/Machine/Patrons.lean ====
section
/-! DEFINITION. Serving a patron: the request tags (R147, R149, R152), slots for patron records (R18), the fetch on miss
(R17), the lookup that opens a lane request (R16) or a catalogue message (R19), and the replies messages are confirmed
with (R10). -/

namespace Sys2Proof.Machine

/-! ## Request tags -/

/-- The reads of an allocation's search from a number on: the map entries up to the first FREE one, or all of them, and
the record of that number. A number that its own read loses (R155, R186) is not FREE, and the search goes on after it;
`fuel` is how many more numbers it may come to. -/
def State.readFreeTagFrom : Nat → Nat → State → State
  | 0, _, s => s
  | fuel + 1, start, s =>
    let s := s.searchFrom .tagMap start fun s => s.freeTag.map Fin.val
    match s.freeTag with
    | none => s
    | some n =>
      let s := s.readRecord ⟨.tag, n.val⟩
      if s.freeTag = some n then s else State.readFreeTagFrom fuel (n.val + 1) s

/-- The reads of an allocation (R147, R185): after them the lowest FREE number, if there is one, has had its map entry and
its record read. -/
def State.readFreeTag (s : State) : State := State.readFreeTagFrom Config.tagSlots 0 s

/-- The number n allocated to a question: generation raised by one, 15 followed by 0, deadline the stored timeout
(R147). -/
def State.allocateTag (s : State) (n : Fin 32) (kind : TagKind) (subject reserve : Nat) (origin : Option Origin)
    (parked : Option Parked) : State :=
  let gen := ((s.tags.get n).gen + 1) % 16
  s.setTag n
    ⟨.outstanding, gen, false, some ⟨kind, subject, reserve, origin, parked, s.schedule.globals.tagTimeout⟩, gen⟩

/-- The tag id that an allocation of number n hands back (R147). -/
def State.nextTagId (s : State) (n : Fin 32) : TagId := ⟨n.val, ((s.tags.get n).gen + 1) % 16⟩

/-- Retiring a number (R152). -/
def State.retireTag (s : State) (n : Nat) : State :=
  if h : n < 32 then
    { s.setTag ⟨n, h⟩ (s.tags.get ⟨n, h⟩).retired with tagLine := s.tagLine.filter (· != n) }
  else s

/-- The question that a message's tag matches: number out, generations equal, and the kind and subject that the message
answers (R149). -/
def State.matchTag (s : State) (t : TagField) (kind : TagKind) (subject : Option Nat) : Option Question :=
  if h : t.number < 32 then
    let x := s.tags.get ⟨t.number, h⟩
    match x.asked with
    | some q =>
      if t.present && x.gen == t.gen && decide (q.kind = kind) && subject.all (· == q.subject) then some q else none
    | none => none
  else none

/-- The read of the number that a message's tag names. -/
def State.readTagField (s : State) (t : TagField) : State :=
  if t.present && decide (t.number < 32) then s.readTag t.number else s

/-- STALE_REPLY (R149). -/
def State.logStaleReply (s : State) (t : TagField) (patron title : Nat) : State :=
  s.logFault .staleReply .engine { Context.empty with kind := s.workKind, tag := t.word, patron, title }

/-- The parked count of a request's station rises by one while its lane is still attached as at the grant (R153,
R154). -/
def State.raiseParked (s : State) (o : Origin) : State :=
  let u := s.lane o.lane
  if u.isAttached ∧ u.gen = o.gen then
    s.setLane o.lane (u.mapStation o.station fun x => { x with parked := x.parked + 1 })
  else s

/-- The sum of parked operations and stacked notices at a request's station is below 2 (R154). -/
def State.mayPark (s : State) (o : Origin) : Bool :=
  decide (((s.lane o.lane).stations.get o.station).sum < Config.parkedLimit)

/-- A station notice made by this operation, for its completion (R10, R153). -/
def State.hand (s : State) (o : Option Origin) (n : StationNotice) : State :=
  match o with
  | some o => s.mapOp fun op => { op with handed := op.handed ++ [(o, n)] }
  | none => s

/-! ## Slots for patron records (R18) -/

/-- The slot of the oldest day, and of the lowest slot among equal days; the list rises by slot. -/
def pickOldest (c : List (Nat × Nat)) : Option Nat :=
  (c.foldl (fun best e =>
    match best with
    | none => some e
    | some b => if e.2 < b.2 then some e else some b) none).map Prod.fst

/-- The UNKNOWN records with their last activity days. -/
def State.unknownDays (s : State) : List (Nat × Nat) :=
  s.patrons.filterMap fun e =>
    match e.2 with
    | .unknown _ day => some (e.1, day)
    | _ => none

/-- A RESIDENT record that R18 lets go: no loans, holds, balance or credit, and no tag that names it. -/
def State.isQuiet (s : State) (p : Patron) : Bool :=
  p.loans.isEmpty && p.holds.isEmpty && p.balance == 0 && p.pending == 0 && !s.tagNames p.id

/-- The quiet RESIDENT records with their last activity days. -/
def State.quietDays (s : State) : List (Nat × Nat) :=
  s.patrons.filterMap fun e =>
    match e.2 with
    | .resident p => if s.isQuiet p then some (e.1, p.lastDay) else none
    | _ => none

/-- The slot a new patron record takes, free or evicted (R18). -/
def State.slotForPatron (s : State) : Option Nat :=
  match Tbl.firstFree s.patrons Config.patronSlots with
  | some n => some n
  | none =>
    match pickOldest s.unknownDays with
    | some n => some n
    | none => pickOldest s.quietDays

/-- The reads of the search for a slot (R18): the index places up to the lowest FREE one; with no FREE slot every patron
record, and with no UNKNOWN one every tag, to see which patrons an outstanding tag names. -/
def State.readForSlot (s : State) : State :=
  let s := s.readFreePatron
  if (Tbl.firstFree s.patrons Config.patronSlots).isNone then
    let s := s.scanTable .patron
    if s.unknownDays.isEmpty then s.scanTags else s
  else s

/-! ## Fetch on miss (R17) -/

/-- The fetch of an absent patron. The search for a slot may itself find damage: it may recover this very id
for a DAMAGED slot (R186), or take the tag number away. -/
def State.fetchOnMiss (s : State) (id : Nat) : State × Refused :=
  let s := s.readFreeTag
  match s.freeTag with
  | none => (s, .tryLater)
  | some _ =>
    let s := s.readForSlot
    match s.findPatron id, s.slotForPatron, s.freeTag with
    | some _, _, _ => (s, .damaged)
    | none, none, _ => (s, .tableFull)
    | none, some _, none => (s, .tryLater)
    | none, some slot, some n =>
      let tag := s.nextTagId n
      ((((s.allocateTag n .patronFetch id 0 none none).setPatron slot (.fetching id s.today tag)).post
        (.fetchPatron tag id)), .retry)

/-! ## The start of a lane request (R16) -/

/-- A lane request's result: the tables after it and its answer. -/
abbrev Served := State × Answer

/-- A request refused with its result fields all zero (R16). -/
def refusedZero (width : Nat) (r : Refused) : Answer := ⟨List.replicate width (.num 0), .refused r⟩

/-- A request that names a patron (R16): `width` is how many fields it carries, `lost` its answer when the record is
found damaged during the catch-up, and `body` what it does for a RESIDENT patron after catch-up. -/
def State.servePatron (s : State) (id width : Nat) (lost : Patron → Answer)
    (body : Nat → Patron → State → Served) : Served :=
  let s := s.lookUpPatron id
  match s.findPatron id with
  | none =>
    let x := s.fetchOnMiss id
    (x.1, refusedZero width x.2)
  | some slot =>
    match Tbl.lookup s.patrons slot with
    | some (.resident p) =>
      let s := (s.catchUp slot).touchDay slot
      match s.patronAt slot with
      | some p' => body slot p' s
      | none => (s, lost p)
    | some (.unknown _ _) => (s.touchDay slot, refusedZero width .unknownPatron)
    | some (.damaged _) => (s, refusedZero width .damaged)
    | _ => (s.touchDay slot, refusedZero width .retry)

/-- The answer of an operation, held until completion (R10). -/
def State.answer (x : Served) : State := x.1.mapOp fun op => { op with answer := some x.2 }

/-- The operation record names this request code. -/
def OpKind.isRequest (code : ReqCode) : OpKind → Bool
  | .request c _ => decide (c = code)
  | _ => false

/-- A field of a request, by its place; a request holds all its fields when it is granted. -/
def Op.field (op : Op) (n : Nat) : Nat :=
  match op.kind with
  | .request _ fields => fields.getD n 0
  | _ => 0

/-! ## The start of a catalogue message (R19) and its CONFIRM (R10) -/

/-- A message's result: the tables after it and its CONFIRM's status and result fields. -/
abbrev Confirmed := State × Status × List CField

/-- A message that names a patron (R19); `body` is what it does for a RESIDENT patron after catch-up. -/
def State.namePatron (s : State) (id : Nat) (body : Nat → Patron → State → Confirmed) : Confirmed :=
  let s := s.lookUpPatron id
  match s.findPatron id with
  | none => (s, .unknownPatron, [])
  | some slot =>
    match Tbl.lookup s.patrons slot with
    | some (.resident _) =>
      let s := (s.catchUp slot).touchDay slot
      match s.patronAt slot with
      | some p => body slot p s
      | none => (s, .damaged, [])
    | some (.damaged _) => (s, .damaged, [])
    | _ => (s.touchDay slot, .unknownPatron, [])

/-- The sequence number of the message being performed, which stands at the head of the inbound queue until it
completes (R10, R178). -/
def State.headSeq (s : State) : Nat := (s.link.inbound.head?.map Place.seq).getD 0

/-- A message's CONFIRM, the last post of its operation (R10, R179). -/
def State.confirm (kind : Nat) (x : Confirmed) : State := x.1.post (.confirm x.1.headSeq kind x.2.1 x.2.2)

/-- The message an operation performs. -/
def Op.message (op : Op) : Option Message :=
  match op.kind with
  | .message _ m => some m
  | _ => none

/-- The operation record names this message kind. -/
def OpKind.isMessage (kind : Nat) : OpKind → Bool
  | .message _ m => m.kind == kind
  | _ => false

end Sys2Proof.Machine
end

