-- ==== Sys2Proof/Machine/Requests.lean ====
section
/-! DEFINITION. The lane requests ACCOUNT (R33), RENEW and RENEW_ALL (R69 to R82), PAY_CASH (R114, R115), PAY_CARD
(R116), DETAIL (R169) and POLL (R171). -/

namespace Sys2Proof.Machine

/-- A request performed by the engine as a command: its work gives the tables and the answer (R1, R10). -/
def State.request (code : ReqCode) (work : Op → State → Served) (x : Crossing) (s : State) :
    Host.Outcome State Fault Refusal :=
  State.command (State.perform (OpKind.isRequest code) (fun op s => State.answer (work op s)) x) s

/-- Where a request came from; a lane request always has an origin (R1). -/
def Op.from (op : Op) : Origin := op.origin.getD ⟨0, 0, 0⟩

/-! ## ACCOUNT (R33) -/

/-- The four fields of one ACTIVE loan; a DAMAGED slot gives none. -/
def State.listLoan (s : State) (slot : Nat) : List RField :=
  match s.loanAt slot with
  | some l => [.num l.copy, .num l.due, .num l.accrued, .num l.used]
  | none => []

/-- The state, position and day of a patron's hold on a title (R33), read from the first of the patron's items where the
queue holds two (notes/assumptions/71.md). -/
def State.listEntry (s : State) (patron title : Nat) : ListedState × Nat × Nat :=
  match s.residentTitle title with
  | none => (.unavailable, 0, 0)
  | some t =>
    match t.itemOf patron with
    | none => (.unavailable, 0, 0)
    | some i =>
      match (s.holdAt i.slot).map Hold.state with
      | some .waiting => (.waiting, s.position t i.slot, 0)
      | some (.suspended day) => (.suspended, s.position t i.slot, day)
      | some (.ready deadline _) => (.ready, 0, deadline)
      | none => (.unavailable, 0, 0)

def State.listHold (s : State) (patron title : Nat) : List RField :=
  let e := s.listEntry patron title
  [.num title, .listed e.1, .num e.2.1, .num e.2.2]

/-- ACCOUNT's result fields, in R33's order. -/
def State.accountFields (s : State) (p : Patron) : List RField :=
  [.num p.balance, .num p.pending, .flag p.blocked, .num (p.loans.filter fun n => (s.loanAt n).isSome).length] ++
    p.loans.flatMap s.listLoan ++ [.num p.holds.length] ++ p.holds.flatMap (s.listHold p.id)

/-- The reads of the queue of a title id. -/
def State.readQueueById (s : State) (title : Nat) : State :=
  match s.residentTitle title with
  | some t => s.readQueue t.queue
  | none => s

/-- The reads of one named title and its queue. -/
def State.readTitleQueue (s : State) (title : Nat) : State := (s.lookUpTitle title).readQueueById title

def State.accountWork (op : Op) (s : State) : Served :=
  s.servePatron (op.field 0) 5 (fun _ => refusedZero 5 .damaged) fun _ p s =>
    let s := p.holds.foldl State.readTitleQueue (p.loans.foldl State.readLoan s)
    (s, ⟨s.accountFields p, .ok⟩)

/-- ACCOUNT. -/
def execAccount (x : Crossing) (s : State) : Host.Outcome State Fault Refusal := State.request .account State.accountWork x s

/-! ## Renewals (R69 to R82) -/

/-- Check 6 fails: the title has a WAITING entry, or its record is DAMAGED (R73). -/
def State.isHeld (s : State) (title : Nat) : Bool :=
  match s.findTitle title with
  | none => false
  | some n =>
    match Tbl.lookup s.titles n with
    | some (.resident t) => decide (0 < t.waiting)
    | some (.damaged _) => true
    | _ => false

/-- The new due day (R74). -/
def State.renewalDay (s : State) (l : Loan) : Nat := s.calendar.openDay (s.today + (s.schedule.cls l.cls).period)

/-- A loan renewed to a day, with its RENEWED (R75, R76). -/
def State.renewTo (s : State) (patron slot : Nat) (l : Loan) (day : Nat) : State :=
  (s.setLoan slot (.active { l with due := day, used := l.used + 1, overdue := 0 })).post
    (.renewed l.copy patron day (l.used + 1))

/-- Checks 4 to 7 and the renewal itself (R69, R72 to R75). -/
def State.renewChecked (s : State) (patron slot : Nat) (l : Loan) : State × ReqOutcome :=
  let c := s.schedule.cls l.cls
  if c.maxRenewal ≤ l.used then (s, .refused .renewLimit)
  else if c.window < l.overdue then (s, .refused .tooLate)
  else
    let s := s.lookUpTitle l.title
    if s.isHeld l.title then (s, .refused .held)
    else if s.renewalDay l ≤ l.due then (s, .refused .noGain)
    else (s.renewTo patron slot l (s.renewalDay l), .ok)

/-- The renewal of one loan slot for a patron whose loan list is `loans` (R69, R70, R82). -/
def State.renewOne (s : State) (patronSlot : Nat) (loans : List Nat) (slot : Nat) : State × ReqOutcome :=
  if loans.contains slot then
    let s := s.readLoan slot
    match s.loanAt slot with
    | none => (s, .refused .damaged)
    | some l =>
      let s := s.readPatron patronSlot
      match s.patronAt patronSlot with
      | none => (s, .refused .damaged)
      | some p => if p.blocked then (s, .refused .blocked) else s.renewChecked p.id slot l
  else (s, .refused .notFound)

/-- The final of a single outcome (R77). -/
def ReqOutcome.final : ReqOutcome → Final
  | .ok => .ok
  | .pending => .pending
  | .refused r => .refused r

/-- RENEW's three result fields (R77). -/
def State.renewFields (s : State) (slot : Nat) (o : ReqOutcome) : List RField :=
  match o with
  | .refused .notFound => [.outcome .renew o, .num 0, .num 0]
  | .refused .damaged => [.outcome .renew o, .num 0, .num 0]
  | o =>
    match s.loanAt slot with
    | some l => [.outcome .renew o, .num l.due, .num l.used]
    | none => [.outcome .renew o, .num 0, .num 0]

/-- RENEW's answer for an outcome. -/
def State.renewAnswer (s : State) (slot : Nat) (o : ReqOutcome) : Answer := ⟨s.renewFields slot o, o.final⟩

/-- The work of a RENEW. A copy whose loan record and index place are both lost as the lookup reads the record is asked for
again and is NOT_FOUND, while the same loss at check 2 gives DAMAGED (notes/assumptions/53.md). -/
def State.renewWork (op : Op) (s : State) : Served :=
  s.servePatron (op.field 0) 3 (fun _ => s.renewAnswer 0 (.refused .damaged)) fun slot p s =>
    let s := s.lookUpCopy (op.field 1)
    match s.findCopy (op.field 1) with
    | none => (s, s.renewAnswer 0 (.refused .notFound))
    | some n =>
      let x := s.renewOne slot p.loans n
      (x.1, x.1.renewAnswer n x.2)

/-- RENEW. -/
def execRenew (x : Crossing) (s : State) : Host.Outcome State Fault Refusal := State.request .renew State.renewWork x s

/-- The three result fields of one entry of a RENEW_ALL (R78). A DAMAGED entry's copy and due day are 0: R78 gives that for
a DAMAGED loan slot, and for an ACTIVE loan whose patron record is found damaged at check 3, in the middle of the list,
which R78 and R82 leave open, it is the model's choice (notes/assumptions/59.md). -/
def State.renewAllFields (s : State) (slot : Nat) (o : ReqOutcome) : List RField :=
  match o with
  | .refused .damaged => [.num 0, .outcome .renewAll o, .num 0]
  | o =>
    match s.loanAt slot with
    | some l => [.num l.copy, .outcome .renewAll o, .num l.due]
    | none => [.num 0, .outcome .renewAll o, .num 0]

/-- The entries of a RENEW_ALL, worked in list order (R78). -/
def State.renewEach (patronSlot : Nat) (loans : List Nat) : List Nat → State → State × List RField
  | [], s => (s, [])
  | n :: ns, s =>
    let x := s.renewOne patronSlot loans n
    let rest := State.renewEach patronSlot loans ns x.1
    (rest.1, x.1.renewAllFields n x.2 ++ rest.2)

/-- A RENEW_ALL whose patron record was found damaged before any entry was examined: DAMAGED for every entry, and
REFUSED (R82). -/
def renewAllLost (p : Patron) : Answer :=
  ⟨p.loans.flatMap fun _ => [.num 0, .outcome .renewAll (.refused .damaged), .num 0], .refused .damaged⟩

def State.renewAllWork (op : Op) (s : State) : Served :=
  s.servePatron (op.field 0) 0 renewAllLost fun slot p s =>
    if p.loans.isEmpty then (s, ⟨[], .refused .notFound⟩)
    else
      let x := State.renewEach slot p.loans p.loans s
      (x.1, ⟨x.2, .ok⟩)

/-- RENEW_ALL. -/
def execRenewAll (x : Crossing) (s : State) : Host.Outcome State Fault Refusal :=
  State.request .renewAll State.renewAllWork x s

/-! ## Payments (R113 to R116) -/

/-- The balance of a slot lowered by an amount, compared and posted (R115, R121). -/
def State.takeOff (s : State) (slot amount : Nat) : State :=
  ((s.mapPatron slot fun p => { p with balance := p.balance - amount }).blockCompare slot).postBalance slot

/-- PAY_CASH's answer: the applied amount and the balance (R115). -/
def cashAnswer (applied balance : Nat) (f : Final) : Answer := ⟨[.num applied, .num balance], f⟩

def State.payCashWork (op : Op) (s : State) : Served :=
  let amount := op.field 1
  s.servePatron (op.field 0) 2 (fun _ => refusedZero 2 .damaged) fun slot p s =>
    if amount = 0 then (s, cashAnswer 0 p.balance (.refused .badAmount))
    else if p.payable = 0 then (s, cashAnswer 0 p.balance (.refused .nothingDue))
    else
      let applied := min amount p.payable
      (s.takeOff slot applied, cashAnswer applied (p.balance - applied) .ok)

/-- PAY_CASH. -/
def execPayCash (x : Crossing) (s : State) : Host.Outcome State Fault Refusal := State.request .payCash State.payCashWork x s

/-- A card payment that passes its checks (R116). -/
def State.reserveCard (s : State) (o : Origin) (n : Fin 32) (slot : Nat) (p : Patron) (reserve cardRef : Nat) : State :=
  let tag := s.nextTagId n
  let s := s.mapPatron slot fun p => { p with pending := p.pending + reserve }
  let s := (s.allocateTag n .cardAuth p.id reserve (some o) none).raiseParked o
  (s.postBalance slot).post (.authRequest tag p.id reserve cardRef o.lane o.station)

def State.payCardWork (op : Op) (s : State) : Served :=
  let amount := op.field 1
  s.servePatron (op.field 0) 1 (fun _ => refusedZero 1 .damaged) fun slot p s =>
    if !s.link.up then (s, refusedZero 1 .linkDown)
    else if amount = 0 then (s, refusedZero 1 .badAmount)
    else if p.payable = 0 then (s, refusedZero 1 .nothingDue)
    else if !s.mayPark op.from then (s, refusedZero 1 .parkedLimit)
    else
      let s := s.readFreeTag
      match s.freeTag with
      | none => (s, refusedZero 1 .tryLater)
      | some n =>
        let reserve := min amount p.payable
        (s.reserveCard op.from n slot p reserve (op.field 2), ⟨[.num reserve], .pending⟩)

/-- PAY_CARD. -/
def execPayCard (x : Crossing) (s : State) : Host.Outcome State Fault Refusal := State.request .payCard State.payCardWork x s

/-! ## DETAIL and POLL (R169, R171) -/

/-- The detail record as four result fields (R169). -/
def Detail.fields (d : Detail) : List RField :=
  [.detailClass d.cause, .detailOutcome d.cause, .detailCode d.code, .num d.index]

def State.originStation (s : State) (op : Op) : StationState := (s.lane op.from.lane).stations.get op.from.station

def State.detailWork (op : Op) (s : State) : Served := (s, ⟨(s.originStation op).detail.fields, .ok⟩)

/-- DETAIL. -/
def execDetail (x : Crossing) (s : State) : Host.Outcome State Fault Refusal := State.request .detail State.detailWork x s

/-- A stacked notice as five result fields (R171). -/
def StationNotice.fields (n : StationNotice) : List RField :=
  [.noticeKind n.kind, .num n.patron, .num n.value, .noticeOutcome n.outcome, .num n.tag]

def State.pollWork (op : Op) (s : State) : Served :=
  match (s.originStation op).stack with
  | [] => (s, ⟨[.pollEmpty], .ok⟩)
  | n :: rest =>
    let o := op.from
    let u := s.lane o.lane
    (s.setLane o.lane { u.mapStation o.station fun x => { x with stack := rest } with
      offer := u.offer.noteTaken o.station n }, ⟨n.fields, .ok⟩)

/-- POLL. -/
def execPoll (x : Crossing) (s : State) : Host.Outcome State Fault Refusal := State.request .poll State.pollWork x s

end Sys2Proof.Machine
end

