-- ==== Sys2Proof/Machine/Holds.lean ====
section
/-! DEFINITION. Hold queues: trapping and the shelf drain (R94, R95), removal (R111), placement (R89 to R93),
cancellation, suspension and resumption (R100 to R102), the restoration of a title (R109), and the lane requests
PLACE_HOLD, CANCEL_HOLD, SUSPEND_HOLD and RESUME_HOLD. -/

namespace Sys2Proof.Machine

/-! ## Reads and small changes -/

/-- The reads of the queue of a RESIDENT title slot. -/
def State.readQueueOf (s : State) (tslot : Nat) : State :=
  match s.titleAt tslot with
  | some t => s.readQueue t.queue
  | none => s

/-- A title's first WAITING entry in queue order. -/
def State.firstWaiting (s : State) (t : Title) : Option (QueueItem × Hold) :=
  (s.firstHold t.queue Hold.isWaiting).bind fun i => (s.holdAt i.slot).map fun h => (i, h)

/-- COUNT_CLAMP with the title (R94, R99). -/
def State.logCountClamp (s : State) (title : Nat) : State :=
  s.logFault .countClamp s.workSource { Context.empty with kind := s.workKind, title := title }

/-- The position HOLD_CHANGE gives an entry: its own for WAITING and SUSPENDED, 0 for READY (R111). -/
def State.changePosition (s : State) (tslot slot : Nat) (st : HoldState) : Nat :=
  match st with
  | .ready _ _ => 0
  | _ => ((s.titleAt tslot).map fun t => s.position t slot).getD 0

/-- The new state that HOLD_CHANGE carries. -/
def HoldState.change : HoldState → HoldChange
  | .waiting => .waiting
  | .suspended _ => .suspended
  | .ready _ _ => .ready

/-! ## Trapping (R94, R95) -/

/-- A WAITING entry becomes READY and TRAPPED is posted. -/
def State.trap (s : State) (tslot title : Nat) (x : QueueItem × Hold) (copy ret : Option Nat) : State :=
  let deadline := s.pickupDeadline
  let s := s.setPool x.1.slot (.entry { x.2 with state := .ready deadline copy })
  let s := s.mapTitle tslot fun t => { t with waiting := t.waiting - 1, ready := t.ready + 1 }
  (s.post (.trapped title x.2.patron x.2.branch deadline copy ret)).mapOp fun op => { op with traps := op.traps + 1 }

/-- A copy goes to the shelf: the count rises, or holds at 255 with COUNT_CLAMP, and COPY_RELEASED is posted. -/
def State.shelve (s : State) (tslot : Nat) (t : Title) (copy ret : Option Nat) : State :=
  if 255 ≤ t.shelf then (s.logCountClamp t.id).post (.copyReleased t.id copy ret t.shelf)
  else
    (s.mapTitle tslot fun t => { t with shelf := t.shelf + 1 }).post (.copyReleased t.id copy ret (t.shelf + 1))

/-- A copy offered to a RESIDENT title slot (R94); the result says whether it was trapped. -/
def State.offerCopy (s : State) (tslot : Nat) (copy ret : Option Nat) : State × Bool :=
  let s := s.readQueueOf tslot
  match s.titleAt tslot with
  | none => (s, false)
  | some t =>
    match s.firstWaiting t with
    | some x => (s.trap tslot t.id x copy ret, true)
    | none => (s.shelve tslot t copy ret, false)

/-- A shelf copy goes to a WAITING entry. -/
def State.trapFromShelf (s : State) (tslot title : Nat) (x : QueueItem × Hold) : State :=
  (s.mapTitle tslot fun t => { t with shelf := t.shelf - 1 }).trap tslot title x none none

/-- At most `n` steps of the shelf drain (R95). -/
def State.drainSteps (tslot : Nat) : Nat → State → State
  | 0, s => s
  | n + 1, s =>
    match s.titleAt tslot with
    | none => s
    | some t =>
      if t.shelf = 0 then s
      else
        match s.firstWaiting t with
        | some x => State.drainSteps tslot n (s.trapFromShelf tslot t.id x)
        | none => s

/-- The shelf drain of a RESIDENT title slot whose queue has been read: each step takes an entry of the queue, so the
queue's length bounds them. -/
def State.drainRead (s : State) (tslot : Nat) : State :=
  match s.titleAt tslot with
  | some t => State.drainSteps tslot t.queue.length s
  | none => s

/-- The shelf drain of a RESIDENT title slot (R95), after a read of its queue. -/
def State.drain (s : State) (tslot : Nat) : State := (s.readQueueOf tslot).drainRead tslot

/-! ## Removal (R111) -/

/-- The item and its count leave a title's record. -/
def Title.without (t : Title) (slot : Nat) (st : Option HoldState) : Title :=
  { t with
    queue := t.queue.filter fun i => i.slot != slot
    waiting := if st = some .waiting then t.waiting - 1 else t.waiting
    ready :=
      match st with
      | some (.ready _ _) => t.ready - 1
      | _ => t.ready }

/-- A title id leaves the hold list of a patron whose record is RESIDENT, with each of its listings where a restoration
listed it twice (notes/assumptions/70.md), and whichever of the patron's items is removed (71.md). -/
def State.dropFromHolds (s : State) (patron title : Nat) : State :=
  match s.findPatron patron with
  | some n => s.mapPatron n fun p => { p with holds := p.holds.filter (· != title) }
  | none => s

/-- The entry of an item is removed from a title's queue with a reason. -/
def State.removeEntry (s : State) (tslot title : Nat) (i : QueueItem) (reason : HoldChange) : State :=
  let st := (s.holdAt i.slot).map Hold.state
  let s := (s.mapTitle tslot fun t => t.without i.slot st).freePool i.slot
  ((s.lookUpPatron i.patron).dropFromHolds i.patron title).post (.holdChange title i.patron reason 0)

/-! ## Placement (R89, R90) -/

/-- Checks 1 to 4 of R89. -/
def State.checkPatron (s : State) (p : Patron) (title : Nat) : State × Option Refused :=
  if p.blocked then (s, some .blocked)
  else if p.holds.contains title then (s, some .duplicate)
  else
    let s := p.loans.foldl State.readLoan s
    if p.loans.any fun n => ((s.loanAt n).map fun l => l.title == title).getD false then (s, some .onLoan)
    else if (s.schedule.category p.category).holdLimit ≤ p.holds.length then (s, some .holdLimit)
    else (s, none)

/-- Checks 6 to 8 of R89, and the pool slot the entry takes. -/
def State.checkQueue (s : State) (t : Title) (until_ : Option Nat) : Except Refused Nat :=
  if Config.queueLimit ≤ t.queue.length then .error .queueFull
  else
    match Tbl.firstFree s.pool Config.poolSlots with
    | none => .error .poolFull
    | some n =>
      match until_ with
      | some d => if d ≤ s.today then .error .badField else .ok n
      | none => .ok n

/-- The state of a new entry (R90). -/
def State.entryState (s : State) (t : Title) (until_ : Option Nat) : HoldState :=
  match until_ with
  | some d => .suspended (s.storedUntil d)
  | none => if 0 < t.shelf then .ready s.pickupDeadline none else .waiting

/-- A title record with a new item and its count. -/
def Title.with (t : Title) (i : QueueItem) (st : HoldState) : Title :=
  match st with
  | .waiting => { t with queue := t.queue ++ [i], waiting := t.waiting + 1 }
  | .suspended _ => { t with queue := t.queue ++ [i] }
  | .ready _ _ => { t with queue := t.queue ++ [i], shelf := t.shelf - 1, ready := t.ready + 1 }

/-- The notices of a new entry: HOLD_CHANGE, and TRAPPED when it was trapped from the shelf (R90). -/
def State.postPlaced (s : State) (title patron branch position : Nat) (st : HoldState) : State :=
  let s := s.post (.holdChange title patron st.change position)
  match st with
  | .ready deadline copy =>
    (s.post (.trapped title patron branch deadline copy none)).mapOp fun op => { op with traps := op.traps + 1 }
  | _ => s

/-- The entry made in pool slot n, with its state and position (R90). -/
def State.makeEntry (s : State) (n pslot tslot : Nat) (patron branch : Nat) (t : Title) (until_ : Option Nat) :
    State × HoldState × Nat :=
  let st := s.entryState t until_
  let s := s.setPool n (.entry ⟨patron, t.id, branch, s.today, st⟩)
  let s := s.mapTitle tslot fun t => t.with ⟨n, patron⟩ st
  let s := s.mapPatron pslot fun p => { p with holds := p.holds ++ [t.id] }
  let position := s.changePosition tslot n st
  (s.postPlaced t.id patron branch position st, st, position)

/-- The reads of checks 6 and 7 of R89: the queue, then, when it has room, the pool up to its lowest FREE slot. -/
def State.readForEntry (s : State) (tslot : Nat) : State :=
  let s := s.readQueueOf tslot
  match s.titleAt tslot with
  | some t => if Config.queueLimit ≤ t.queue.length then s else s.readFreePool
  | none => s

/-- Checks 6 to 8 of R89 and the entry, on a RESIDENT title slot; one that these reads damage gives DAMAGED (R2,
check 5). -/
def State.placeOn (s : State) (pslot patron tslot branch : Nat) (until_ : Option Nat) :
    State × Except Refused (HoldState × Nat) :=
  let s := s.readForEntry tslot
  match s.titleAt tslot with
  | none => (s, .error .damaged)
  | some t =>
    match s.checkQueue t until_ with
    | .error r => (s, .error r)
    | .ok n =>
      let x := s.makeEntry n pslot tslot patron branch t until_
      (x.1, .ok x.2)

/-- The title slot of a title id and what it holds, after the lookup's reads (R89 check 5). -/
inductive TitlePlace where
  | absent | fetching (slot : Nat) (tag : TagId) | resident (slot : Nat) (t : Title) | damaged (slot : Nat)

def State.titlePlace (s : State) (title : Nat) : TitlePlace :=
  match s.findTitle title with
  | none => .absent
  | some n =>
    match Tbl.lookup s.titles n with
    | some (.fetching _ tag) => .fetching n tag
    | some (.resident t) => .resident n t
    | some (.damaged _) => .damaged n
    | none => .absent

/-! ## PLACE_HOLD (R89 to R92) -/

/-- PLACE_HOLD's answer: outcome and position (R90). -/
def placeAnswer (o : ReqOutcome) (position : Nat) : Answer := ⟨[.outcome .placeHold o, .num position], o.final⟩

/-- The parked path of a placement on an absent title (R91). The search for a FREE slot may recover this very id for a
DAMAGED slot (R186), as on a fetch of a patron. -/
def State.parkPlacement (s : State) (o : Origin) (patron title branch : Nat) (until_ : Option Nat) : Served :=
  if !s.mayPark o then (s, placeAnswer (.refused .parkedLimit) 0)
  else if (until_.map fun d => decide (d ≤ s.today)).getD false then (s, placeAnswer (.refused .badField) 0)
  else
    let s := s.readFreeTag
    match s.freeTag with
    | none => (s, placeAnswer (.refused .tryLater) 0)
    | some n =>
      let s := s.readFreeTitle
      match s.findTitle title, Tbl.firstFree s.titles Config.titleSlots with
      | some _, _ => (s, placeAnswer (.refused .damaged) 0)
      | none, none => (s, placeAnswer (.refused .tableFull) 0)
      | none, some slot =>
        let tag := s.nextTagId n
        let s := s.allocateTag n .titleFetch title 0 (some o) (some ⟨patron, branch, until_⟩)
        let s := (s.setTitle slot (.fetching title tag)).raiseParked o
        (s.post (.fetchTitle tag title), placeAnswer .pending 0)

def State.placeHoldWork (op : Op) (s : State) : Served :=
  let title := op.field 1
  let branch := op.field 2
  let until_ :=
    match op.kind with
    | .request _ fields => fields[3]?
    | _ => none
  s.servePatron (op.field 0) 2 (fun _ => refusedZero 2 .damaged) fun pslot p s =>
    match s.checkPatron p title with
    | (s, some r) => (s, placeAnswer (.refused r) 0)
    | (s, none) =>
      let s := s.lookUpTitle title
      match s.titlePlace title with
      | .absent => s.parkPlacement op.from p.id title branch until_
      | .fetching _ _ => (s, placeAnswer (.refused .retry) 0)
      | .damaged _ => (s, placeAnswer (.refused .damaged) 0)
      | .resident tslot _ =>
        match s.placeOn pslot p.id tslot branch until_ with
        | (s, .error r) => (s, placeAnswer (.refused r) 0)
        | (s, .ok x) => (s, placeAnswer .ok x.2)

/-- PLACE_HOLD. -/
def execPlaceHold (x : Crossing) (s : State) : Host.Outcome State Fault Refusal :=
  State.request .placeHold State.placeHoldWork x s

/-! ## The completion of a parked placement (R93) -/

/-- The placement performed on the title slot made RESIDENT. -/
def State.completeParked (s : State) (k : Parked) (title tslot : Nat) : State × NoticeOutcome :=
  let s := s.lookUpPatron k.patron
  match s.findPatron k.patron with
  | none => (s, .refused .unknownPatron)
  | some pslot =>
    match Tbl.lookup s.patrons pslot with
    | some (.resident _) =>
      let s := s.touchDay pslot
      match s.patronAt pslot with
      | none => (s, .refused .damaged)
      | some p =>
        match s.checkPatron p title with
        | (s, some r) => (s, .refused r)
        | (s, none) =>
          match s.placeOn pslot p.id tslot k.branch k.until_ with
          | (s, .error r) => (s, .refused r)
          | (s, .ok _) => (s, .ok)
    | some (.damaged _) => (s, .refused .damaged)
    | _ => (s.touchDay pslot, .refused .unknownPatron)

/-- The HOLD_RESULT of a question (R153). -/
def State.handHoldResult (s : State) (q : Question) (number : Nat) (o : NoticeOutcome) : State :=
  match q.parked with
  | some k => s.hand q.origin ⟨.holdResult, k.patron, q.subject, o, number, false⟩
  | none => s

/-! ## Cancellation, suspension, resumption (R100 to R102) -/

/-- An entry a patron's request names: title slot, title id, item and entry. -/
structure NamedEntry where
  tslot : Nat
  title : Nat
  item  : QueueItem
  hold  : Hold

/-- Checks 1 to 3 of R100, on what the title and its queue show once both are read (R2); a listed title without the
patron's entry is NOT_FOUND (notes/assumptions/35.md), and of two items of the patron the first is meant (71.md). -/
def State.nameEntry (s : State) (p : Patron) (title : Nat) : State × Except Refused NamedEntry :=
  if p.holds.contains title then
    let s := s.readTitleQueue title
    match s.titlePlace title with
    | .damaged _ => (s, .error .damaged)
    | .resident tslot t =>
      match t.itemOf p.id with
      | none => (s, .error .notFound)
      | some i =>
        match s.holdAt i.slot with
        | some h => (s, .ok ⟨tslot, title, i, h⟩)
        | none => (s, .error .damaged)
    | _ => (s, .error .notFound)
  else (s, .error .notFound)

/-- A removed entry's READY copy offered to its title; another state offers nothing (R100). -/
def State.offerSetAside (s : State) (tslot : Nat) (h : Hold) : State :=
  match h.state with
  | .ready _ copy => (s.offerCopy tslot copy (some h.branch)).1
  | _ => s

/-- A named entry cancelled. -/
def State.cancelEntry (s : State) (e : NamedEntry) : State :=
  (s.removeEntry e.tslot e.title e.item .cancelled).offerSetAside e.tslot e.hold

/-- An entry's state changed, with HOLD_CHANGE for the new state. -/
def State.changeEntry (s : State) (e : NamedEntry) (st : HoldState) : State :=
  let s := s.setPool e.item.slot (.entry { e.hold with state := st })
  s.post (.holdChange e.title e.item.patron st.change (s.changePosition e.tslot e.item.slot st))

/-- A named entry suspended until a day as stored (R101). -/
def State.suspendEntry (s : State) (e : NamedEntry) (day : Nat) : State :=
  (if e.hold.isWaiting then s.mapTitle e.tslot fun t => { t with waiting := t.waiting - 1 } else s).changeEntry e
    (.suspended day)

/-- A resumption (R102). -/
def State.resumeEntry (s : State) (e : NamedEntry) : State :=
  let s := (s.mapTitle e.tslot fun t => { t with waiting := t.waiting + 1 }).changeEntry e .waiting
  match s.titleAt e.tslot with
  | some t =>
    if 0 < t.shelf then s.trapFromShelf e.tslot e.title (e.item, { e.hold with state := .waiting }) else s
  | none => s

def State.cancelHoldWork (op : Op) (s : State) : Served :=
  s.servePatron (op.field 0) 1 (fun _ => refusedZero 1 .damaged) fun _ p s =>
    match s.nameEntry p (op.field 1) with
    | (s, .error r) => (s, ⟨[.outcome .cancelHold (.refused r)], .refused r⟩)
    | (s, .ok e) => (s.cancelEntry e, ⟨[.outcome .cancelHold .ok], .ok⟩)

/-- CANCEL_HOLD. -/
def execCancelHold (x : Crossing) (s : State) : Host.Outcome State Fault Refusal :=
  State.request .cancelHold State.cancelHoldWork x s

/-- SUSPEND_HOLD's answer: outcome and the until-day as stored. -/
def suspendAnswer (o : ReqOutcome) (day : Nat) : Answer := ⟨[.outcome .suspendHold o, .num day], o.final⟩

def State.suspendHoldWork (op : Op) (s : State) : Served :=
  let day := op.field 2
  s.servePatron (op.field 0) 2 (fun _ => refusedZero 2 .damaged) fun _ p s =>
    match s.nameEntry p (op.field 1) with
    | (s, .error r) => (s, suspendAnswer (.refused r) 0)
    | (s, .ok e) =>
      if e.hold.isReady then (s, suspendAnswer (.refused .wrongState) 0)
      else if day ≤ s.today then (s, suspendAnswer (.refused .badField) 0)
      else (s.suspendEntry e (s.storedUntil day), suspendAnswer .ok (s.storedUntil day))

/-- SUSPEND_HOLD. -/
def execSuspendHold (x : Crossing) (s : State) : Host.Outcome State Fault Refusal :=
  State.request .suspendHold State.suspendHoldWork x s

def State.resumeHoldWork (op : Op) (s : State) : Served :=
  s.servePatron (op.field 0) 1 (fun _ => refusedZero 1 .damaged) fun _ p s =>
    match s.nameEntry p (op.field 1) with
    | (s, .error r) => (s, ⟨[.outcome .resumeHold (.refused r)], .refused r⟩)
    | (s, .ok e) =>
      if e.hold.isSuspended then (s.resumeEntry e, ⟨[.outcome .resumeHold .ok], .ok⟩)
      else (s, ⟨[.outcome .resumeHold (.refused .wrongState)], .refused .wrongState⟩)

/-- RESUME_HOLD. -/
def execResumeHold (x : Crossing) (s : State) : Host.Outcome State Fault Refusal :=
  State.request .resumeHold State.resumeHoldWork x s

/-! ## Restoring a DAMAGED title (R109) -/

/-- The readable entries of a title, by placed day and pool slot. -/
def State.entriesOf (s : State) (title : Nat) : List (Nat × Hold) :=
  ((s.pool.filterMap fun e =>
    match e.2 with
    | .entry h => if h.title = title then some (e.1, h) else none
    | .damaged => none).insertionSort
      fun a b => a.2.placed < b.2.placed ∨ (a.2.placed = b.2.placed ∧ a.1 ≤ b.1))

/-- The record rebuilt from its entries (R109 steps 1 to 3). -/
def State.rebuiltTitle (s : State) (title shelf : Nat) : Title :=
  s.recount ⟨title, shelf, (s.entriesOf title).map fun e => ⟨e.1, e.2.patron⟩, 0, 0⟩

/-- One rebuilt entry checked against its owner (R109 step 4), whose activity day the lookup sets (R15). -/
def State.checkOwner (s : State) (tslot title : Nat) (i : QueueItem) : State :=
  let s := s.lookUpPatron i.patron
  match s.findPatron i.patron with
  | none => s.removeEntry tslot title i .lost
  | some n =>
    let s := s.touchDay n
    match Tbl.lookup s.patrons n with
    | some (.resident p) =>
      if p.holds.contains title then s
      else if Config.holdListLimit ≤ p.holds.length then s.removeEntry tslot title i .lost
      else s.setPatron n (.resident { p with holds := p.holds ++ [title] })
    | some (.damaged _) => s
    | _ => s.removeEntry tslot title i .lost

/-- One RESIDENT hold list checked against the rebuilt queue (R109 step 5), which leaves the patron's activity day
(notes/assumptions/29.md). -/
def State.checkHoldList (s : State) (tslot title pslot : Nat) : State :=
  match s.patronAt pslot, s.titleAt tslot with
  | some p, some t =>
    if p.holds.contains title && (t.itemOf p.id).isNone then
      (s.mapPatron pslot fun p => { p with holds := p.holds.filter (· != title) }).post (.holdChange title p.id .lost 0)
    else s
  | _, _ => s

/-- DAMAGED pool slots that no RESIDENT queue names are freed while no title is DAMAGED (R109 step 6). -/
def State.freeDamagedPool (s : State) : State :=
  if s.anyTitleDamaged then s
  else s.putPool (s.pool.filter fun e => !(decide (e.2 = .damaged) && (s.queueNaming e.1).isNone))

/-- The restoration of a DAMAGED title slot (R109). Step 4 takes the entries in queue order and step 5 the hold lists in
patron slot order, neither of which a rule gives (notes/assumptions/41.md). Steps 5 and 6 examine every patron record and
every title record. A record that one of these reads finds damaged again stays DAMAGED (notes/assumptions/48.md). -/
def State.restoreTitle (s : State) (tslot title shelf : Nat) : State :=
  let s := s.scanTable .pool
  let t := s.rebuiltTitle title shelf
  let s := s.setTitle tslot (.resident t)
  let s := t.queue.foldl (fun s i => s.checkOwner tslot title i) s
  let s := s.scanTable .patron
  let s := (s.patrons.map Prod.fst).foldl (fun s n => s.checkHoldList tslot title n) s
  ((s.scanTable .title).freeDamagedPool).drain tslot

end Sys2Proof.Machine
end

