-- ==== Sys2Proof/Machine/Loans.lean ====
section
/-! DEFINITION. The frame of the catalogue's messages, and the messages about loans: LOAN_OPEN (R28 to R30, R98, R99)
and RETURN (R31, R96). -/

namespace Sys2Proof.Machine

/-- A message performed by the engine as a command: its work gives the tables and the CONFIRM (R1, R10). -/
def State.message (mine : OpKind → Bool) (work : Message → State → Confirmed) (x : Crossing) (s : State) :
    Host.Outcome State Fault Refusal :=
  State.command (State.perform mine (fun op s =>
    match op.message with
    | some m => State.confirm m.kind (work m s)
    | none => s) x) s

/-- A message refused for its fields: BAD_MESSAGE, nothing performed. -/
def State.badMessage (s : State) : Confirmed := (s, .badMessage, [])

/-! ## Loan lists -/

/-- A loan slot leaves the loan list of a RESIDENT record. -/
def PatronRec.withoutLoan (slot : Nat) : PatronRec → PatronRec
  | .resident p => .resident { p with loans := p.loans.filter (· != slot) }
  | r => r

/-- A list search: every RESIDENT loan list gives up the slot (R27). -/
def State.listSearch (s : State) (slot : Nat) : State :=
  let s := s.scanTable .patron
  s.putPatrons (s.patrons.map fun e => (e.1, e.2.withoutLoan slot))

/-! ## LOAN_OPEN -/

/-- The slot a LOAN_OPEN uses, and whether it overwrites a DAMAGED one; or the status that refuses it (R28 checks 3 to
6). The index is searched for a FREE slot only when one is to be taken. -/
def State.loanSlot (s : State) (p : Patron) (copy : Nat) (isRestore : Bool) : State × Except Status (Nat × Bool) :=
  let overwritten := s.findCopy copy
  match overwritten, overwritten.bind s.loanAt with
  | _, some _ => (s, .error .copyOnLoan)
  | some n, none =>
    if !isRestore then (s, .error .damaged)
    else if Config.loanLimit ≤ p.loans.length ∧ !p.loans.contains n then (s, .error .loanLimit)
    else (s, .ok (n, true))
  | none, none =>
    if Config.loanLimit ≤ p.loans.length then (s, .error .loanLimit)
    else
      let s := s.readFreeLoan
      match Tbl.firstFree s.loans Config.loanSlots with
      | some n => (s, .ok (n, false))
      | none => (s, .error .loanTableFull)

/-- The opened record (R29, R30). -/
def State.openedLoan (s : State) (copy title pslot cls due : Nat) (restore : Option RestoreFields) : Loan :=
  match restore with
  | none => ⟨copy, title, pslot, cls, due, 0, 0, s.calendar.closeDay, 0⟩
  | some r => ⟨copy, title, pslot, cls, due, r.used, r.overdue, min r.charged s.calendar.closeDay, r.accrued⟩

/-- The slot made ACTIVE and appended to its patron's loan list; a DAMAGED slot first leaves every list (R29, R30). When
that list search finds the patron's own record damaged, or loses its slot's id as well, the loan is opened all the same
and stands in no list, as the loans of a DAMAGED patron do (notes/assumptions/40.md). -/
def State.openLoan (s : State) (n pslot : Nat) (overwrites : Bool) (l : Loan) : State :=
  let s := if overwrites then s.listSearch n else s
  (s.setLoan n (.active l)).mapPatron pslot fun p =>
    { p with loans := p.loans ++ [n] }

/-- HOLD_MISMATCH (R98). -/
def State.logMismatch (s : State) (patron title copy : Nat) : State :=
  s.logFault .holdMismatch .engine { Context.empty with patron, title, copy }

/-- A copy left the shelf of a RESIDENT title (R99). -/
def State.lowerShelf (s : State) (tslot : Nat) (t : Title) : State :=
  if t.shelf = 0 then s.logCountClamp t.id else s.mapTitle tslot fun t => { t with shelf := t.shelf - 1 }

/-- A checkout without the pickup flag (R99). -/
def State.checkOut (s : State) (title : Nat) : State :=
  match s.titlePlace title with
  | .resident tslot t => s.lowerShelf tslot t
  | _ => s

/-- The patron's READY entry in a title's queue (R98). Of two items of the patron the first in queue order decides, also
when it is DAMAGED and so counts as no entry (notes/assumptions/71.md). -/
def State.readyItem (s : State) (t : Title) (patron : Nat) : Option QueueItem :=
  (t.itemOf patron).bind fun i => if ((s.holdAt i.slot).map Hold.isReady).getD false then some i else none

/-- A checkout with the pickup flag (R98). -/
def State.pickUp (s : State) (patron title copy : Nat) : State :=
  match s.titlePlace title with
  | .resident tslot _ =>
    let s := s.readQueueOf tslot
    match s.titleAt tslot with
    | some t =>
      match s.readyItem t patron with
      | some i => s.removeEntry tslot title i .filled
      | none => (s.logMismatch patron title copy).lowerShelf tslot t
    | none => s.logMismatch patron title copy
  | _ => s.logMismatch patron title copy

/-- The field checks of R28. -/
def loanFieldsOk (copy title patron cls due : Nat) (restore : Option RestoreFields) : Bool :=
  copy != 0 && title != 0 && patron != 0 && decide (cls ≤ 7) && decide (due ≤ Config.lastDay) &&
    match restore with
    | none => true
    | some r => decide (r.used ≤ 15) && decide (r.overdue ≤ 255) && decide (r.accrued ≤ 50000)

/-- LOAN_OPEN's status: CLAMPED when the restored charged-through day was lowered to C (R30). -/
def State.loanStatus (s : State) (restore : Option RestoreFields) : Status :=
  match restore with
  | some r => if s.calendar.closeDay < r.charged then .clamped else .ok
  | none => .ok

def State.loanOpenWork (m : Message) (s : State) : Confirmed :=
  match m with
  | .loanOpen copy title patron cls due pickup restore =>
    if loanFieldsOk copy title patron cls due restore then
      s.namePatron patron fun pslot p s =>
        let s := s.lookUpCopy copy
        match s.loanSlot p copy restore.isSome with
        | (s, .error status) => (s, status, [])
        | (s, .ok (n, overwrites)) =>
          let s := (s.openLoan n pslot overwrites (s.openedLoan copy title pslot cls due restore)).lookUpTitle title
          let s := if pickup = 0 then s.checkOut title else s.pickUp patron title copy
          (s, s.loanStatus restore, [⟨2, n⟩])
    else s.badMessage
  | _ => s.badMessage

/-- LOAN_OPEN. -/
def execLoanOpen (x : Crossing) (s : State) : Host.Outcome State Fault Refusal :=
  State.message (OpKind.isMessage 1) State.loanOpenWork x s

/-! ## RETURN -/

/-- How a RETURN ended a loan, and the figures its CONFIRM carries; the endings number from 0 in R31's order. -/
structure Ending where
  ending  : Nat
  patron  : Nat
  accrued : Nat

/-- An evaluated ACTIVE loan ends (R31). -/
def State.endActive (s : State) (n : Nat) (l : Loan) (charged : Bool) : State :=
  let s := if charged then (s.blockCompare l.patronSlot).postBalance l.patronSlot else s
  (s.mapPatron l.patronSlot fun p =>
    { p with loans := p.loans.filter (· != n), lastDay := s.today }).freeLoan n

/-- The patron id of a loan stands in its patron's record; where that record is DAMAGED it is read from the index place
(R14, R24). -/
def State.readOwner (s : State) (n : Nat) : State :=
  match s.loanAt n with
  | some l => if (s.patronAt l.patronSlot).isSome then s else s.readRecord ⟨.patronIndex, l.patronSlot⟩
  | none => s

/-- The loan of a copy, if there is one, ends (R31). The CONFIRM's patron id is 0 where the id of a DAMAGED patron slot
is lost (notes/assumptions/50.md). -/
def State.endLoan (s : State) (copy : Nat) : State × Ending :=
  let s := s.lookUpCopy copy
  match s.findCopy copy with
  | none => (s, ⟨2, 0, 0⟩)
  | some n =>
    match s.evaluate n with
    | (s, figures) =>
      let s := s.readOwner n
      match s.loanAt n with
      | some l => (s.endActive n l (decide (0 < figures.balanceAdded)), ⟨0, s.patronIdAt l.patronSlot, l.accrued⟩)
      | none => ((s.listSearch n).freeLoan n, ⟨1, 0, 0⟩)

/-- A returned copy offered to its title (R96); TRAPPED, SHELVED and NOT_RESIDENT number from 0 in R31's order. A title
found DAMAGED as its queue is read takes no copy (R2). -/
def State.offerReturned (s : State) (copy title branch : Nat) : State × Nat :=
  let s := s.lookUpTitle title
  match s.titlePlace title with
  | .resident tslot _ =>
    let x := s.offerCopy tslot (some copy) (some branch)
    (x.1, if x.2 then 0 else if (x.1.titleAt tslot).isSome then 1 else 2)
  | _ => (s, 2)

def State.returnWork (m : Message) (s : State) : Confirmed :=
  match m with
  | .returnCopy copy title branch =>
    if copy = 0 ∨ title = 0 ∨ 63 < branch then s.badMessage
    else
      match s.endLoan copy with
      | (s, e) =>
        match s.offerReturned copy title branch with
        | (s, offer) => (s, .ok, [⟨1, e.ending⟩, ⟨4, e.patron⟩, ⟨4, e.accrued⟩, ⟨1, offer⟩])
  | _ => s.badMessage

/-- RETURN. -/
def execReturnCopy (x : Crossing) (s : State) : Host.Outcome State Fault Refusal :=
  State.message (OpKind.isMessage 2) State.returnWork x s

end Sys2Proof.Machine
end

