-- ==== Sys2Proof/Machine/Loads.lean ====
section
/-! DEFINITION. The messages that answer the LC16's questions: PATRON_LOAD (R20 to R22, R25, R150), TITLE_LOAD (R103 to
R106, R109, R150) and AUTH_RESULT (R117, R118). -/

namespace Sys2Proof.Machine

/-! ## Satisfying a fetch -/

/-- The fetch tag of a record that a load completes: the number is retired when it still is that tag (R150, R152); a
DAMAGED number is left to its own expiry (R155). -/
def State.satisfyTag (s : State) (tag : TagId) : State :=
  if h : tag.number < 32 then
    let t := s.tags.get ⟨tag.number, h⟩
    if t.isOut && t.gen == tag.gen then s.retireTag tag.number else s
  else s

/-- The read of a record's fetch tag. -/
def State.readTagId (s : State) (tag : TagId) : State := if tag.number < 32 then s.readTag tag.number else s

/-- The question still out under a tag id. -/
def State.questionOf (s : State) (tag : TagId) : Option Question :=
  if h : tag.number < 32 then
    let t := s.tags.get ⟨tag.number, h⟩
    if t.gen == tag.gen then t.asked else none
  else none

/-! ## PATRON_LOAD -/

/-- A balance as a load uses it (R20). -/
def clampBalance (balance : Nat) : Nat := min balance Config.balanceCeiling

def clampedStatus (clamped : Bool) : Status := if clamped then .clamped else .ok

/-- A record newly RESIDENT from a load, compared, with its BALANCE when it was clamped or is blocked (R20, R21). -/
def State.newResident (s : State) (slot id category balance : Nat) : Confirmed :=
  let clamped := decide (Config.balanceCeiling < balance)
  let s := (s.setPatron slot
    (.resident ⟨id, category, clampBalance balance, 0, false, [], [], s.today⟩)).blockCompare slot
  let blocked := ((s.patronAt slot).map Patron.blocked).getD false
  (if clamped || blocked then s.postBalance slot else s, clampedStatus clamped, [])

/-- The loan slots of a patron slot's ACTIVE loans, in slot order (R25 step 3). -/
def State.loansOfSlot (s : State) (slot : Nat) : List Nat :=
  s.loans.filterMap fun e =>
    match e.2 with
    | .active l => if l.patronSlot = slot then some e.1 else none
    | .damaged _ => none

/-- The titles whose queues name a patron, in title slot order (R25 step 4), one listing for each item. A queue can hold two
items of one patron (notes/assumptions/71.md): the title is then listed twice, and a list so built may pass 32, as step 4
says entry by entry, where R13 allows no duplicate and no 33rd title: the model's choice between the two rules
(notes/assumptions/70.md). -/
def State.holdsOfPatron (s : State) (id : Nat) : List Nat :=
  s.titles.flatMap fun e =>
    match e.2 with
    | .resident t => (t.queue.filter fun i => i.patron == id).map fun _ => t.id
    | _ => []

/-- A DAMAGED patron record restored (R25). Step 2 raises a balance below the reserves to their sum, with no ceiling said,
while R13 bounds every balance at 999,999. After the patron's record and index place were both lost (R186), the same id can
be loaded afresh and pay by card while its earlier payments are still out, so that the reserves sum above that bound. The
balance then takes the sum as step 2 says, above R13's ceiling: the model's choice between the two rules
(notes/assumptions/67.md). -/
def State.restorePatron (s : State) (slot id category balance : Nat) : Confirmed :=
  let s := (s.scanTags.scanTable .loan).scanTable .title
  let pending := s.reserves id
  let kept := clampBalance balance
  let p : Patron := ⟨id, category, max kept pending, pending, false, s.loansOfSlot slot, s.holdsOfPatron id, s.today⟩
  let s := (s.setPatron slot (.resident p)).blockCompare slot
  (s.postBalance slot, clampedStatus (decide (Config.balanceCeiling < balance) || decide (kept < pending)), [])

/-- The catch-up of a RESIDENT patron that a load names, and its activity day (R9, R15). -/
def State.caughtUp (s : State) (id : Nat) : State :=
  match s.findPatron id with
  | some slot => if (s.patronAt slot).isSome then (s.catchUp slot).touchDay slot else s
  | none => s

/-- A category change, after the catch-up (R21). -/
def State.changeCategory (s : State) (slot category : Nat) : Confirmed :=
  let before := s.account slot
  let s := (s.mapPatron slot fun p => { p with category := category }).blockCompare slot
  (if s.account slot = before then s else s.postBalance slot, .ok, [])

/-- A found load on a patron id (R20, R21). The search for a record to evict may recover this very id for a DAMAGED slot
(R186), which is then restored. -/
def State.patronFound (s : State) (id category balance : Nat) : Confirmed :=
  match s.findPatron id with
  | none =>
    let s := s.readForSlot
    match s.findPatron id, s.slotForPatron with
    | some slot, _ => s.restorePatron slot id category balance
    | none, none => (s, .tableFull, [])
    | none, some slot => s.newResident slot id category balance
  | some slot =>
    match Tbl.lookup s.patrons slot with
    | some (.fetching _ _ tag) => ((s.readTagId tag).satisfyTag tag).newResident slot id category balance
    | some (.resident _) => s.changeCategory slot category
    | some (.unknown _ _) => s.newResident slot id category balance
    | some (.damaged _) => s.restorePatron slot id category balance
    | none => (s, .ok, [])

/-- A not-found load on a patron id (R20, R22); `matched` is the reply to the fetch. A DAMAGED record that becomes UNKNOWN
has no last activity day to keep, and takes today (notes/assumptions/28.md). -/
def State.patronNotFound (s : State) (id : Nat) (matched : Bool) : Confirmed :=
  match s.findPatron id with
  | none => (s, .ok, [])
  | some slot =>
    match Tbl.lookup s.patrons slot with
    | some (.fetching _ day tag) =>
      (((s.readTagId tag).satisfyTag tag).setPatron slot (.unknown id (if matched then day else s.today)), .ok, [])
    | some (.unknown _ _) => (s.touchDay slot, .ok, [])
    | some (.resident _) => (s, .wrongState, [])
    | some (.damaged _) =>
      if matched then (s.setPatron slot (.unknown id s.today), .ok, [])
      else (s, .wrongState, [])
    | none => (s, .ok, [])

/-- A load that acts on its patron, by its found flag and by what the lookup and the catch-up leave: a record that the
catch-up finds DAMAGED, or whose id it loses, is met as such (R2, notes/assumptions/28.md, 48.md). -/
def State.loadPatron (s : State) (id found category balance : Nat) (matched : Bool) : Confirmed :=
  let s := (s.lookUpPatron id).caughtUp id
  if found = 0 then s.patronNotFound id matched else s.patronFound id category balance

def State.patronLoadWork (m : Message) (s : State) : Confirmed :=
  match m with
  | .patronLoad tag patron found category balance =>
    if found ≠ 0 ∧ (7 < category ∨ patron = 0) then s.badMessage
    else if tag.present then
      let s := s.readTagField tag
      match s.matchTag tag .patronFetch (some patron) with
      | none => (s.logStaleReply tag patron 0, .staleTag, [])
      | some _ => (s.retireTag tag.number).loadPatron patron found category balance true
    else s.loadPatron patron found category balance false
  | _ => s.badMessage

/-- PATRON_LOAD. -/
def execPatronLoad (x : Crossing) (s : State) : Host.Outcome State Fault Refusal :=
  State.message (OpKind.isMessage 3) State.patronLoadWork x s

/-! ## TITLE_LOAD -/

/-- The counts a performed TITLE_LOAD's CONFIRM carries, and the entries it trapped (R103). -/
def State.titleCounts (s : State) (title : Nat) : List CField :=
  let traps := ((s.op?.map Op.traps).getD 0)
  match s.residentTitle title with
  | some t => [⟨1, t.shelf⟩, ⟨1, t.waiting⟩, ⟨1, t.ready⟩, ⟨1, traps⟩]
  | none =>
    [⟨1, Config.noTitleCount 0 title⟩, ⟨1, Config.noTitleCount 1 title⟩, ⟨1, Config.noTitleCount 2 title⟩, ⟨1, traps⟩]

/-- A title slot made RESIDENT with an empty queue (R104, R105). -/
def State.newTitle (s : State) (slot title shelf : Nat) : State := s.setTitle slot (.resident ⟨title, shelf, [], 0, 0⟩)

/-- A found load on a title id (R104, R105, R109): the tables, the status, and the RESIDENT slot if there is one. The queue
of a RESIDENT title is read first, and a title which that read finds DAMAGED is restored (R2), as is one whose id the
search for a FREE slot recovers (R186). -/
def State.titleFound (s : State) (title shelf : Nat) : State × Status × Option Nat :=
  let s := s.readQueueById title
  match s.titlePlace title with
  | .absent =>
    let s := s.readFreeTitle
    match s.findTitle title, Tbl.firstFree s.titles Config.titleSlots with
    | some n, _ => (s.restoreTitle n title shelf, .ok, some n)
    | none, some n => (s.newTitle n title shelf, .ok, some n)
    | none, none => (s, .tableFull, none)
  | .fetching n tag => ((s.satisfyTag tag).newTitle n title shelf, .ok, some n)
  | .resident n _ => ((s.mapTitle n fun t => { t with shelf := shelf }).drainRead n, .ok, some n)
  | .damaged n => (s.restoreTitle n title shelf, .ok, some n)

/-- A not-found load on a title id (R104, R106). -/
def State.titleNotFound (s : State) (title : Nat) : State × Status :=
  match s.titlePlace title with
  | .absent => (s, .ok)
  | .fetching n tag => ((s.satisfyTag tag).freeTitle n, .ok)
  | .resident _ _ => (s, .wrongState)
  | .damaged _ => (s, .wrongState)

/-- One parked placement completes after a found load (R93, R104). -/
def State.completeQuestion (s : State) (title : Nat) (slot : Option Nat) (q : Question) (number : Nat) : State :=
  match q.parked, slot with
  | some k, some n =>
    match s.completeParked k title n with
    | (s, o) => (s.handHoldResult q number o).drain n
  | _, _ => s.handHoldResult q number (.refused .tableFull)

/-- OK, or CLAMPED in its place when the message's shelf count is above 255; another status stands (R103). -/
def shelfStatus (status : Status) (shelf : Nat) : Status := if status = .ok ∧ 255 < shelf then .clamped else status

/-- A load that acts on its title with the questions it ends, each with its number. -/
def State.loadTitle (s : State) (title found shelf : Nat) (qs : List (Question × Nat)) : Confirmed :=
  if found = 0 then
    match s.titleNotFound title with
    | (s, status) =>
      let s := qs.foldl (fun s q => s.handHoldResult q.1 q.2 (.refused .notFound)) s
      (s, shelfStatus status shelf, s.titleCounts title)
  else
    match s.titleFound title (min shelf 255) with
    | (s, status, slot) =>
      let s := qs.foldl (fun s q => s.completeQuestion title slot q.1 q.2) s
      (s, shelfStatus status shelf, s.titleCounts title)

/-- The question that a FETCHING title's own tag still asks. -/
def State.fetchQuestion (s : State) (title : Nat) : List (Question × Nat) :=
  match s.titlePlace title with
  | .fetching _ tag =>
    match s.questionOf tag with
    | some q => [(q, tag.number)]
    | none => []
  | _ => []

/-- The reads of the fetch tag of a FETCHING title. -/
def State.readFetchTag (s : State) (title : Nat) : State :=
  match s.titlePlace title with
  | .fetching _ tag => s.readTagId tag
  | _ => s

/-- The work of a TITLE_LOAD. A matched reply that finds its title FETCHING under another tag ends two placements, the
matched tag's first (notes/assumptions/54.md). -/
def State.titleLoadWork (m : Message) (s : State) : Confirmed :=
  match m with
  | .titleLoad tag title found shelf =>
    if title = 0 then s.badMessage
    else if tag.present then
      let s := s.readTagField tag
      match s.matchTag tag .titleFetch (some title) with
      | none => (s.logStaleReply tag 0 title, .staleTag, [])
      | some q =>
        let s := ((s.retireTag tag.number).lookUpTitle title).readFetchTag title
        s.loadTitle title found shelf ((q, tag.number) :: s.fetchQuestion title)
    else
      let s := (s.lookUpTitle title).readFetchTag title
      s.loadTitle title found shelf (s.fetchQuestion title)
  | _ => s.badMessage

/-- TITLE_LOAD. -/
def execTitleLoad (x : Crossing) (s : State) : Host.Outcome State Fault Refusal :=
  State.message (OpKind.isMessage 4) State.titleLoadWork x s

/-! ## AUTH_RESULT -/

/-- The CARD_RESULT of a question (R153). -/
def State.handCardResult (s : State) (q : Question) (number amount : Nat) (o : NoticeOutcome) : State :=
  s.hand q.origin ⟨.cardResult, q.subject, amount, o, number, false⟩

/-- A matched reply that cannot reach a RESIDENT record (R118). -/
def State.authLost (s : State) (q : Question) (number amount : Nat) : Confirmed :=
  (s.handCardResult q number amount (.refused .damaged), .damaged, [⟨4, 0⟩, ⟨4, 0⟩, ⟨4, 0⟩])

/-- A matched reply applied to a RESIDENT slot (R117). A reserve above the pending credit, which memory damage and a fresh
load of the patron can leave, brings the pending credit to 0 (notes/assumptions/42.md). -/
def State.applyAuth (s : State) (slot : Nat) (q : Question) (number amount : Nat) (clamped : Bool) : Confirmed :=
  let s := (s.mapPatron slot fun p => { p with pending := p.pending - q.reserve }).takeOff slot amount
  let s := s.handCardResult q number amount .ok
  match s.patronAt slot with
  | some p => (s, clampedStatus clamped, [⟨4, amount⟩, ⟨4, p.balance⟩, ⟨4, p.pending⟩])
  | none => (s, clampedStatus clamped, [⟨4, amount⟩, ⟨4, 0⟩, ⟨4, 0⟩])

/-- A matched reply acts on the record of its subject (R117, R118). -/
def State.authMatched (s : State) (q : Question) (number amount : Nat) : Confirmed :=
  let s := s.lookUpPatron q.subject
  let applied := min amount q.reserve
  match s.findPatron q.subject with
  | none => s.authLost q number applied
  | some slot =>
    match Tbl.lookup s.patrons slot with
    | some (.resident _) =>
      let s := (s.catchUp slot).touchDay slot
      if (s.patronAt slot).isSome then s.applyAuth slot q number applied (decide (q.reserve < amount))
      else s.authLost q number applied
    | _ => (s.touchDay slot).authLost q number applied

def State.authResultWork (m : Message) (s : State) : Confirmed :=
  match m with
  | .authResult tag amount =>
    let s := s.readTagField tag
    match s.matchTag tag .cardAuth none with
    | none => (s.logStaleReply tag 0 0, .staleTag, [])
    | some q => (s.retireTag tag.number).authMatched q tag.number amount
  | _ => s.badMessage

/-- AUTH_RESULT. -/
def execAuthResult (x : Crossing) (s : State) : Host.Outcome State Fault Refusal :=
  State.message (OpKind.isMessage 5) State.authResultWork x s

end Sys2Proof.Machine
end

