-- ==== Sys2Proof/Machine/Messages.lean ====
section
/-! DEFINITION. The catalogue's other messages: DAY_CLOSE (R40 to R42, R130, R141), CALENDAR (R38), SCHEDULE (R50, R51),
WAIVE (R121), HOLD_PLACE (R89, R90, R92), HOLD_CANCEL (R100), LANE_CONTROL (R160), STATUS_READ (R143, R183), FAULT_READ
and FAULT_CLEAR (R190), and RESTART (R184). -/

namespace Sys2Proof.Machine

/-! ## DAY_CLOSE -/

/-- The close day moves, and the marks outside the new window are forgotten (R41). -/
def Calendar.advance (c : Calendar) (day : Nat) : Calendar :=
  { closeDay := day, marks := c.marks.filter fun e => Calendar.inWindow { c with closeDay := day } e.1 }

/-- A count of the summary that saturates at 65,535 (R129). -/
def saturate16 (n : Nat) : Nat := min 65535 n

/-- The new close day handed to the Sweep Unit: a start in IDLE, else a restart (R42, R130, R141). -/
def Sweep.close (w : Sweep) (day : Nat) : Sweep :=
  match w.state with
  | .idle =>
    { w with
      state := .loans, phase := .evaluating, cursor := 0, target := day, complete := false,
      current := { Summary.zero with closeDay := day } }
  | _ =>
    { w with
      state := .loans, phase := .evaluating, cursor := 0, target := day, complete := false,
      current := { w.current with closeDay := day, restarts := saturate16 (w.current.restarts + 1) } }

def State.dayCloseWork (m : Message) (s : State) : Confirmed :=
  match m with
  | .dayClose given =>
    let day := min given Config.lastDay
    let old := s.calendar.closeDay
    if day ≤ old then (s, .stale, [⟨2, old⟩, ⟨2, 0⟩])
    else
      ({ s with calendar := s.calendar.advance day, sweep := s.sweep.close day },
        clampedStatus (decide (Config.lastDay < given)), [⟨2, day⟩, ⟨2, day - old⟩])
  | _ => s.badMessage

/-- DAY_CLOSE. -/
def execDayClose (x : Crossing) (s : State) : Host.Outcome State Fault Refusal :=
  State.message (OpKind.isMessage 6) State.dayCloseWork x s

/-! ## CALENDAR -/

/-- A mark's value on the link (R193). -/
def markOf : Nat → Option Mark
  | 0 => some .open_
  | 1 => some .closed
  | _ => none

/-- The days of a CALENDAR taken in order: the calendar after it and the days set (R38). -/
def Calendar.setMarks (c : Calendar) : Nat → List Mark → Calendar × Nat
  | _, [] => (c, 0)
  | day, m :: ms =>
    if c.inWindow day then
      let x := Calendar.setMarks { c with marks := Tbl.store c.marks day m } (day + 1) ms
      (x.1, x.2 + 1)
    else Calendar.setMarks c (day + 1) ms

def State.calendarWork (m : Message) (s : State) : Confirmed :=
  match m with
  | .calendar first count values =>
    if count = 0 ∨ 64 < count ∨ values.length ≠ count then s.badMessage
    else
      match values.mapM markOf with
      | none => s.badMessage
      | some marks =>
        let x := s.calendar.setMarks first marks
        ({ s with calendar := x.1 }, if x.2 = count then .ok else .clipped, [⟨1, x.2⟩, ⟨1, count - x.2⟩])
  | _ => s.badMessage

/-- CALENDAR. -/
def execCalendar (x : Crossing) (s : State) : Host.Outcome State Fault Refusal :=
  State.message (OpKind.isMessage 7) State.calendarWork x s

/-! ## SCHEDULE -/

/-- The ranges of a target's values, in R50's order (R47, R48). -/
def classRanges : List (Nat × Nat) := [(0, 500), (0, 7), (0, 50000), (1, 90), (0, 15), (0, 30), (0, 15)]
def categoryRanges : List (Nat × Nat) := [(0, 200), (0, 999999), (0, 32)]
def globalRanges : List (Nat × Nat) := [(1, 14), (5, 60)]

/-- A value brought into its range (R51). -/
def intoRange (r : Nat × Nat) (v : Nat) : Nat := max r.1 (min r.2 v)

/-- The set a SCHEDULE stores, from values already in range and of the target's count; none for a target that does not
exist (R50). -/
def Schedule.put (x : Schedule) (target number : Nat) (values : List Nat) : Option Schedule :=
  match target, values with
  | 0, [rate, grace, cap, period, maxRenewal, window, threshold] =>
    if h : number < 8 then
      some { x with classes := x.classes.set number ⟨rate, grace, cap, period, maxRenewal, window, threshold⟩ h }
    else none
  | 1, [factor, threshold, holdLimit] =>
    if h : number < 8 then some { x with categories := x.categories.set number ⟨factor, threshold, holdLimit⟩ h }
    else none
  | 2, [pickupDays, tagTimeout] =>
    if number = 0 then some { x with globals := ⟨pickupDays, tagTimeout⟩ } else none
  | _, _ => none

/-- The ranges of a target kind. -/
def rangesOf : Nat → List (Nat × Nat)
  | 0 => classRanges
  | 1 => categoryRanges
  | _ => globalRanges

def State.scheduleWork (m : Message) (s : State) : Confirmed :=
  match m with
  | .schedule target number values =>
    if values.length ≠ (rangesOf target).length then s.badMessage
    else
      let stored := List.zipWith intoRange (rangesOf target) values
      match s.schedule.put target number stored with
      | none => s.badMessage
      | some x =>
        let clamped := (List.zipWith (fun a b => decide (a ≠ b)) stored values).count true
        ({ s with schedule := x }, clampedStatus (decide (0 < clamped)), ⟨1, clamped⟩ :: stored.map fun v => ⟨4, v⟩)
  | _ => s.badMessage

/-- SCHEDULE. -/
def execSchedule (x : Crossing) (s : State) : Host.Outcome State Fault Refusal :=
  State.message (OpKind.isMessage 8) State.scheduleWork x s

/-! ## WAIVE -/

/-- A WAIVE's result fields: applied amount, balance and pending credit (R121). -/
def waiveFields (applied balance pending : Nat) : List CField := [⟨4, applied⟩, ⟨4, balance⟩, ⟨4, pending⟩]

def State.waiveWork (m : Message) (s : State) : Confirmed :=
  match m with
  | .waive patron amount =>
    s.namePatron patron fun slot p s =>
      if amount = 0 then (s, .badAmount, waiveFields 0 p.balance p.pending)
      else if p.payable = 0 then (s, .nothingDue, waiveFields 0 p.balance p.pending)
      else
        let applied := min amount p.payable
        (s.takeOff slot applied, clampedStatus (decide (p.payable < amount)),
          waiveFields applied (p.balance - applied) p.pending)
  | _ => s.badMessage

/-- WAIVE. -/
def execWaive (x : Crossing) (s : State) : Host.Outcome State Fault Refusal :=
  State.message (OpKind.isMessage 9) State.waiveWork x s

/-! ## HOLD_PLACE and HOLD_CANCEL -/

/-- The status of a refused placement or cancellation (R89, R100); the outcomes a message cannot meet take the last
line. -/
def Refused.status : Refused → Status
  | .blocked => .blocked
  | .duplicate => .duplicate
  | .onLoan => .onLoan
  | .holdLimit => .holdLimit
  | .damaged => .damaged
  | .queueFull => .queueFull
  | .poolFull => .poolFull
  | .badField => .badField
  | .notFound => .notFound
  | _ => .wrongState

/-- The until-day was lowered (R90). -/
def State.untilLowered (s : State) (until_ : Option Nat) : Bool :=
  match until_ with
  | some d => decide (s.storedUntil d < d)
  | none => false

def State.holdPlaceWork (m : Message) (s : State) : Confirmed :=
  match m with
  | .holdPlace patron title branch until_ =>
    if patron = 0 ∨ title = 0 ∨ 63 < branch then s.badMessage
    else
      s.namePatron patron fun pslot p s =>
        match s.checkPatron p title with
        | (s, some r) => (s, r.status, [])
        | (s, none) =>
          let s := s.lookUpTitle title
          match s.titlePlace title with
          | .absent => (s, .titleNotResident, [])
          | .fetching _ _ => (s, .titleNotResident, [])
          | .damaged _ => (s, .damaged, [])
          | .resident tslot _ =>
            match s.placeOn pslot p.id tslot branch until_ with
            | (s, .error r) => (s, r.status, [])
            | (s, .ok x) =>
              (s, clampedStatus (s.untilLowered until_), [⟨1, x.1.change.number⟩, ⟨1, x.2⟩])
  | _ => s.badMessage

/-- HOLD_PLACE. -/
def execHoldPlace (x : Crossing) (s : State) : Host.Outcome State Fault Refusal :=
  State.message (OpKind.isMessage 10) State.holdPlaceWork x s

def State.holdCancelWork (m : Message) (s : State) : Confirmed :=
  match m with
  | .holdCancel patron title =>
    s.namePatron patron fun _ p s =>
      match s.nameEntry p title with
      | (s, .error r) => (s, r.status, [])
      | (s, .ok e) => (s.cancelEntry e, .ok, [⟨1, e.hold.state.change.number⟩])
  | _ => s.badMessage

/-- HOLD_CANCEL. -/
def execHoldCancel (x : Crossing) (s : State) : Host.Outcome State Fault Refusal :=
  State.message (OpKind.isMessage 11) State.holdCancelWork x s

/-! ## LANE_CONTROL -/

/-- The lane's new values, announced within the operation (R159). -/
def State.controlLane (s : State) (l : Lane) (u : LaneUnit) : State := (s.setLane l u).announceByOp l

/-- ENABLE (R160): a lane that becomes DETACHED with carrier present goes on to settle. -/
def State.enableLane (s : State) (l : Lane) : State × Status :=
  let u := s.lane l
  match u.life with
  | .disabled | .faulted =>
    let s := s.controlLane l (u.cutAndClear.enter .detached .enabled)
    (s.setLane l (s.lane l).settleIfCarrier, .ok)
  | .quiescing => (s, .laneBusy)
  | _ => (s, .wrongState)

/-- A lane that leaves for DISABLED (R160): timers stopped, and cut when it was ACTIVE, QUIESCING or FAULTED (R162). -/
def LaneUnit.disable (u : LaneUnit) (reason : LaneReason) : LaneUnit :=
  match u.life with
  | .active | .quiescing | .faulted => u.cutAndClear.enter .disabled reason
  | _ => ({ u with timer := .off } : LaneUnit).enter .disabled reason

/-- DISABLE (R160, R161). -/
def State.disableLane (s : State) (l : Lane) : State × Status :=
  let u := s.lane l
  match u.life with
  | .disabled => (s, .ok)
  | .quiescing => (s, .laneBusy)
  | .active =>
    match u.exchange with
    | some _ => ((s.controlLane l (u.enter .quiescing .quiescing)).answerHeldCall l, .ok)
    | none => (s.controlLane l (u.disable .disabled), .ok)
  | _ => (s.controlLane l (u.disable .disabled), .ok)

/-- ABORT (R160). -/
def State.abortLane (s : State) (l : Lane) : State × Status :=
  match (s.lane l).life with
  | .disabled => (s, .ok)
  | _ => (s.controlLane l ((s.lane l).disable .aborted), .ok)

/-- A LANE_CONTROL whose action is the given one (R160, R193). -/
def State.laneControlWork (action : Nat) (act : State → Lane → State × Status) (m : Message) (s : State) : Confirmed :=
  match m with
  | .laneControl lane a =>
    if h : lane < 16 ∧ a = action then
      let l : Lane := ⟨lane, h.1⟩
      match act s l with
      | (s, status) => (s, status, [⟨1, (s.lane l).life.number⟩])
    else s.badMessage
  | _ => s.badMessage

/-- The operation is a LANE_CONTROL with this action, or with one that does not exist. -/
def OpKind.isControl (action : Nat) : OpKind → Bool
  | .message _ (.laneControl _ a) => a == action || decide (2 < a)
  | _ => false

/-- LANE_CONTROL ENABLE. -/
def execLaneControlEnable (x : Crossing) (s : State) : Host.Outcome State Fault Refusal :=
  State.message (OpKind.isControl 0) (State.laneControlWork 0 State.enableLane) x s

/-- LANE_CONTROL DISABLE. -/
def execLaneControlDisable (x : Crossing) (s : State) : Host.Outcome State Fault Refusal :=
  State.message (OpKind.isControl 1) (State.laneControlWork 1 State.disableLane) x s

/-- LANE_CONTROL ABORT. -/
def execLaneControlAbort (x : Crossing) (s : State) : Host.Outcome State Fault Refusal :=
  State.message (OpKind.isControl 2) (State.laneControlWork 2 State.abortLane) x s

/-! ## STATUS_READ, FAULT_READ, FAULT_CLEAR, RESTART -/

/-- The sweep fields of R143. -/
def Sweep.fields (w : Sweep) : List CField :=
  [⟨1, w.state.number⟩, ⟨1, w.phase.number⟩, ⟨2, w.cursor⟩, ⟨2, w.target⟩, ⟨1, if w.complete then 1 else 0⟩] ++
    w.current.fields ++ w.last.fields

/-- The number of tags in a state. -/
def State.tagCount (s : State) (st : TagState) : Nat := (s.tags.toList.filter fun t => decide (t.state = st)).length

/-- STATUS_READ's result fields, in R183's order; its own CONFIRM counts as an occupied outbound entry. -/
def State.statusFields (s : State) : List CField :=
  [⟨2, s.calendar.closeDay⟩] ++ s.sweep.fields ++
    (s.lanes.toList.flatMap fun u => [⟨1, u.life.number⟩, ⟨2, u.gen⟩, ⟨1, u.roll.toNat⟩]) ++
    [⟨1, s.tagCount .outstanding⟩, ⟨1, s.tagCount .due⟩, ⟨1, s.tagCount .damaged⟩,
     ⟨1, s.link.inbound.length⟩, ⟨1, if s.flowHold then 1 else 0⟩, ⟨1, s.link.sideList.length⟩,
     ⟨1, s.link.outbound.length + 1⟩]

/-- STATUS_READ counts the tags from their map entries, which it reads. -/
def State.statusWork (s : State) : Confirmed :=
  let s := s.scanTable .tagMap
  (s, .ok, s.statusFields)

/-- STATUS_READ. -/
def execStatusRead (x : Crossing) (s : State) : Host.Outcome State Fault Refusal :=
  State.message (OpKind.isMessage 13) (fun _ s => s.statusWork) x s

/-- The first-fault record as FAULT_READ reports it; for class none the rest is open (R190). -/
def firstFaultFields : Option FaultRec → List CField
  | some f => f.fields
  | none => ⟨1, Config.noFaultClass⟩ :: (List.range 27).map fun n => ⟨1, Config.noFaultByte n⟩

/-- FAULT_READ's result fields (R190). -/
def FaultLog.readFields (f : FaultLog) : List CField :=
  firstFaultFields f.first ++ [⟨2, f.classes.toNat⟩, ⟨2, f.corrected⟩, ⟨1, if f.owed then 1 else 0⟩]

/-- FAULT_READ. -/
def execFaultRead (x : Crossing) (s : State) : Host.Outcome State Fault Refusal :=
  State.message (OpKind.isMessage 14) (fun _ s => (s, .ok, s.faults.readFields)) x s

/-- The Fault Log cleared (R190). -/
def FaultLog.clear (f : FaultLog) : FaultLog :=
  { f with first := none, classes := 0, corrected := 0, owed := false, reported := true }

/-- FAULT_CLEAR. -/
def execFaultClear (x : Crossing) (s : State) : Host.Outcome State Fault Refusal :=
  State.message (OpKind.isMessage 15) (fun _ s => ({ s with faults := s.faults.clear }, .ok, [])) x s

/-- RESTART; its completion sets the restart-pending flag (R11, R184). -/
def execRestart (x : Crossing) (s : State) : Host.Outcome State Fault Refusal :=
  State.message (OpKind.isMessage 16) (fun _ s => (s, .ok, [])) x s

end Sys2Proof.Machine
end

