-- ==== Sys2Proof/Machine/Sweep.lean ====
section
/-! DEFINITION. The steps of the day sweep (R131 to R140, R145): LOANS_STEP and HOLDS_STEP. -/

namespace Sys2Proof.Machine

/-- A sweep step performed by the engine as a command. -/
def State.sweepStep (kind : OpKind) (work : State → State) (x : Crossing) (s : State) :
    Host.Outcome State Fault Refusal :=
  State.command (State.perform (fun k => decide (k = kind)) (fun _ s => work s) x) s

def State.setSweep (s : State) (w : Sweep) : State := { s with sweep := w }

/-- The current summary changed by f (R10, R129). -/
def State.mapCurrent (s : State) (f : Summary → Summary) : State :=
  s.setSweep { s.sweep with current := f s.sweep.current }

/-! ## LOANS_STEP (R132, R133) -/

/-- The first ACTIVE slot, told by its index place; a DAMAGED slot passed over is freed when its copy id was lost (R132,
R186). -/
def State.nextLoan : List Nat → State → State × Option Nat
  | [], s => (s, none)
  | n :: ns, s =>
    let s := s.readRecord ⟨.copyIndex, n⟩
    match Tbl.lookup s.loans n with
    | some (.active _) => (s, some n)
    | some (.damaged copy) => State.nextLoan ns (if copy = 0 then (s.listSearch n).freeLoan n else s)
    | none => State.nextLoan ns s

/-- A LOANS step's figures added to the summary (R129, R132). -/
def Summary.addLoan (m : Summary) (f : Figures) : Summary :=
  { m with
    evaluated := if 0 < f.daysWalked then saturate16 (m.evaluated + 1) else m.evaluated
    cents := min 4294967295 (m.cents + f.balanceAdded) }

/-- The compare and BALANCE of an evaluation that charged (R63). -/
def State.reportCharge (s : State) (n : Nat) (f : Figures) : State :=
  match s.loanAt n with
  | some l => if 0 < f.balanceAdded then (s.blockCompare l.patronSlot).postBalance l.patronSlot else s
  | none => s

/-- The LOANS phase is over (R133). -/
def Sweep.toHolds (w : Sweep) : Sweep := { w with state := .holds, phase := .nextTitle, cursor := 0, complete := false }

def State.loansStepWork (s : State) : State :=
  match State.nextLoan (s.slotsFrom .copyIndex (s.loans.map Prod.fst) s.sweep.cursor) s with
  | (s, none) => s.setSweep s.sweep.toHolds
  | (s, some n) =>
    match s.evaluate n with
    | (s, f) =>
      let s := (s.reportCharge n f).mapCurrent fun m => m.addLoan f
      s.setSweep { s.sweep with cursor := n + 1 }

/-- LOANS_STEP. -/
def execLoansStep (x : Crossing) (s : State) : Host.Outcome State Fault Refusal :=
  State.sweepStep .loansStep State.loansStepWork x s

/-! ## HOLDS_STEP (R134 to R140) -/

/-- The first RESIDENT title (R134, R145). The place tells whether a slot is FREE, and the record of one that is not is
read too (notes/assumptions/11.md). -/
def State.nextTitle : List Nat → State → State × Option Nat
  | [], s => (s, none)
  | n :: ns, s =>
    let s := s.readRecord ⟨.titleIndex, n⟩
    let s := if (Tbl.lookup s.titles n).isSome then s.readTitle n else s
    if (s.titleAt n).isSome then (s, some n) else State.nextTitle ns s

/-- A change due on a title, with its item and, for the first two kinds, its entry. -/
inductive Change where
  | resume (i : QueueItem) (h : Hold)
  | expire (i : QueueItem) (h : Hold)
  | remove (i : QueueItem)
  deriving DecidableEq, Repr

def Change.phase : Change → SweepPhase
  | .resume _ _ => .resuming
  | .expire _ _ => .expiring
  | .remove _ => .removing

/-- A SUSPENDED entry whose day has come (R135). -/
def Hold.resumeDue (today : Nat) (h : Hold) : Bool :=
  match h.state with
  | .suspended day => decide (day ≤ today)
  | _ => false

/-- A READY entry whose deadline has passed (R136). At a close day of 65,534 that holds of an entry trapped now, whose
deadline is 65,534 too (notes/assumptions/43.md). -/
def Hold.expiryDue (closeDay : Nat) (h : Hold) : Bool :=
  match h.state with
  | .ready deadline _ => decide (deadline ≤ closeDay)
  | _ => false

/-- The first readable entry of a queue that satisfies p, with its item. -/
def State.entryWhere (s : State) (t : Title) (p : Hold → Bool) : Option (QueueItem × Hold) :=
  (s.firstHold t.queue p).bind fun i => (s.holdAt i.slot).map fun h => (i, h)

/-- The first change due on a title, in the order resumptions, expiries, removals (R135 to R137). -/
def State.dueChange (s : State) (t : Title) : Option Change :=
  match s.entryWhere t (Hold.resumeDue s.today) with
  | some x => some (.resume x.1 x.2)
  | none =>
    match s.entryWhere t (Hold.expiryDue s.calendar.closeDay) with
    | some x => some (.expire x.1 x.2)
    | none => (t.queue.find? fun i => (s.holdAt i.slot).isNone).map .remove

/-- One change made and counted (R135 to R137). -/
def State.makeChange (s : State) (n title : Nat) : Change → State
  | .resume i h =>
    (s.resumeEntry ⟨n, title, i, h⟩).mapCurrent fun m => { m with resumed := saturate16 (m.resumed + 1) }
  | .expire i h =>
    ((s.removeEntry n title i .expired).offerSetAside n h).mapCurrent fun m =>
      { m with expired := saturate16 (m.expired + 1) }
  | .remove i => s.removeEntry n title i .lost

/-- At most `k` changes on a title, each the first one due after a read of its queue (R138). -/
def State.makeChanges (n : Nat) : Nat → State → State
  | 0, s => s
  | k + 1, s =>
    let s := s.readQueueOf n
    match s.titleAt n with
    | none => s
    | some t =>
      match s.dueChange t with
      | none => s
      | some c => State.makeChanges n k (s.makeChange n t.id c)

/-- A title slot that may be released: RESIDENT, queue empty, no TITLE_FETCH question out about it (R139). -/
def State.mayRelease (s : State) (t : Title) : Bool :=
  t.queue.isEmpty && !s.questions.any fun q => decide (q.kind = .titleFetch) && q.subject == t.id

/-- The title is finished: released when it may be, and the cursor moves past it (R138, R139). For an empty queue the
tags are read to see which titles they ask about. -/
def State.finishTitle (s : State) (n : Nat) (t : Title) : State :=
  let s := if t.queue.isEmpty then s.scanTags else s
  let s :=
    if s.mayRelease t then (s.freeTitle n).mapCurrent fun m => { m with released := saturate16 (m.released + 1) }
    else s
  s.setSweep { s.sweep with cursor := n + 1, phase := .nextTitle }

/-- The work of a step on a title: four changes at most, then the phase of the first change left, or the finish
(R138). The queue is read once more before that is settled. An entry that this last read finds DAMAGED is left to the next
step, the cursor on the title and the phase REMOVING, though the step may have made fewer than four changes; R137 allows
that or a removal within the step: the model's choice (notes/assumptions/72.md). A title that a read of the step finds
DAMAGED after its first read is left there, the cursor past it (52.md). -/
def State.workTitle (s : State) (n : Nat) : State :=
  let s := (State.makeChanges n 4 s).readQueueOf n
  match s.titleAt n with
  | none => s.setSweep { s.sweep with cursor := n + 1, phase := .nextTitle }
  | some t =>
    match s.dueChange t with
    | some c => s.setSweep { s.sweep with cursor := n, phase := c.phase }
    | none => s.finishTitle n t

/-- A patron record that the closing step frees and counts (R140 item 1). -/
def PatronRec.isUnknown : PatronRec → Bool
  | .unknown _ _ => true
  | _ => false

/-- A DAMAGED patron slot that lost its id and that no loan names (R140 item 2). -/
def State.isForgotten (s : State) (n : Nat) (r : PatronRec) : Bool := decide (r = .damaged 0) && !s.loanNames n

/-- The patron slots that the closing step frees (R140). -/
def State.closePatrons (s : State) : State :=
  s.putPatrons (s.patrons.filter fun e => !(e.2.isUnknown || s.isForgotten e.1 e.2))

/-- The reads of the closing step: every patron index place and record, and with a slot that lost its id among them every
loan record (notes/assumptions/11.md). -/
def State.readToClose (s : State) : State :=
  let s := (s.scanTable .patronIndex).scanTable .patron
  if s.patrons.any fun e => decide (e.2 = .damaged 0) then s.scanTable .loan else s

/-- The Sweep Unit after a sweep has ended (R140 items 3 and 5). -/
def Sweep.ended (w : Sweep) : Sweep :=
  { w with state := .idle, phase := .none, cursor := 0, complete := true, current := .zero, last := w.current }

/-- The closing step (R140). -/
def State.closeSweep (s : State) : State :=
  let s := s.readToClose
  let freed := (s.patrons.filter fun e => e.2.isUnknown).length
  let s := s.closePatrons.mapCurrent fun m => { m with freed := saturate16 (m.freed + freed) }
  (s.post (.sweepDone s.sweep.current)).setSweep s.sweep.ended

def State.holdsStepWork (s : State) : State :=
  match State.nextTitle (s.slotsFrom .titleIndex (s.titles.map Prod.fst) s.sweep.cursor) s with
  | (s, none) => s.closeSweep
  | (s, some n) => s.workTitle n

/-- HOLDS_STEP. -/
def execHoldsStep (x : Crossing) (s : State) : Host.Outcome State Fault Refusal :=
  State.sweepStep .holdsStep State.holdsStepWork x s

end Sys2Proof.Machine
end

