-- ==== Sys2Proof/Machine/Tags.lean ====
section
/-! DEFINITION. Request tags that run out of time: TAG_DEADLINE (R148) and TAG_EXPIRY (R151, R155, R23, R107, R119). -/

namespace Sys2Proof.Machine

/-! ## TAG_DEADLINE -/

/-- An OUTSTANDING number becomes DUE and joins the line (R148). -/
def State.passDeadline (s : State) (n : Fin 32) : State :=
  let t := s.tags.get n
  match t.state with
  | .outstanding => { s.setTag n { t with state := .due } with tagLine := s.tagLine ++ [n.val] }
  | _ => s

/-- TAG_DEADLINE: the deadlines that pass together, in order of number; a request at the TAGS position starts a search
(R5, R148). -/
def execTagDeadline (numbers : List (Fin 32)) (s : State) : Host.Outcome State Fault Refusal :=
  State.command (fun s => ((numbers.insertionSort (· ≤ ·)).foldl State.passDeadline s).search) s

/-! ## TAG_EXPIRY -/

/-- A FETCHING patron record that holds the tag becomes FREE (R23). -/
def State.endPatronFetch (s : State) (id : Nat) (tag : TagId) : State :=
  let s := s.lookUpPatron id
  match s.findPatron id with
  | none => s
  | some n =>
    match Tbl.lookup s.patrons n with
    | some (.fetching _ _ held) => if held = tag then s.freePatron n else s
    | _ => s

/-- A FETCHING title record that holds the tag becomes FREE (R107). -/
def State.endTitleFetch (s : State) (id : Nat) (tag : TagId) : State :=
  let s := s.lookUpTitle id
  match s.titlePlace id with
  | .fetching n held => if held = tag then s.freeTitle n else s
  | _ => s

/-- A card payment that was not answered: the reserve is released on a RESIDENT record, with a BALANCE (R119). A record
in another state is not changed: the rules name only DAMAGED of these (notes/assumptions/32.md, and 42.md for a reserve
above the pending credit). -/
def State.endCardAuth (s : State) (q : Question) : State :=
  let s := s.lookUpPatron q.subject
  match s.findPatron q.subject with
  | none => s
  | some n =>
    match s.patronAt n with
    | some _ => (s.mapPatron n fun p => { p with pending := p.pending - q.reserve }).postBalance n
    | none => s

/-- The expiry of a question by its kind, with its station notice (R151, R153). -/
def State.expireQuestion (s : State) (q : Question) (tag : TagId) : State :=
  match q.kind with
  | .patronFetch => s.endPatronFetch q.subject tag
  | .titleFetch => (s.endTitleFetch q.subject tag).handHoldResult q tag.number .timedOut
  | .cardAuth => (s.endCardAuth q).handCardResult q tag.number 0 .timedOut

/-- A fetch tag is the damaged number's: the same id, or the same number when the generation was lost (R155, R186). -/
def Tag.isOf (t : Tag) (n : Nat) (held : TagId) : Bool := held.number == n && (t.mapLost || held.gen == t.gen)

/-- The FETCHING records that hold a damaged tag become FREE (R155 item 1). -/
def State.freeFetchesOf (s : State) (t : Tag) (n : Nat) : State :=
  (s.putPatrons (s.patrons.filter fun e =>
    match e.2 with
    | .fetching _ _ held => !t.isOf n held
    | _ => true)).putTitles (s.titles.filter fun e =>
    match e.2 with
    | .fetching _ held => !t.isOf n held
    | _ => true)

/-- A RESIDENT record's pending credit brought to the sum of the reserves still out (R155 item 2). An id that was lost
(R186) with a card payment out, and loaded anew with a smaller balance, has reserves that no pending credit of the new
record holds; the expiry of any DAMAGED number then sets its pending credit to their sum, above the balance and R13's
bound: the model's choice between the two rules (notes/assumptions/68.md). -/
def State.settlePending (s : State) (n : Nat) : State :=
  match s.patronAt n with
  | some p =>
    if p.pending = s.reserves p.id then s
    else (s.setPatron n (.resident { p with pending := s.reserves p.id })).postBalance n
  | none => s

/-- The questions still out from a station under a generation. -/
def State.parkedAt (s : State) (o : Origin) : Nat := (s.questions.filter fun q => decide (q.origin = some o)).length

/-- The parked counts of an attached lane set from the questions still out (R155 item 3). -/
def State.recountParked (s : State) (l : Lane) : State :=
  let u := s.lane l
  if u.isAttached then
    s.setLane l ((List.finRange 4).foldl
      (fun u st => u.mapStation st fun x => { x with parked := s.parkedAt ⟨l, st, u.gen⟩ }) u)
  else s

/-- The expiry of a DAMAGED number (R155): what was asked is found from the tag, patron and title records, all read. With
a second number DAMAGED more patrons than one may differ from their reserves: the first expiry settles all of them, in
patron slot order, with a BALANCE each, which is the model's choice (notes/assumptions/62.md). -/
def State.expireDamaged (s : State) (t : Tag) (n : Nat) : State :=
  let s := ((s.scanTags.scanTable .patron).scanTable .title).freeFetchesOf t n
  let s := (s.patrons.map Prod.fst).foldl State.settlePending s
  ((List.finRange 16).foldl State.recountParked s).retireTag n

/-- The expiry of a number (R151). When its own read finds the tag record uncorrectable, the same operation performs the
expiry of a DAMAGED number (notes/assumptions/45.md). -/
def State.expiryWork (number : Nat) (s : State) : State :=
  if h : number < 32 then
    let s := s.readTag number
    let t := s.tags.get ⟨number, h⟩
    match t.state with
    | .damaged => s.expireDamaged t number
    | _ =>
      match t.asked with
      | some q => (s.retireTag number).expireQuestion q ⟨number, t.gen⟩
      | none => s
  else s

/-- The operation record is a tag expiry. -/
def OpKind.isExpiry : OpKind → Bool
  | .tagExpiry _ => true
  | _ => false

/-- TAG_EXPIRY. -/
def execTagExpiry (x : Crossing) (s : State) : Host.Outcome State Fault Refusal :=
  State.command (State.perform OpKind.isExpiry (fun op s =>
    match op.kind with
    | .tagExpiry n => s.expiryWork n
    | _ => s) x) s

end Sys2Proof.Machine
end

