-- ==== Sys2Proof/Machine/LinkEvents.lean ====
section
/-! DEFINITION. What happens at the Catalogue Link (R174 to R182): the ready line, inbound frames, the link's own
CONFIRMs, sent entries, owed notices, and the posts of an operation in WAITING_ROOM (R8). -/

namespace Sys2Proof.Machine

/-! ## The ready line (R174) -/

/-- LINK_UP: a change of the line starts a search. -/
def execLinkUp (s : State) : Host.Outcome State Fault Refusal :=
  State.command (fun s => if s.link.up then s else ({ s with link := { s.link with up := true } } : State).search) s

/-- The head, unsent again, takes the values of a younger notice of its own subject, whose entry is freed: the queue
never holds two unsent ones (R126, R181). -/
def mergeHead : List Notice → List Notice
  | [] => []
  | n :: rest =>
    match rest.find? fun y => y.sameSubject n with
    | some y => y :: rest.eraseP fun y => y.sameSubject n
    | none => n :: rest

/-- The line drops: the entry being sent counts as unsent again, and a RESTART still waiting takes effect at once
(R11, R174, R181). An entry that the merge frees goes to the search that follows before any other waiter of R182, which is
the model's choice (notes/assumptions/60.md). -/
def State.dropLine (s : State) : State :=
  { s with
    link := { s.link with
      up := false, sending := false
      outbound := if s.link.sending then mergeHead s.link.outbound else s.link.outbound }
    arbiter := { s.arbiter with resetDue := s.arbiter.resetDue || s.arbiter.restartPending } }

/-- LINK_DOWN; the search meets an entry that the drop frees before the other waiters do (notes/assumptions/60.md). -/
def execLinkDown (s : State) : Host.Outcome State Fault Refusal :=
  State.command (fun s => if s.link.up then s.dropLine.search else s) s

/-! ## Inbound frames (R175, R176, R178) -/

/-- One more overrun owed after the youngest place (R178). -/
def addOverrun (seq : Nat) : List Place → List Place
  | [] => []
  | [p] =>
    [{ p with
        tally := if p.tally < 4294967295 then p.tally + 1 else Config.tallyPastTop seq
        nextOverrun := if p.tally = 0 then seq else p.nextOverrun }]
  | p :: q :: rest => p :: addOverrun seq (q :: rest)

/-- A fault of the link with a frame's sequence number (R188). -/
def State.logFrame (s : State) (c : FaultClass) (seq : Nat) : State :=
  s.logFault c .link { Context.empty with frame := seq }

/-- The next sequence number is taken (R175). -/
def State.countFrame (s : State) : State :=
  { s with link := { s.link with frameCount := (s.link.frameCount + 1) % 65536 } }

/-- A taken frame joins the end of the inbound queue. -/
def State.place (s : State) (content : PlaceContent) (seq : Nat) : State :=
  { s with link := { s.link with inbound := s.link.inbound ++ [⟨content, seq, 0, 0, false, s.arbiter.restartPending⟩] } }

/-- An inbound frame sorted (the table of R175). Its sequence number is the frame count as it stands before it is raised, so
that the first frame's is 0 (notes/assumptions/57.md). -/
def State.takeFrame (s : State) (kind : Byte) (payload : List Byte) (check : BitVec 16) : State :=
  let seq := s.link.frameCount
  let s := s.countFrame
  if Config.inboundPlaces ≤ s.link.inbound.length then
    let s := s.logFrame .linkOverrun seq
    { s with link := { s.link with inbound := addOverrun seq s.link.inbound } }
  else if frameCheck kind payload = check then
    match parseMessage kind.toNat payload with
    | some m => s.place (.message kind.toNat m) seq
    | none => s.place (.marker kind.toNat .badMessage) seq
  else (s.place (.marker kind.toNat .frameError) seq).logFrame .linkFrame seq

/-- INBOUND_FRAME: taken while the link is UP; a message at the head is a new LINK request (R5, R174). -/
def execInboundFrame (kind : Byte) (payload : List Byte) (check : BitVec 16) (s : State) :
    Host.Outcome State Fault Refusal :=
  State.command (fun s => if s.link.up then (s.takeFrame kind payload check).search else s) s

/-! ## The link's own CONFIRMs (R176, R178) -/

/-- MARKER_CONFIRM; the next head may be a new LINK request. -/
def execMarkerConfirm (s : State) : Host.Outcome State Fault Refusal := State.command (fun s => s.confirmMarker.search) s

/-- OVERRUN_CONFIRM. -/
def execOverrunConfirm (s : State) : Host.Outcome State Fault Refusal := State.command (fun s => s.confirmOverrun.search) s

/-- SIDE_LIST_MOVE. -/
def execSideListMove (s : State) : Host.Outcome State Fault Refusal := State.command (fun s => s.moveSideList.search) s

/-! ## Sent entries (R180) -/

/-- The CONFIRM of a performed RESTART. -/
def Notice.isRestartConfirm : Notice → Bool
  | .confirm _ kind status _ => kind == 16 && decide (status = .ok)
  | _ => false

/-- The FAULT of the present capture sent whole sets the reported mark (R189). -/
def FaultLog.noteSent (f : FaultLog) : Notice → FaultLog
  | .fault _ capture => if capture = f.captures then { f with reported := true } else f
  | _ => f

/-- The head entry has been sent whole and leaves the queue; a RESTART's CONFIRM lets its warm reset take effect
(R11). -/
def State.entryOut (s : State) (n : Notice) (rest : List Notice) : State :=
  { s with
    link := { s.link with outbound := rest, sending := false }
    linkOut := s.linkOut ++ [n]
    faults := s.faults.noteSent n
    arbiter := { s.arbiter with
      resetDue := s.arbiter.resetDue || (s.arbiter.restartPending && n.isRestartConfirm) } }

/-- ENTRY_SENT: the freed entry goes to the waiters that claim it, and a search follows (R5, R182). -/
def execEntrySent (claims : List Claim) (s : State) : Host.Outcome State Fault Refusal :=
  State.command (fun s =>
    match s.link.outbound with
    | n :: rest => if s.link.sending then ((s.entryOut n rest).claimAll claims).search else s
    | [] => s) s

/-! ## Owed notices (R159, R182) -/

/-- OWED_FAULT_POST. -/
def execOwedFaultPost (s : State) : Host.Outcome State Fault Refusal := State.command State.postOwedFault s

/-- OWED_LANE_STATE_POST. -/
def execOwedLaneStatePost (lane : Lane) (s : State) : Host.Outcome State Fault Refusal :=
  State.command (fun s => s.postOwedLaneState lane) s

/-! ## WAITING_ROOM (R8) -/

/-- The next waiting post updates an unsent entry for its subject, which takes no room (R181), or takes a freed entry;
none when there is no room for it. -/
def State.placeWaiting (s : State) (op : Op) (n : Notice) : Option State :=
  match s.link.coalesce n with
  | some q => some (s.setOutbound q)
  | none => if s.link.outbound.length + op.reservation < Config.outboundEntries then some (s.append n) else none

/-- The next waiting post is placed, and the last one completes the operation. -/
def State.postWaiting (s : State) (claims : List Claim) : State :=
  match s.engine with
  | .waitingRoom op =>
    match op.waiting with
    | n :: rest =>
      match s.placeWaiting op n with
      | some s =>
        let op := { op with waiting := rest }
        match rest with
        | [] => { s with engine := .busy op }.complete claims
        | _ => { s with engine := .waitingRoom op }
      | none => s
    | [] => s
  | _ => s

/-- WAITING_ROOM_POST. -/
def execWaitingRoomPost (claims : List Claim) (s : State) : Host.Outcome State Fault Refusal :=
  State.command (fun s => s.postWaiting claims) s

end Sys2Proof.Machine
end

