-- ==== Sys2Proof/Machine/LaneEvents.lean ====
section
/-! DEFINITION. What happens at a Kiosk Lane: carrier, timers and ROLL (R158, R163), and the words of stations (R164 to
R170, R192). -/

namespace Sys2Proof.Machine

/-! ## Carrier, timers, ROLL -/

/-- CARRIER_PRESENT (R158): a DETACHED lane starts settling. -/
def execCarrierPresent (lane : Lane) (s : State) : Host.Outcome State Fault Refusal :=
  State.command (fun s => s.setLane lane ({ s.lane lane with carrier := true } : LaneUnit).settleIfCarrier) s

/-- The carrier of a lane is lost (R158). -/
def State.loseCarrier (s : State) (l : Lane) : State :=
  let u := { s.lane l with carrier := false }
  match u.life with
  | .settling => s.setLane l { u with life := .detached, timer := .off }
  | .identifying => (s.setLane l (({ u with timer := .off } : LaneUnit).enter .detached .carrierLost)).announce l
  | .active | .quiescing => (s.setLane l (u.cutAndClear.enter .detached .carrierLost)).announce l
  | _ => s.setLane l u

/-- CARRIER_LOST. -/
def execCarrierLost (lane : Lane) (s : State) : Host.Outcome State Fault Refusal :=
  State.command (fun s => s.loseCarrier lane) s

/-- The settle timer runs out: IDENTIFY is sent and the identify timer starts (R158). -/
def State.settleOver (s : State) (l : Lane) : State :=
  let u := s.lane l
  match u.life with
  | .settling => (s.setLane l { u with life := .identifying, timer := .identify }).send l .identify
  | _ => s

/-- SETTLE_TIMER_EXPIRY. -/
def execSettleTimerExpiry (lane : Lane) (s : State) : Host.Outcome State Fault Refusal :=
  State.command (fun s => s.settleOver lane) s

/-- The identify timer runs out: the attachment failed (R158). -/
def State.identifyOver (s : State) (l : Lane) : State :=
  let u := s.lane l
  match u.life with
  | .identifying => (s.setLane l (({ u with timer := .off } : LaneUnit).enter .disabled .attachFailed)).announce l
  | _ => s

/-- IDENTIFY_TIMER_EXPIRY. -/
def execIdentifyTimerExpiry (lane : Lane) (s : State) : Host.Outcome State Fault Refusal :=
  State.command (fun s => s.identifyOver lane) s

/-- ROLL in IDENTIFYING attaches the lane under a new generation (R158); elsewhere it is ignored. -/
def State.takeRoll (s : State) (l : Lane) (present : StationSet) : State :=
  let u := s.lane l
  match u.life with
  | .identifying =>
    (s.setLane l (({ u with timer := .off, roll := present, gen := (u.gen + 1) % 65536 } : LaneUnit).enter .active
      .attached)).announce l
  | _ => s

/-- ROLL. -/
def execRoll (lane : Lane) (present : StationSet) (s : State) : Host.Outcome State Fault Refusal :=
  State.command (fun s => s.takeRoll lane present) s

/-- The station whose answer the reply timer waits for. -/
def LaneUnit.awaited (u : LaneUnit) : Option Station :=
  match u.closingCall with
  | some st => some st
  | none =>
    match u.exchange, u.offer with
    | some ex, _ => some ex.station
    | none, .offered o => some o.station
    | none, .noticeSent o => some o.station
    | none, .none => none

/-- LANE_INTERLOCK with the lane, the awaited station and the kind of the open request (R163, R188). -/
def State.logInterlock (s : State) (l : Lane) : State :=
  let u := s.lane l
  s.logFault .laneInterlock (match u.awaited with | some st => .laneStation l st | none => .lane l)
    { Context.empty with kind := codeRef (u.exchange.bind Exchange.code) }

/-- The reply timer runs out: the lane is FAULTED and cut (R163), with its roll kept (notes/assumptions/64.md). -/
def State.replyOver (s : State) (l : Lane) : State :=
  match (s.lane l).timer with
  | .reply =>
    let s := s.logInterlock l
    (s.setLane l ((s.lane l).cut.enter .faulted .interlock)).announce l
  | _ => s

/-- REPLY_TIMER_EXPIRY. -/
def execReplyTimerExpiry (lane : Lane) (s : State) : Host.Outcome State Fault Refusal :=
  State.command (fun s => s.replyOver lane) s

/-! ## CALL (R164, R170) -/

/-- The station joins the held calls. -/
def State.holdCall (s : State) (l : Lane) (st : Station) : State :=
  s.setLane l { s.lane l with held := StationSet.add (s.lane l).held st }

/-- A CALL while an exchange is open. -/
def State.callInExchange (s : State) (l : Lane) (st : Station) (ex : Exchange) : State :=
  if (s.lane l).closingCall = some st then s.repeatClosing l st
  else if st = ex.station then s.outOfPlace l ex
  else (s.holdCall l st).answerHeldCall l

/-- A CALL with no exchange open. -/
def State.callOnLine (s : State) (l : Lane) (st : Station) : State :=
  match (s.lane l).offer with
  | .none => s.openExchange l st
  | .offered _ => (s.setLane l { s.lane l with offer := .none, timer := .off }).openExchange l st
  | .noticeSent o => if st = o.station then s.ignoreWord l (some st) else s.holdCall l st

def State.takeCall (s : State) (l : Lane) (st : Station) : State :=
  let u := s.lane l
  match u.life, u.exchange with
  | .active, some ex => s.callInExchange l st ex
  | .quiescing, some ex => s.callInExchange l st ex
  | .active, none => s.callOnLine l st
  | _, _ => s

/-- CALL. -/
def execCall (lane : Lane) (station : Station) (s : State) : Host.Outcome State Fault Refusal :=
  State.command (fun s => s.takeCall lane station) s

/-! ## The words of an exchange -/

/-- REQ (R165). -/
def execReq (lane : Lane) (station : Station) (code count : Byte) (s : State) : Host.Outcome State Fault Refusal :=
  State.command (fun s => s.stationWord lane station fun ex => s.takeReq lane ex code count) s

/-- FIELD; the last one submits the request, and a request that arrives starts a search (R5, R165). -/
def execField (lane : Lane) (station : Station) (code _index : Byte) (value : BitVec 32) (s : State) :
    Host.Outcome State Fault Refusal :=
  State.command (fun s => (s.stationWord lane station fun ex => s.takeField lane ex code value.toNat).search) s

/-- ACCEPT in an exchange, of a LANE_CLOSING final, or of a NOTICE (R161, R165, R166, R170). -/
def State.acceptWord (s : State) (l : Lane) (st : Station) : State :=
  match (s.lane l).wordPlace st with
  | .inExchange ex => s.takeAccept l ex
  | .inClosing => s.closingAccepted l
  | .inOffer (.noticeSent o) => if o.station = st then s.endOffer l o dropFirst else s.ignoreWord l (some st)
  | .inOffer _ => s.ignoreWord l (some st)
  | .outside => s.ignoreWord l (some st)
  | .deaf => s

/-- ACCEPT. -/
def execAccept (lane : Lane) (station : Station) (s : State) : Host.Outcome State Fault Refusal :=
  State.command (fun s => (s.acceptWord lane station).search) s

/-- STOP (R166). -/
def execStop (lane : Lane) (station : Station) (s : State) : Host.Outcome State Fault Refusal :=
  State.command (fun s => s.stationWord lane station fun ex => s.takeStop lane ex) s

/-- HALT in an exchange (R167), of a LANE_CLOSING final (R161), or in an offer (R170). With no exchange open and no offer
it is ignored (R167), and while another station's exchange is open it is ignored and logged (R192). -/
def State.haltWord (s : State) (l : Lane) (st : Station) : State :=
  match (s.lane l).wordPlace st with
  | .inExchange ex => s.takeHalt l ex
  | .inClosing => s.closingAccepted l
  | .inOffer (.offered o) => if o.station = st then s.endOffer l o deferFirst else s.ignoreWord l (some st)
  | .inOffer (.noticeSent o) => if o.station = st then s.endOffer l o deferFirst else s.ignoreWord l (some st)
  | .inOffer .none => s
  | .outside => if (s.lane l).exchange.isSome then s.ignoreWord l (some st) else s
  | .deaf => s

/-- HALT. -/
def execHalt (lane : Lane) (station : Station) (s : State) : Host.Outcome State Fault Refusal :=
  State.command (fun s => s.haltWord lane station) s

/-! ## Offers (R170) -/

/-- The NOTICE of an accepted offer, with the fields of the notice offered; it is sent although a POLL may have taken
that notice meanwhile (notes/assumptions/47.md). -/
def State.sendNotice (s : State) (l : Lane) (o : Offering) : State :=
  (s.setLane l { s.lane l with offer := .noticeSent o }).sendAwaited l (.notice o.station o.notice)

/-- The offering that awaits its answer from a station: an OFFER's, or a NOTICE's. -/
def Offer.offeredTo (o : Offer) (st : Station) : Option Offering :=
  match o with
  | .offered x => if x.station = st then some x else Option.none
  | _ => Option.none

def Offer.noticeTo (o : Offer) (st : Station) : Option Offering :=
  match o with
  | .noticeSent x => if x.station = st then some x else Option.none
  | _ => Option.none

/-- An answer of a station in an offer: `take` is what it does with the offering that `pick` finds for it; elsewhere it
is a word out of place, also inside the exchange that the station's own CALL opened over the offer
(notes/assumptions/46.md). -/
def State.offerWord (s : State) (l : Lane) (st : Station) (pick : Offer → Station → Option Offering)
    (take : Offering → State) : State :=
  match (s.lane l).life, (s.lane l).exchange, pick (s.lane l).offer st with
  | .active, none, some o => take o
  | _, _, _ => s.stationWord l st fun ex => s.outOfPlace l ex

/-- ACCEPT-OFFER from the offered station. -/
def State.acceptOfferWord (s : State) (l : Lane) (st : Station) : State :=
  s.offerWord l st Offer.offeredTo fun o => s.sendNotice l o

/-- ACCEPT_OFFER. -/
def execAcceptOffer (lane : Lane) (station : Station) (s : State) : Host.Outcome State Fault Refusal :=
  State.command (fun s => s.acceptOfferWord lane station) s

/-- DEFER in answer to a NOTICE. -/
def State.deferWord (s : State) (l : Lane) (st : Station) : State :=
  s.offerWord l st Offer.noticeTo fun o => s.endOffer l o deferFirst

/-- DEFER. -/
def execDefer (lane : Lane) (station : Station) (s : State) : Host.Outcome State Fault Refusal :=
  State.command (fun s => s.deferWord lane station) s

/-! ## Words that fail their check (R158, R168, R170, R192) -/

/-- A failed word on a lane with no exchange: it withdraws an offer, and is logged with the lane. -/
def State.failedOffLine (s : State) (l : Lane) : State :=
  let s := s.ignoreWord l none
  match (s.lane l).offer with
  | .none => s
  | .offered o => s.endOffer l o id
  | .noticeSent o => s.endOffer l o id

/-- A word that fails its check. -/
def State.failedWord (s : State) (l : Lane) : State :=
  match (s.lane l).exchange, (s.lane l).closingCall with
  | some _, some st => s.repeatClosing l st
  | some ex, none => s.lineCheck l ex
  | none, _ => s.failedOffLine l

/-- A word that passes its check and names no station, since no station sends its type and the field is not examined:
it is out of place wherever the lane is attached, and an offer stands (R168, R170, R192). It counts as the word of the
station whose answer the line awaits (notes/assumptions/19.md). -/
def State.unnamedWord (s : State) (l : Lane) : State :=
  if (s.lane l).isAttached then
    match (s.lane l).exchange, (s.lane l).closingCall with
    | some _, some st => s.repeatClosing l st
    | some ex, none => s.outOfPlace l ex
    | none, _ => s.ignoreWord l none
  else s

/-- WORD_CHECK_FAILURE. -/
def execWordCheckFailure (lane : Lane) (word : BadWord) (s : State) : Host.Outcome State Fault Refusal :=
  State.command (fun s =>
    match word with
    | .failed => s.failedWord lane
    | .outOfPlace st => s.stationWord lane st fun ex => s.outOfPlace lane ex
    | .identify => s.unnamedWord lane) s

end Sys2Proof.Machine
end

