-- ==== Sys2Proof/Machine/Resets.lean ====
section
/-! DEFINITION. POWER_ON (R12), RESET_LINE_ASSERTED and WARM_RESET (R8, R11), and SCRUB_READ (R187). -/

namespace Sys2Proof.Machine

/-- POWER_ON: every field at its power-on value; the commands that wait are the sender's, and stay. -/
def execPowerOn (s : State) : Host.Outcome State Fault Refusal := .next { State.reset with pending := s.pending }

/-- The reset line reaches the engine (R8, R11): with the engine BUSY the reset is owed until the operation completes,
and otherwise it is due at once. -/
def State.assertReset (s : State) : State :=
  match s.engine with
  | .busy op => { s with engine := .busy { op with resetOwed := true } }
  | _ => { s with arbiter := { s.arbiter with resetDue := true } }

/-- RESET_LINE_ASSERTED. -/
def execResetLineAsserted (s : State) : Host.Outcome State Fault Refusal := State.command State.assertReset s

/-- WARM_RESET: the reset that is due takes effect, as it does before any command; with none due nothing happens. -/
def execWarmReset (s : State) : Host.Outcome State Fault Refusal := State.command id s

/-- The scrubber's read of the next record while the engine is FREE, with the bit errors it may find (R187). -/
def State.scrubRead (s : State) (flips : List Flip) : State :=
  if s.engine.isFree then ({ s with upsets := s.upsets ++ flips } : State).scrubNext.search else s

/-- SCRUB_READ. -/
def execScrubRead (flips : List Flip) (s : State) : Host.Outcome State Fault Refusal :=
  State.command (fun s => s.scrubRead flips) s

end Sys2Proof.Machine
end

