-- ==== Sys2Proof/Machine/Dispatch.lean ====
section
/-! DEFINITION. The dispatch: one arm for each command, each one direct call of its meaning. -/

namespace Sys2Proof.Machine

/-- A command's effect on everything but the queue of waiting commands. -/
def exec (i : Instr) (s : State) : Host.Outcome State Fault Refusal :=
  match i with
  | .powerOn => Sys2Proof.Machine.execPowerOn s
  | .resetLineAsserted => Sys2Proof.Machine.execResetLineAsserted s
  | .warmReset => Sys2Proof.Machine.execWarmReset s
  | .linkUp => Sys2Proof.Machine.execLinkUp s
  | .linkDown => Sys2Proof.Machine.execLinkDown s
  | .inboundFrame k p c => Sys2Proof.Machine.execInboundFrame k p c s
  | .markerConfirm => Sys2Proof.Machine.execMarkerConfirm s
  | .overrunConfirm => Sys2Proof.Machine.execOverrunConfirm s
  | .sideListMove => Sys2Proof.Machine.execSideListMove s
  | .entrySent cs => Sys2Proof.Machine.execEntrySent cs s
  | .owedFaultPost => Sys2Proof.Machine.execOwedFaultPost s
  | .owedLaneStatePost l => Sys2Proof.Machine.execOwedLaneStatePost l s
  | .waitingRoomPost cs => Sys2Proof.Machine.execWaitingRoomPost cs s
  | .account x => Sys2Proof.Machine.execAccount x s
  | .renew x => Sys2Proof.Machine.execRenew x s
  | .renewAll x => Sys2Proof.Machine.execRenewAll x s
  | .placeHold x => Sys2Proof.Machine.execPlaceHold x s
  | .cancelHold x => Sys2Proof.Machine.execCancelHold x s
  | .suspendHold x => Sys2Proof.Machine.execSuspendHold x s
  | .resumeHold x => Sys2Proof.Machine.execResumeHold x s
  | .payCash x => Sys2Proof.Machine.execPayCash x s
  | .payCard x => Sys2Proof.Machine.execPayCard x s
  | .detail x => Sys2Proof.Machine.execDetail x s
  | .poll x => Sys2Proof.Machine.execPoll x s
  | .loanOpen x => Sys2Proof.Machine.execLoanOpen x s
  | .returnCopy x => Sys2Proof.Machine.execReturnCopy x s
  | .patronLoad x => Sys2Proof.Machine.execPatronLoad x s
  | .titleLoad x => Sys2Proof.Machine.execTitleLoad x s
  | .authResult x => Sys2Proof.Machine.execAuthResult x s
  | .dayClose x => Sys2Proof.Machine.execDayClose x s
  | .calendar x => Sys2Proof.Machine.execCalendar x s
  | .schedule x => Sys2Proof.Machine.execSchedule x s
  | .waive x => Sys2Proof.Machine.execWaive x s
  | .holdPlace x => Sys2Proof.Machine.execHoldPlace x s
  | .holdCancel x => Sys2Proof.Machine.execHoldCancel x s
  | .laneControlEnable x => Sys2Proof.Machine.execLaneControlEnable x s
  | .laneControlDisable x => Sys2Proof.Machine.execLaneControlDisable x s
  | .laneControlAbort x => Sys2Proof.Machine.execLaneControlAbort x s
  | .statusRead x => Sys2Proof.Machine.execStatusRead x s
  | .faultRead x => Sys2Proof.Machine.execFaultRead x s
  | .faultClear x => Sys2Proof.Machine.execFaultClear x s
  | .restart x => Sys2Proof.Machine.execRestart x s
  | .loansStep x => Sys2Proof.Machine.execLoansStep x s
  | .holdsStep x => Sys2Proof.Machine.execHoldsStep x s
  | .tagDeadline ns => Sys2Proof.Machine.execTagDeadline ns s
  | .tagExpiry x => Sys2Proof.Machine.execTagExpiry x s
  | .carrierPresent l => Sys2Proof.Machine.execCarrierPresent l s
  | .carrierLost l => Sys2Proof.Machine.execCarrierLost l s
  | .settleTimerExpiry l => Sys2Proof.Machine.execSettleTimerExpiry l s
  | .identifyTimerExpiry l => Sys2Proof.Machine.execIdentifyTimerExpiry l s
  | .roll l r => Sys2Proof.Machine.execRoll l r s
  | .replyTimerExpiry l => Sys2Proof.Machine.execReplyTimerExpiry l s
  | .call l st => Sys2Proof.Machine.execCall l st s
  | .req l st c n => Sys2Proof.Machine.execReq l st c n s
  | .field l st c n v => Sys2Proof.Machine.execField l st c n v s
  | .accept l st => Sys2Proof.Machine.execAccept l st s
  | .stop l st => Sys2Proof.Machine.execStop l st s
  | .halt l st => Sys2Proof.Machine.execHalt l st s
  | .acceptOffer l st => Sys2Proof.Machine.execAcceptOffer l st s
  | .defer l st => Sys2Proof.Machine.execDefer l st s
  | .wordCheckFailure l p => Sys2Proof.Machine.execWordCheckFailure l p s
  | .scrubRead fs => Sys2Proof.Machine.execScrubRead fs s

end Sys2Proof.Machine
end

