-- ==== Sys2Proof/WellFormed.lean ====
section
/-! DEFINITION. Which commands are well formed: what a sender can in fact send. Lanes, stations and tag numbers are
bounded by their types; what is left is checked here. -/

namespace Sys2Proof

/-- How many slots a guarded table has; an index has one place for each slot of its table (R185). -/
def Table.slots : Table → Nat
  | .patron | .patronIndex => Config.patronSlots
  | .loan | .copyIndex => Config.loanSlots
  | .title | .titleIndex => Config.titleSlots
  | .pool => Config.poolSlots
  | .tag | .tagMap => Config.tagSlots

/-- A bit error names a slot that exists. -/
def Flip.wf (f : Flip) : Bool := decide (f.record.slot < f.record.table.slots)

/-- The bit errors that come into the memory with a command (R2, R185). -/
def Instr.flips : Instr → List Flip
  | .scrubRead flips => flips
  | .account x | .renew x | .renewAll x | .placeHold x | .cancelHold x | .suspendHold x | .resumeHold x
  | .payCash x | .payCard x | .detail x | .poll x
  | .loanOpen x | .returnCopy x | .patronLoad x | .titleLoad x | .authResult x | .dayClose x | .calendar x
  | .schedule x | .waive x | .holdPlace x | .holdCancel x | .laneControlEnable x | .laneControlDisable x
  | .laneControlAbort x | .statusRead x | .faultRead x | .faultClear x | .restart x
  | .loansStep x | .holdsStep x | .tagExpiry x => x.flips
  | .powerOn | .resetLineAsserted | .warmReset | .linkUp | .linkDown | .inboundFrame _ _ _ | .markerConfirm
  | .overrunConfirm | .sideListMove | .entrySent _ | .owedFaultPost | .owedLaneStatePost _ | .waitingRoomPost _
  | .tagDeadline _ | .carrierPresent _ | .carrierLost _ | .settleTimerExpiry _ | .identifyTimerExpiry _ | .roll _ _
  | .replyTimerExpiry _ | .call _ _ | .req _ _ _ _ | .field _ _ _ _ _ | .accept _ _ | .stop _ _ | .halt _ _
  | .acceptOffer _ _ | .defer _ _ | .wordCheckFailure _ _ => []

/-- What else a command must be: a frame's payload is as long as its length byte can say (R175), and the tags of one
moment are at least one and distinct (R148). -/
def Instr.fits : Instr → Bool
  | .inboundFrame _ payload _ => decide (payload.length ≤ 255)
  | .tagDeadline numbers => !numbers.isEmpty && decide numbers.Nodup
  | _ => true

/-- The well-formed commands: they fit, and their bit errors name records that exist. -/
def Instr.wf (i : Instr) : Bool := i.fits && i.flips.all Flip.wf

end Sys2Proof
end

