-- ==== Sys2Proof/Safety.lean ====
section
/-! DEFINITION. What the statements speak of: the tables as one value, runs of steps, the conditions that every step
keeps, and the situations in which an operation is performed. -/

namespace Sys2Proof.Machine

/-! ## The tables -/

/-- Everything the engine's operations work on. -/
structure Tables where
  patrons  : Tbl PatronRec
  loans    : Tbl LoanRec
  titles   : Tbl TitleRec
  pool     : Tbl PoolRec
  calendar : Calendar
  schedule : Schedule
  sweep    : Sweep
  tags     : Vector Tag 32
  tagLine  : List Nat
  deriving DecidableEq, Repr

def State.tables (s : State) : Tables :=
  ⟨s.patrons, s.loans, s.titles, s.pool, s.calendar, s.schedule, s.sweep, s.tags, s.tagLine⟩

/-! ## Runs -/

/-- `n` steps lead from s to t. -/
def runsTo : Nat → State → State → Prop
  | 0, s, t => t = s
  | n + 1, s, t => ∃ u, step s = .next u ∧ runsTo n u t

/-- A condition that every step keeps. -/
def KeptByStep (P : State → Prop) : Prop := ∀ s t, P s → step s = .next t → P t

/-! ## Conditions on states -/

/-- Every mark of the calendar is of a day of the window, C - 31 to C + 64, that exists (R36, R41). -/
def Calendar.withinWindow (c : Calendar) : Prop :=
  ∀ e ∈ c.marks, c.closeDay ≤ e.1 + 31 ∧ e.1 ≤ c.closeDay + 64 ∧ e.1 ≤ 65534

/-- Every table is in its canonical form, and the calendar holds no mark outside its window. -/
def State.canonical (s : State) : Prop :=
  Tbl.wf s.patrons = true ∧ Tbl.wf s.loans = true ∧ Tbl.wf s.titles = true ∧ Tbl.wf s.pool = true ∧
    Tbl.wf s.calendar.marks = true ∧ s.calendar.withinWindow

/-- The unsent entries of the outbound queue: all but the one being sent (R180, R181). -/
def Link.unsent (k : Link) : List Notice := if k.sending then k.outbound.tail else k.outbound

/-- No queue of the link holds more than it can (R3, R176, R178, R180): outbound entries and the reservation together
at most 128, inbound places at most 64, side list at most 8. An entry is being sent only when there is one and the link
is UP, and no two unsent entries report the same patron's balance or the same lane's state (R126, R181). -/
def State.withinRoom (s : State) : Prop :=
  s.link.outbound.length + s.engine.reservation ≤ 128 ∧ s.link.inbound.length ≤ 64 ∧ s.link.sideList.length ≤ 8 ∧
    (s.link.sending = true → s.link.outbound ≠ [] ∧ s.link.up = true) ∧
    s.link.unsent.Pairwise fun a b => a.sameSubject b = false

/-- No bit error is in the memory, no patron record and no tag is DAMAGED, and every RESIDENT record keeps R13's ranges:
the pending credit at most the balance, and the balance at most 999,999. -/
def State.creditsAgree (s : State) : Prop :=
  s.upsets = [] ∧ (∀ n id, Tbl.lookup s.patrons n ≠ some (.damaged id)) ∧
    (∀ n : Fin 32, (s.tags.get n).state ≠ .damaged) ∧
    ∀ n p, s.patronAt n = some p → p.pending ≤ p.balance ∧ p.balance ≤ 999999

/-- The Sweep Unit's fields agree with its state (R128, R143). -/
def Sweep.agrees (w : Sweep) (closeDay : Nat) : Prop :=
  match w.state with
  | .idle => w.phase = .none ∧ w.cursor = 0 ∧ w.complete = true ∧ w.current = .zero
  | .loans => w.phase = .evaluating ∧ w.complete = false ∧ w.target = closeDay
  | .holds =>
    (w.phase = .nextTitle ∨ w.phase = .resuming ∨ w.phase = .expiring ∨ w.phase = .removing) ∧
      w.complete = false ∧ w.target = closeDay

/-- A granted sweep step that is still to be performed is of the kind the sweep owes (R131). -/
def Engine.owes (e : Engine) (w : Sweep) : Prop :=
  match e with
  | .busy op => (op.kind = .loansStep → w.state = .loans) ∧ (op.kind = .holdsStep → w.state = .holds)
  | _ => True

/-- The Sweep Unit is consistent with the calendar and with the engine. -/
def State.sweepAgrees (s : State) : Prop := s.sweep.agrees s.calendar.closeDay ∧ s.engine.owes s.sweep

/-- A tag number waits at the TAGS position: DUE or DAMAGED (R148, R155). -/
def Tag.waits (t : Tag) : Bool := decide (t.state = .due) || decide (t.state = .damaged)

/-- The TAGS line holds each waiting number once and no other (R148, R152, R155). -/
def State.lineAgrees (s : State) : Prop :=
  s.tagLine.Nodup ∧ (∀ n ∈ s.tagLine, n < 32) ∧ ∀ n : Fin 32, n.val ∈ s.tagLine ↔ (s.tags.get n).waits = true

/-- A lane outside its attachment has no exchange, held call, offer or closing final (R157, R162). -/
def LaneUnit.clearedWhenDetached (u : LaneUnit) : Prop :=
  u.isAttached = false → u.exchange = none ∧ u.held = 0 ∧ u.offer = .none ∧ u.closingCall = none

def State.lanesAgree (s : State) : Prop := ∀ l : Lane, (s.lane l).clearedWhenDetached

/-- How many station notices an operation in WAITING_ROOM still has to hand to an origin. -/
def State.handedTo (s : State) (o : Origin) : Nat :=
  match s.engine with
  | .waitingRoom op => (op.handed.filter fun x => decide (x.1 = o)).length
  | _ => 0

/-- The parked counts agree with the tags and the notices (R153, R154): a station's parked operations and stacked notices
are at most 2 together, an attached lane's parked count covers every question still out from the station under the
lane's generation and every notice on its way there, and no operation that is still to be performed has notices. -/
def State.parkedAgree (s : State) : Prop :=
  (∀ (l : Lane) (st : Station),
    let y := (s.lane l).stations.get st
    let o : Origin := ⟨l, st, (s.lane l).gen⟩
    y.stack.length + y.parked ≤ 2 ∧ ((s.lane l).isAttached = true → s.parkedAt o + s.handedTo o ≤ y.parked)) ∧
  ∀ op, s.engine = .busy op → op.handed = []

/-- The generation a lane would take by attaching now is that of no question out and of no notice on its way. Generations
come round after 65,536 attachments (R157), and a question that is still out then would be counted for the new one. -/
def State.freshGenerations (s : State) : Prop :=
  ∀ (l : Lane) (st : Station), (s.lane l).isAttached = false →
    let o : Origin := ⟨l, st, ((s.lane l).gen + 1) % 65536⟩
    s.parkedAt o = 0 ∧ s.handedTo o = 0

/-! ## Situations -/

/-- The engine has been granted this operation and is about to perform it, be a warm reset owed at its completion or not
(R8, R11); none is due yet, no post waits, and no bit error stands in the memory or crosses the operation. -/
structure Granted (s : State) (op : Op) (x : Crossing) : Prop where
  busy    : s.engine = .busy op
  noReset : s.arbiter.resetDue = false
  noWait  : op.waiting = []
  noErr   : s.upsets = []
  noFlip  : x.flips = []
  sound   : s.link.sending = true → s.link.outbound ≠ []
  canon   : s.canonical

/-- The tables after the catch-up that opens an operation on a RESIDENT patron slot, with its activity day (R9, R15). -/
def State.served (s : State) (slot : Nat) : State := (s.catchUp slot).touchDay slot

/-- A granted lane request names the RESIDENT patron of a slot; u and p are the state and the record after the
catch-up. -/
structure Serves (s : State) (op : Op) (x : Crossing) (code : ReqCode) (fields : List Nat) (slot : Nat) (u : State)
    (p : Patron) : Prop extends Granted s op x where
  kind     : op.kind = .request code fields
  found    : s.findPatron (fields.headD 0) = some slot
  resident : (s.patronAt slot).isSome = true
  after    : u = s.served slot
  patron   : u.patronAt slot = some p

/-- A granted message. -/
structure Performs (s : State) (op : Op) (x : Crossing) (m : Message) : Prop extends Granted s op x where
  kind : op.kind = .message m.kind m

/-- A granted message names the RESIDENT patron of a slot. -/
structure Names (s : State) (op : Op) (x : Crossing) (m : Message) (id slot : Nat) (u : State) (p : Patron) : Prop
    extends Performs s op x m where
  found    : s.findPatron id = some slot
  resident : (s.patronAt slot).isSome = true
  after    : u = s.served slot
  patron   : u.patronAt slot = some p

/-- The lane request of an operation is still in WORKING under the generation of the grant, its line is free to send, and
no warm reset owed drops its result (R10, R11, R161). -/
structure AwaitedBy (s : State) (op : Op) (o : Origin) (ex : Exchange) : Prop where
  origin  : op.origin = some o
  working : (s.lane o.lane).exchange = some ex
  granted : ex.step = .working .granted
  sameGen : (s.lane o.lane).gen = o.gen
  sameSt  : ex.station = o.station
  quiet   : (s.lane o.lane).closingCall = none
  noOwed  : op.resetOwed = false

/-- The exchange as it stands once the lane has begun to send an answer (R166). -/
def Exchange.answered (ex : Exchange) (a : Answer) : Exchange :=
  match a.fields with
  | [] => { ex with step := .closing a.final }
  | _ :: rest => { ex with step := .results 1 rest a.final }

/-- In state t the lane has begun to send this answer to the request of an operation that s had granted. -/
def Answers (s t : State) (op : Op) (a : Answer) : Prop :=
  ∀ o ex, AwaitedBy s op o ex → (t.lane o.lane).exchange = some (ex.answered a)

/-- The CONFIRM of the message at the head of s's inbound queue stands in t's outbound queue (R10, R179). -/
def Confirms (s t : State) (kind : Nat) (status : Status) (fields : List CField) : Prop :=
  .confirm s.headSeq kind status fields ∈ t.link.outbound

/-- A notice that the operation of s has posted: it stands in the outbound queue, or waits for room there (R8). -/
def Posted (t : State) (n : Notice) : Prop :=
  n ∈ t.link.outbound ∨ ∃ op, t.engine = .waitingRoom op ∧ n ∈ op.waiting

/-- The outbound queues of s and t hold the same BALANCE notices: none was posted between them. -/
def SameBalances (s t : State) : Prop :=
  ∀ id balance pending blocked,
    Notice.balance id balance pending blocked ∈ t.link.outbound ↔ .balance id balance pending blocked ∈ s.link.outbound

/-- The station state of an origin. -/
def State.stationAt (s : State) (o : Origin) : StationState := (s.lane o.lane).stations.get o.station

/-- The lane of an origin is attached as it was at the request (R153). -/
def State.standsFor (s : State) (o : Origin) : Prop := (s.lane o.lane).isAttached = true ∧ (s.lane o.lane).gen = o.gen

/-- The parked count of a request's station rises by 1 while its lane is attached as at the request (R154). -/
def RaisesParked (s t : State) (o : Origin) : Prop :=
  (s.standsFor o → (t.stationAt o).parked = (s.stationAt o).parked + 1) ∧
    (¬ s.standsFor o → (t.stationAt o).parked = (s.stationAt o).parked)

/-- A station notice is stacked at its origin, and the parked count there falls by 1, while the lane is attached as at
the request; otherwise it is discarded (R153). -/
def Stacks (s t : State) (o : Origin) (n : StationNotice) : Prop :=
  (s.standsFor o →
      (t.stationAt o).stack = (s.stationAt o).stack ++ [n] ∧ (t.stationAt o).parked = (s.stationAt o).parked - 1) ∧
    (¬ s.standsFor o →
      (t.stationAt o).stack = (s.stationAt o).stack ∧ (t.stationAt o).parked = (s.stationAt o).parked)

/-- What a load acts on: the present state for an untagged one, and for a tagged one the state with its number retired;
none when its tag matches no question (R149, R150). -/
def State.loadBase (s : State) (tag : TagField) (kind : TagKind) (subject : Nat) : Option State :=
  if tag.present then (s.matchTag tag kind (some subject)).map fun _ => s.retireTag tag.number else some s

/-- The questions that a TITLE_LOAD ends, each with its number: the one its tag matched in s, and the one that the
FETCHING title still asks in v (R103, R150). -/
def State.loadQuestions (s v : State) (tag : TagField) (title : Nat) : List (Question × Nat) :=
  ((s.matchTag tag .titleFetch (some title)).map fun q => (q, tag.number)).toList ++ v.fetchQuestion title

/-- No warm reset is due. -/
def State.settled (s : State) : Prop := s.arbiter.resetDue = false

/-- v is s but for lane l, which is u in v and has sent these words more. -/
structure OnlyLane (s v : State) (l : Lane) (u : LaneUnit) (words : List LaneWord) : Prop where
  lane   : v.lane l = u
  others : ∀ k, k ≠ l → v.lane k = s.lane k
  sent   : v.laneOut = s.laneOut ++ words.map fun w => (l, w)
  rest   : { v with lanes := s.lanes, laneOut := s.laneOut } = s

/-- v is s but for lane l, whose exchange now awaits the ACCEPT of a FINAL just sent, noted in the station's detail
record as its class asks (R166, R169). -/
def Closes (s v : State) (l : Lane) (ex : Exchange) (f : Final) (code : Option ReqCode) (index : Nat) : Prop :=
  OnlyLane s v l
    { (s.lane l).noteFinal ex.station f code index with exchange := some { ex with step := .closing f }, timer := .reply }
    [.final ex.station f]

/-- A lane attached with this exchange open, whose station may speak and which no reset is about to clear. -/
structure Speaks (s : State) (l : Lane) (ex : Exchange) : Prop where
  settled  : s.settled
  attached : (s.lane l).isAttached = true
  open_    : (s.lane l).exchange = some ex
  speaker  : (s.lane l).closingCall = none

/-- A lane unit whose lowest held station has just been sent FINAL (CHECK, LANE_CLOSING), which awaits its ACCEPT: the
station leaves the held calls and its detail record takes the final (R161, R169). -/
def LaneUnit.closingTo (u : LaneUnit) (held : StationSet) (first : Station) : LaneUnit :=
  { u.mapStation first fun y => { y with detail := ⟨.check .laneClosing, none, 0⟩ } with
    held := StationSet.remove held first, closingCall := some first, timer := .reply }

/-- The words that name their station, other than HALT, and pass their check (R192). -/
def isWord (l : Lane) (st : Station) (w : Instr) : Prop :=
  w ∈ [.call l st, .accept l st, .stop l st, .acceptOffer l st, .defer l st, .wordCheckFailure l (.outOfPlace st)] ∨
    (∃ code count, w = .req l st code count) ∨ ∃ code index value, w = .field l st code index value

/-- The word, other than HALT, that a step of an exchange awaits (R165, R166). -/
def ExchangeStep.awaits : ExchangeStep → Instr → Bool
  | .called, .req _ _ _ _ => true
  | .begun, .accept _ _ => true
  | .collecting _, .field _ _ _ _ _ => true
  | .results _ _ _, .accept _ _ => true
  | .results _ _ _, .stop _ _ => true
  | .closing _, .accept _ _ => true
  | _, _ => false

/-- The state that a word leaves when v is what it makes of the lane: ACCEPT and FIELD, which may submit a request, are
followed by a search (R5, R165). -/
def afterWord (w : Instr) (v : State) : State :=
  match w with
  | .accept _ _ => v.search.startSending
  | .field _ _ _ _ _ => v.search.startSending
  | _ => v.startSending

/-- v is s but for the fields of the link. -/
def OnlyLink (s v : State) (k : Link) : Prop := v = { s with link := k }

/-- The row of the table that performs a lane request. -/
def ReqCode.command : ReqCode → Crossing → Instr
  | .account => .account
  | .renew => .renew
  | .renewAll => .renewAll
  | .placeHold => .placeHold
  | .cancelHold => .cancelHold
  | .suspendHold => .suspendHold
  | .resumeHold => .resumeHold
  | .payCash => .payCash
  | .payCard => .payCard
  | .detail => .detail
  | .poll => .poll

/-- How many result fields a request carries when it lists nothing (R33, R172). -/
def ReqCode.width : ReqCode → Nat
  | .account => 5
  | .renew => 3
  | .renewAll => 0
  | .placeHold => 2
  | .cancelHold => 1
  | .suspendHold => 2
  | .resumeHold => 1
  | .payCash => 2
  | .payCard => 1
  | .detail => 0
  | .poll => 0

/-- The row of the table that performs a message; a LANE_CONTROL whose action does not exist is performed by any of its
three rows, of which this names one (notes/assumptions/34.md). -/
def Message.command : Message → Crossing → Instr
  | .loanOpen .. => .loanOpen
  | .returnCopy .. => .returnCopy
  | .patronLoad .. => .patronLoad
  | .titleLoad .. => .titleLoad
  | .authResult .. => .authResult
  | .dayClose _ => .dayClose
  | .calendar .. => .calendar
  | .schedule .. => .schedule
  | .waive .. => .waive
  | .holdPlace .. => .holdPlace
  | .holdCancel .. => .holdCancel
  | .laneControl _ action =>
    match action with
    | 0 => .laneControlEnable
    | 1 => .laneControlDisable
    | _ => .laneControlAbort
  | .statusRead => .statusRead
  | .faultRead => .faultRead
  | .faultClear => .faultClear
  | .restart => .restart

/-- The row of the table that performs an operation. -/
def OpKind.command : OpKind → Crossing → Instr
  | .request code _ => code.command
  | .message _ m => m.command
  | .loansStep => .loansStep
  | .holdsStep => .holdsStep
  | .tagExpiry _ => .tagExpiry

/-! ## Completion (R10, R11) -/

/-- The inbound queue after the completion of an operation: a performed message's place, which stands at the head, leaves
it, or stays to drain while it owes overrun CONFIRMs (R10, R176, R178); no other operation changes it. -/
def OpKind.leaves (k : OpKind) (q : List Place) : List Place :=
  match k, q with
  | .message _ _, p :: rest => if p.tally = 0 then rest else { p with confirmed := true } :: rest
  | _, _ => q

/-- The operation is a RESTART, whose completion sets the restart-pending flag (R11). -/
def OpKind.isRestart : OpKind → Bool
  | .message _ .restart => true
  | _ => false

/-- From s, whose operation is op, a command completes it and answers t; v is the state at the completion. The engine is
FREE, and a performed message has left the inbound queue or begins to drain. Then the waiters claim what room there is and
a search follows (R5, R10, R182), or a warm reset owed to the operation takes effect (R8, R11): it is due, and the next
command performs it (notes/assumptions/4.md). -/
structure Completes (s v t : State) (op : Op) (claims : List Claim) : Prop where
  free    : v.engine = .free
  inbound : v.link.inbound = op.kind.leaves s.link.inbound
  arbiter : v.arbiter =
    { s.arbiter with
      restartPending := s.arbiter.restartPending || op.kind.isRestart, resetDue := op.resetOwed }
  after   : t = (if op.resetOwed then v.startSending else (v.claimAll claims).search.startSending)

/-- The lane result of a completed request has gone to its origin lane from s, in v (R10): the lane accepts it for an
exchange still in WORKING under the generation of the grant, beginning to send it or, while a LANE_CLOSING final awaits its
ACCEPT, keeping it (R161), and otherwise discards it, as it does when a warm reset is owed (R11). No other lane changes. -/
def HandsOver (s v : State) (op : Op) (o : Origin) : Prop :=
  (∀ l, l ≠ o.lane → v.lane l = s.lane l) ∧
    ((s.lane o.lane).exchange = none → (v.lane o.lane).exchange = none ∧ v.laneOut = s.laneOut) ∧
    ∀ ex, (s.lane o.lane).exchange = some ex →
      let accepts := ex.step = .working .granted ∧ (s.lane o.lane).gen = o.gen ∧ ex.station = o.station ∧
        op.resetOwed = false
      (accepts → ∃ a,
        ((s.lane o.lane).closingCall = none →
          (v.lane o.lane).exchange = some (ex.answered a) ∧ ∃ w, v.laneOut = s.laneOut ++ [(o.lane, w)]) ∧
        ∀ c, (s.lane o.lane).closingCall = some c →
          (v.lane o.lane).exchange = some { ex with step := .working (.answered a true) } ∧ v.laneOut = s.laneOut) ∧
      (¬ accepts → (v.lane o.lane).exchange = some ex ∧ v.laneOut = s.laneOut)

/-- The patron requests: every code but DETAIL and POLL (R16). -/
def ReqCode.namesPatron (c : ReqCode) : Prop := c ≠ .detail ∧ c ≠ .poll

/-- The refusal of a request whose patron record is not RESIDENT (the table of R16). -/
def PatronRec.refusal : PatronRec → Option Refused
  | .fetching _ _ _ => some .retry
  | .unknown _ _ => some .unknownPatron
  | .damaged _ => some .damaged
  | .resident _ => none

/-- The catalogue messages that name a patron to be served, once their own field checks pass, with the patron id and the
row of the table that performs each (R19, R28, R89). -/
def Message.names (m : Message) (id : Nat) (row : Crossing → Instr) : Prop :=
  (∃ copy title cls due pickup restore, m = .loanOpen copy title id cls due pickup restore ∧
      loanFieldsOk copy title id cls due restore = true ∧ row = .loanOpen) ∨
    (∃ amount, m = .waive id amount ∧ row = .waive) ∨
    (∃ title branch until_, m = .holdPlace id title branch until_ ∧ title ≠ 0 ∧ branch ≤ 63 ∧ id ≠ 0 ∧
      row = .holdPlace) ∨
    ∃ title, m = .holdCancel id title ∧ row = .holdCancel

/-! ## The checks of a renewal (R69) -/

/-- The day that the open-day search places for a renewal: its base is today plus the loan period of the loan's class
(R44, R74). -/
def State.placesDue (u : State) (l : Loan) : Nat :=
  u.calendar.openDay (u.calendar.closeDay + 1 + (u.schedule.cls l.cls).period)

/-- The table of R73 refuses a renewal on this title: its record is RESIDENT with a WAITING entry counted, or DAMAGED. One
that is RESIDENT with none, FETCHING or absent lets it pass. -/
def State.holdsUp (u : State) (title : Nat) : Prop :=
  ∃ k, u.findTitle title = some k ∧
    ((∃ tt, u.titleAt k = some tt ∧ 1 ≤ tt.waiting) ∨ ∃ i, Tbl.lookup u.titles k = some (.damaged i))

/-- Checks 3 to 7 of R69 pass for an ACTIVE loan of a RESIDENT patron. -/
def State.mayRenew (u : State) (p : Patron) (l : Loan) : Prop :=
  p.blocked = false ∧ l.used < (u.schedule.cls l.cls).maxRenewal ∧ l.overdue ≤ (u.schedule.cls l.cls).window ∧
    ¬ u.holdsUp l.title ∧ l.due < u.placesDue l

/-- The first failing check of checks 3 to 7 of R69, in its order, gives r. -/
def State.refusesRenewal (u : State) (p : Patron) (l : Loan) (r : Refused) : Prop :=
  p.blocked = true ∧ r = .blocked ∨
    p.blocked = false ∧
      ((u.schedule.cls l.cls).maxRenewal ≤ l.used ∧ r = .renewLimit ∨
        l.used < (u.schedule.cls l.cls).maxRenewal ∧
          ((u.schedule.cls l.cls).window < l.overdue ∧ r = .tooLate ∨
            l.overdue ≤ (u.schedule.cls l.cls).window ∧
              (u.holdsUp l.title ∧ r = .held ∨ ¬ u.holdsUp l.title ∧ u.placesDue l ≤ l.due ∧ r = .noGain)))

/-! ## The checks of a placement (R89) -/

/-- Checks 1 to 4 of R89 pass for a RESIDENT patron and a title. -/
def State.mayHold (u : State) (p : Patron) (title : Nat) : Prop :=
  p.blocked = false ∧ title ∉ p.holds ∧ (∀ k ∈ p.loans, ∀ l, u.loanAt k = some l → l.title ≠ title) ∧
    p.holds.length < (u.schedule.category p.category).holdLimit

/-- The first failing check of R89 on a title slot that holds this record, in its order, gives r. -/
def State.refusesHold (u : State) (p : Patron) (title : Nat) (place : Option TitleRec) (until_ : Option Nat)
    (r : Refused) : Prop :=
  p.blocked = true ∧ r = .blocked ∨
    p.blocked = false ∧
      (title ∈ p.holds ∧ r = .duplicate ∨
        title ∉ p.holds ∧
          ((∃ k ∈ p.loans, ∃ l, u.loanAt k = some l ∧ l.title = title) ∧ r = .onLoan ∨
            (∀ k ∈ p.loans, ∀ l, u.loanAt k = some l → l.title ≠ title) ∧
              (u.schedule.category p.category).holdLimit ≤ p.holds.length ∧ r = .holdLimit)) ∨
    u.mayHold p title ∧
      ((∃ id, place = some (.damaged id)) ∧ r = .damaged ∨
        ∃ tt, place = some (.resident tt) ∧
          (255 ≤ tt.queue.length ∧ r = .queueFull ∨
            tt.queue.length < 255 ∧
              (Tbl.firstFree u.pool 8192 = none ∧ r = .poolFull ∨
                Tbl.firstFree u.pool 8192 ≠ none ∧ (∃ d, until_ = some d ∧ d ≤ u.today) ∧ r = .badField)))

/-! ## The checks of a named entry (R100) -/

/-- The first failing check of R100 for a title that a RESIDENT patron's request names gives r: a title that the hold list
or the index does not name, or names FETCHING; a DAMAGED title; a DAMAGED entry. A listed title whose queue has no entry of
the patron is NOT_FOUND by the model's reading (notes/assumptions/35.md). -/
def State.refusesEntry (u : State) (p : Patron) (title : Nat) (r : Refused) : Prop :=
  title ∉ p.holds ∧ r = .notFound ∨
    title ∈ p.holds ∧
      (u.findTitle title = none ∧ r = .notFound ∨
        ∃ n, u.findTitle title = some n ∧
          ((∃ i tag, Tbl.lookup u.titles n = some (.fetching i tag)) ∧ r = .notFound ∨
            (∃ i, Tbl.lookup u.titles n = some (.damaged i)) ∧ r = .damaged ∨
            ∃ t, u.titleAt n = some t ∧
              (t.itemOf p.id = none ∧ r = .notFound ∨
                ∃ i, t.itemOf p.id = some i ∧ u.holdAt i.slot = none ∧ r = .damaged)))

/-! ## Loans without an id (R132, R186) -/

/-- A patron record whose loan list has lost these slots. -/
def PatronRec.losing (gone : Nat → Bool) : PatronRec → PatronRec
  | .resident p => .resident { p with loans := p.loans.filter fun n => !gone n }
  | r => r

/-! ## Eviction (R18) -/

/-- No patron slot is FREE. -/
def State.patronsFull (s : State) : Prop := ∀ n, n < 8192 → Tbl.lookup s.patrons n ≠ none

/-- A RESIDENT record that R18 lets go: no loans, no holds, balance 0, pending credit 0, and no outstanding tag names its
patron. -/
def State.quietAt (s : State) (n : Nat) (p : Patron) : Prop :=
  s.patronAt n = some p ∧ p.loans = [] ∧ p.holds = [] ∧ p.balance = 0 ∧ p.pending = 0 ∧
    ∀ q ∈ s.questions,
      (q.kind ≠ .titleFetch → q.subject ≠ p.id) ∧ (q.kind = .titleFetch → ∀ k, q.parked = some k → k.patron ≠ p.id)

/-! ## Accrual (R54 to R61) -/

/-- The days from d on, n of them, that count against a loan due on a day: after it, and not CLOSED (R58, R59). -/
def Calendar.overdueDays (c : Calendar) (due d n : Nat) : Nat :=
  ((List.range' d n).filter fun k => decide (due < k) && !c.isClosed k).length

end Sys2Proof.Machine
end

