-- ==== Sys2Proof/Certificates/Slice0/Obligations.lean ====
section
/-! DEFINITION. The statements for the provers. Each says in its docstring which rule of spec/ it formalises, or that it
is the model's own. Positions, queues and tables are read with the functions the meanings use. -/

open Sys2Proof Sys2Proof.Machine

/-! ## The step -/

/-- A step performs the command at the front of the queue; with none waiting the part idles (notes/assumptions/2.md). -/
def Obligations.StepPerformsTheFrontCommand : Prop :=
  (∀ c rest s, s.pending = c :: rest → step s = exec c { s with pending := rest }) ∧
    ∀ s, s.pending = [] → step s = .next s

/-- Every command answers a next state, in any state: none ends in a fault or a refusal. That a command which is not
enabled also answers one is the model's reading (notes/assumptions/1.md); what each does is said by the statements
below. -/
def Obligations.EveryCommandAnswersANextState : Prop := ∀ c s, ∃ t, exec c s = .next t

/-- POWER_ON gives every field its power-on value; every day is marked UNKNOWN, that is,
has no stored mark (R36). The model's
own choices among them: the waiting commands stay and the two traces are emptied (notes/assumptions/12.md); a lane's last
reason, its carrier and the capture counter take the values of notes/assumptions/13.md. -/
def Obligations.PowerOnSetsEveryField : Prop :=
  ∀ s : State, ∃ t, exec .powerOn s = .next t ∧ t.pending = s.pending ∧
    t.engine = .free ∧ t.arbiter = ⟨0, false, false⟩ ∧
    t.patrons = [] ∧ t.loans = [] ∧ t.titles = [] ∧ t.pool = [] ∧
    t.calendar.closeDay = 0 ∧ (∀ d, Tbl.lookup t.calendar.marks d = none) ∧ (∀ d, t.calendar.isClosed d = false) ∧
    (∀ n : Fin 8, t.schedule.classes.get n = ⟨0, 0, 0, 14, 2, 0, 0⟩ ∧ t.schedule.categories.get n = ⟨100, 0, 10⟩) ∧
    t.schedule.globals = ⟨7, 20⟩ ∧
    t.sweep = ⟨.idle, .none, 0, 0, true, ⟨0, 0, 0, 0, 0, 0, 0, 0⟩, ⟨0, 0, 0, 0, 0, 0, 0, 0⟩⟩ ∧
    (∀ n : Fin 32, t.tags.get n = ⟨.free, 0, false, none, 0⟩) ∧ t.tagLine = [] ∧
    (∀ l : Lane, (t.lane l).life = .detached ∧ (t.lane l).gen = 0 ∧ (t.lane l).roll = 0 ∧
      (t.lane l).exchange = none ∧ (t.lane l).held = 0 ∧ (t.lane l).offer = .none ∧ (t.lane l).stateOwed = false ∧
      (t.lane l).timer = .off ∧ (t.lane l).closingCall = none ∧ (t.lane l).reason = .carrierLost ∧
      (t.lane l).carrier = false ∧
      ∀ st : Station, (t.lane l).stations.get st = ⟨[], 0, ⟨.none, none, 0⟩⟩) ∧
    t.link = ⟨false, false, [], [], [], 0⟩ ∧ t.flowHold = false ∧
    t.faults = ⟨none, 0, 0, true, false, 0⟩ ∧ t.scrub = 0 ∧ t.upsets = [] ∧ t.laneOut = [] ∧ t.linkOut = []

/-! ## What every step keeps -/

/-- Every table stays in its canonical form, the model's own form of the tables, and the calendar holds no mark of a day
outside its window, C - 31 to C + 64 within 0 to 65,534 (R36, R41). The pending credit of a RESIDENT patron record stays at
most its balance, and its balance at most 999,999 (R13), in a memory without damage to the patron records and tags, which a
command that brings no bit error leaves so. (Damage may leave a pending credit that the tags no longer account for: R25,
R155.) -/
def Obligations.StepKeepsTablesCanonical : Prop :=
  KeptByStep State.canonical ∧
    ∀ s t, s.canonical → s.creditsAgree → (∀ c rest, s.pending = c :: rest → c.flips = []) → step s = .next t →
      t.creditsAgree

/-- Outbound entries with the reservation never exceed 128, inbound places 64, the side list 8 (R3, R176, R178, R180).
There are never two unsent BALANCE notices for one patron, nor two unsent LANE_STATE notices for one lane (R126, R181),
also after a line drop, by the model's reading of it (notes/assumptions/37.md). -/
def Obligations.StepKeepsQueuesWithinRoom : Prop := KeptByStep State.withinRoom

/-- The Sweep Unit's phase, cursor, indicator, summary and target agree with its state (R128, R143). -/
def Obligations.StepKeepsSweepAgreement : Prop := KeptByStep State.sweepAgrees

/-- The TAGS line holds exactly the DUE and DAMAGED numbers, each once (R148, R152, R155). -/
def Obligations.StepKeepsTagsLine : Prop := KeptByStep State.lineAgrees

/-- A lane outside ACTIVE and QUIESCING has no exchange, held call or offer (R157, R162). A station's parked operations
and stacked notices are never more than 2 together, since an attached lane's parked counts cover the tags that carry its
stations under its generation and the notices on their way to them (R153, R154), as long as no question outlives 65,536
attachments of its lane. -/
def Obligations.StepKeepsDetachedLanesCleared : Prop :=
  KeptByStep State.lanesAgree ∧
    ∀ s t, s.parkedAgree → s.freshGenerations → step s = .next t → t.parkedAgree

/-- The state after power-on meets each of those conditions. -/
def Obligations.ResetMeetsTheInvariants : Prop :=
  State.reset.canonical ∧ State.reset.withinRoom ∧ State.reset.sweepAgrees ∧ State.reset.lineAgrees ∧
    State.reset.lanesAgree ∧ State.reset.creditsAgree ∧ State.reset.parkedAgree ∧ State.reset.freshGenerations

/-- Words, timers and carrier on the lanes, everything the link does itself, and the assertion of the reset line change no
table. That the reset line, and a line drop or the sending of the RESTART's CONFIRM while a RESTART waits, leave the tables
as they are is the model's two-phase reset (notes/assumptions/4.md): by R11 the reset takes effect at once, and the model
performs it with the next command. -/
def Obligations.LaneAndLinkCommandsLeaveTables : Prop :=
  ∀ (s t : State) (l : Lane) (st : Station) (cs : List Claim) (c : Instr), s.settled →
    (c ∈ [.carrierPresent l, .carrierLost l, .settleTimerExpiry l, .identifyTimerExpiry l, .replyTimerExpiry l,
        .call l st, .accept l st, .stop l st, .halt l st, .acceptOffer l st, .defer l st, .linkUp, .linkDown,
        .markerConfirm, .overrunConfirm, .sideListMove, .entrySent cs, .owedFaultPost, .owedLaneStatePost l,
        .waitingRoomPost cs, .resetLineAsserted] ∨
      (∃ r, c = .roll l r) ∨ (∃ code count, c = .req l st code count) ∨
      (∃ code index v, c = .field l st code index v) ∨ (∃ p, c = .wordCheckFailure l p) ∨
      ∃ k p w, c = .inboundFrame k p w) →
    exec c s = .next t → t.tables = s.tables

/-! ## Serving a patron -/

/-- The catch-up of a patron changes that patron's record and the loans of its list, and nothing else of the tables (R9, R57,
R123). It evaluates the loans of the list in list order, each as the statement on evaluations says
(LoansStepEvaluatesTheNextLoan), and then runs the block compare (R9, R63); so the faults are those of the evaluations in
that order (R67). Each ACTIVE loan of the list stands at C afterwards, with the overdue count and the accrued fine of its
walk, whatever its place in the list; a DAMAGED slot is passed over; and the balance has risen by the fines of all of them,
up to 999,999 (R67; one above that is not lowered, the model's choice, notes/assumptions/36.md). The operation then sets the
last activity day to today (R15). When it changes the balance or the blocked flag, the operation posts a BALANCE with the new
values (R125); that of ACCOUNT and of PATRON_LOAD coalesces with an unsent one, or takes an entry free beyond the
reservation, or is not posted (R9; which entries count as free is the model's reading, notes/assumptions/14.md), where a
FAULT captured meanwhile may take the entry first. A catch-up that changes neither posts no BALANCE. -/
def Obligations.CatchUpTouchesOnlyThePatronAndItsLoans : Prop :=
  ∀ (s : State) slot p, s.upsets = [] → s.patronAt slot = some p →
    (∀ n ∈ p.loans, ∀ l, s.loanAt n = some l → l.patronSlot = slot) →
    (∀ n, n ≠ slot → Tbl.lookup (s.catchUp slot).patrons n = Tbl.lookup s.patrons n) ∧
    (∀ n, n ∉ p.loans → Tbl.lookup (s.catchUp slot).loans n = Tbl.lookup s.loans n) ∧
    (∃ p', (s.catchUp slot).patronAt slot = some p' ∧ p'.id = p.id ∧ p'.category = p.category ∧
      p'.pending = p.pending ∧ p'.loans = p.loans ∧ p'.holds = p.holds ∧ p'.lastDay = p.lastDay ∧
      p.balance ≤ p'.balance ∧ p'.blocked = s.blockDue p') ∧
    (let each := p.loans.foldl (fun v n => (v.evaluate n).1) s
     (s.catchUp slot).faults = each.faults ∧
      ∃ q, each.patronAt slot = some q ∧
        (s.catchUp slot).tables = { each.tables with
          patrons := Tbl.store each.patrons slot (.resident { q with blocked := each.blockDue q }) }) ∧
    (∀ n ∈ p.loans,
      (∀ l, s.loanAt n = some l →
        (s.catchUp slot).loanAt n = some { l with
          overdue := (s.walkLoan l p).overdue
          accrued := (s.walkLoan l p).accrued
          charged := max l.charged s.calendar.closeDay }) ∧
      (s.loanAt n = none → Tbl.lookup (s.catchUp slot).loans n = Tbl.lookup s.loans n)) ∧
    (let fines := ((p.loans.dedup.filterMap s.loanAt).map fun l => (s.walkLoan l p).accruedAdded).sum
     ∃ p', (s.catchUp slot).patronAt slot = some p' ∧ p'.balance = max p.balance (min 999999 (p.balance + fines)) ∧
      (s.served slot).tables = { (s.catchUp slot).tables with
        patrons := Tbl.store (s.catchUp slot).patrons slot (.resident { p' with lastDay := s.calendar.closeDay + 1 }) }) ∧
    (s.catchUp slot).titles = s.titles ∧ (s.catchUp slot).pool = s.pool ∧ (s.catchUp slot).calendar = s.calendar ∧
    (s.catchUp slot).schedule = s.schedule ∧ (s.catchUp slot).sweep = s.sweep ∧ (s.catchUp slot).tags = s.tags ∧
    (s.catchUp slot).tagLine = s.tagLine ∧
    (∀ p' op, (s.catchUp slot).patronAt slot = some p' → (p'.balance ≠ p.balance ∨ p'.blocked ≠ p.blocked) →
      s.engine = .busy op → op.waiting = [] →
      let n : Notice := .balance p.id p'.balance p.pending p'.blocked
      (s.balanceIsOptional = false → 1 ≤ op.reservation → n ∈ (s.catchUp slot).link.outbound) ∧
      (s.balanceIsOptional = true →
        (s.link.coalesce n ≠ none → n ∈ (s.catchUp slot).link.outbound) ∧
        (0 < s.roomForOthers → (s.catchUp slot).faults = s.faults → n ∈ (s.catchUp slot).link.outbound) ∧
        (s.link.coalesce n = none → s.roomForOthers = 0 → (s.catchUp slot).link = s.link))) ∧
    ∀ p', (s.catchUp slot).patronAt slot = some p' → p'.balance = p.balance → p'.blocked = p.blocked →
      ∃ more, (s.catchUp slot).link.outbound = s.link.outbound ++ more ∧ ∀ n ∈ more, ∃ f k, n = .fault f k

/-- An absent patron is fetched (R17): the tag, the FETCHING record, the notice and the RETRY, and no other record or tag;
with no FREE tag the request is refused TRY_LATER, and else with no slot TABLE_FULL, and nothing changes. How many zero
fields the refused request carries (R16) is the model's reading for each request (notes/assumptions/23.md), and the tag holds
its deadline as the timeout in force (notes/assumptions/38.md). The record takes the lowest FREE slot; with none FREE, the
slot of the UNKNOWN record with the oldest last activity day; with no UNKNOWN one, that of the oldest RESIDENT record without
loans, holds, balance, pending credit and outstanding tags; the lowest slot among equal days; and with none of these there is
no slot (R18). -/
def Obligations.AbsentPatronIsFetched : Prop :=
  (∀ (code : ReqCode) (s : State) (op : Op) (x : Crossing) id rest slot (n : Fin 32), code.namesPatron → Granted s op x →
    op.kind = .request code (id :: rest) → s.findPatron id = none → s.freeTag = some n →
    s.slotForPatron = some slot → 1 ≤ op.reservation →
    ∃ t, exec (code.command x) s = .next t ∧
      (let gen := ((s.tags.get n).gen + 1) % 16
       Tbl.lookup t.patrons slot = some (.fetching id s.today ⟨n.val, gen⟩) ∧
       t.tags.get n = ⟨.outstanding, gen, false,
         some ⟨.patronFetch, id, 0, none, none, s.schedule.globals.tagTimeout⟩, gen⟩ ∧
       .fetchPatron ⟨n.val, gen⟩ id ∈ t.link.outbound) ∧
      (∀ k, k ≠ slot → Tbl.lookup t.patrons k = Tbl.lookup s.patrons k) ∧
      (∀ k, k ≠ n → t.tags.get k = s.tags.get k) ∧
      t.loans = s.loans ∧ t.titles = s.titles ∧ t.pool = s.pool ∧ t.calendar = s.calendar ∧
      t.schedule = s.schedule ∧ t.sweep = s.sweep ∧ t.tagLine = s.tagLine ∧
      Answers s t op ⟨List.replicate code.width (.num 0), .refused .retry⟩) ∧
  (∀ (code : ReqCode) (s : State) (op : Op) (x : Crossing) id rest r, code.namesPatron → Granted s op x →
    op.kind = .request code (id :: rest) → s.findPatron id = none →
    (s.freeTag = none ∧ r = .tryLater ∨ s.freeTag ≠ none ∧ s.slotForPatron = none ∧ r = .tableFull) →
    ∃ t, exec (code.command x) s = .next t ∧ t.tables = s.tables ∧
      Answers s t op ⟨List.replicate code.width (.num 0), .refused r⟩) ∧
  ∀ s : State, s.canonical →
    (∀ n, n < 8192 → Tbl.lookup s.patrons n = none → (∀ m, m < n → Tbl.lookup s.patrons m ≠ none) →
      s.slotForPatron = some n) ∧
    (s.patronsFull →
      (∀ n id day, Tbl.lookup s.patrons n = some (.unknown id day) →
        (∀ m i d, Tbl.lookup s.patrons m = some (.unknown i d) → day < d ∨ day = d ∧ n ≤ m) →
        s.slotForPatron = some n) ∧
      ((∀ n id day, Tbl.lookup s.patrons n ≠ some (.unknown id day)) →
        (∀ n p, s.quietAt n p → (∀ m q, s.quietAt m q → p.lastDay < q.lastDay ∨ p.lastDay = q.lastDay ∧ n ≤ m) →
          s.slotForPatron = some n) ∧
        ((∀ n p, ¬ s.quietAt n p) → s.slotForPatron = none)))

/-- A patron whose record is FETCHING, UNKNOWN or DAMAGED is refused as the table of R16 says; nothing changes but the
last activity day (R15), and the result fields are zeros, as many as notes/assumptions/23.md reads for each request
(the model's choice). A LOAN_OPEN, WAIVE, HOLD_PLACE or HOLD_CANCEL whose own fields pass is confirmed UNKNOWN_PATRON when
its patron is absent, FETCHING or UNKNOWN, and DAMAGED when the record is DAMAGED (R19, R28); nothing changes but that
day, and the CONFIRM carries no fields (the model's reading, 24.md). The day of a FETCHING or UNKNOWN record becomes today,
C + 1; a DAMAGED record has none (R15). -/
def Obligations.UnservedPatronIsRefused : Prop :=
  (∀ (code : ReqCode) (s : State) (op : Op) (x : Crossing) id rest slot r refusal, code.namesPatron → Granted s op x →
    op.kind = .request code (id :: rest) → s.findPatron id = some slot → Tbl.lookup s.patrons slot = some r →
    r.refusal = some refusal →
    ∃ t, exec (code.command x) s = .next t ∧ t.tables = (s.touchDay slot).tables ∧
      Answers s t op ⟨List.replicate code.width (.num 0), .refused refusal⟩) ∧
  (∀ (s : State) slot,
    let today := s.calendar.closeDay + 1
    (∀ i day tag, Tbl.lookup s.patrons slot = some (.fetching i day tag) →
      (s.touchDay slot).tables = { s.tables with patrons := Tbl.store s.patrons slot (.fetching i today tag) }) ∧
    (∀ i day, Tbl.lookup s.patrons slot = some (.unknown i day) →
      (s.touchDay slot).tables = { s.tables with patrons := Tbl.store s.patrons slot (.unknown i today) }) ∧
    ∀ i, Tbl.lookup s.patrons slot = some (.damaged i) → (s.touchDay slot).tables = s.tables) ∧
  ∀ (m : Message) id (row : Crossing → Instr) (s : State) (op : Op) (x : Crossing), m.names id row →
    Performs s op x m → 1 ≤ op.reservation →
    let ends (u : State) (status : Status) :=
      ∃ t, exec (row x) s = .next t ∧ t.tables = u.tables ∧ Confirms s t m.kind status []
    (s.findPatron id = none → ends s .unknownPatron) ∧
    ∀ slot, s.findPatron id = some slot →
      (∀ i day tag, Tbl.lookup s.patrons slot = some (.fetching i day tag) →
        ends (s.touchDay slot) .unknownPatron) ∧
      (∀ i day, Tbl.lookup s.patrons slot = some (.unknown i day) → ends (s.touchDay slot) .unknownPatron) ∧
      ∀ i, Tbl.lookup s.patrons slot = some (.damaged i) → ends s .damaged

/-- ACCOUNT (R33): only the catch-up and the activity day change the tables. The fields are the balance, the pending
credit, the flag, the number of ACTIVE loans, the copy id, due day, accrued fine and renewals used of each of them in
list order, the number of holds, and for each title of the hold list its id with the state, position and day of the
patron's entry as the table of R33 gives them: UNAVAILABLE, 0 and 0 for a title with no RESIDENT record, no entry of the
patron or a DAMAGED one. The final is DONE with OK. That of two items of one patron the first in queue order is the
patron's entry is the model's choice (notes/assumptions/71.md). -/
def Obligations.AccountReportsTheAccount : Prop :=
  ∀ (s : State) (op : Op) (x : Crossing) id slot u p, Serves s op x .account [id] slot u p →
    (∃ t, exec (.account x) s = .next t ∧ t.tables = u.tables ∧
      let active := p.loans.filterMap u.loanAt
      let loans : List RField := active.flatMap fun l => [.num l.copy, .num l.due, .num l.accrued, .num l.used]
      let holds : List RField := p.holds.flatMap fun title =>
        let e := u.listEntry p.id title
        [.num title, .listed e.1, .num e.2.1, .num e.2.2]
      Answers s t op
        ⟨[.num p.balance, .num p.pending, .flag p.blocked, .num active.length] ++ loans ++
          [.num p.holds.length] ++ holds, .ok⟩) ∧
    ∀ title,
      (u.residentTitle title = none → u.listEntry p.id title = (.unavailable, 0, 0)) ∧
      ∀ tt, u.residentTitle title = some tt →
        (tt.itemOf p.id = none → u.listEntry p.id title = (.unavailable, 0, 0)) ∧
        ∀ i, tt.itemOf p.id = some i →
          (u.holdAt i.slot = none → u.listEntry p.id title = (.unavailable, 0, 0)) ∧
          ∀ h ahead behind, u.holdAt i.slot = some h → tt.queue = ahead ++ i :: behind → (∀ j ∈ ahead, j.slot ≠ i.slot) →
            let counted := (ahead.filterMap fun j => u.holdAt j.slot).filter fun g => g.isWaiting || g.isSuspended
            (h.state = .waiting → u.listEntry p.id title = (.waiting, 1 + counted.length, 0)) ∧
            (∀ day, h.state = .suspended day → u.listEntry p.id title = (.suspended, 1 + counted.length, day)) ∧
            ∀ deadline copy, h.state = .ready deadline copy → u.listEntry p.id title = (.ready, 0, deadline)

/-! ## Renewals -/

/-- RENEW of a loan that passes the seven checks of R69, check 6 by the table of R73 and check 7 with the day that the
open-day search places from today plus the class's loan period (R44, R74): the loan takes that due day, one more renewal
and an overdue count of 0 (R75), nothing else of the tables changes after the catch-up, RENEWED is posted (R76), and the
station is answered OK with the new values (R77). -/
def Obligations.RenewMovesTheDueDay : Prop :=
  ∀ (s : State) (op : Op) (x : Crossing) id copy slot u p n l, Serves s op x .renew [id, copy] slot u p → 2 ≤ op.reservation →
    u.findCopy copy = some n → n ∈ p.loans → u.loanAt n = some l → u.mayRenew p l →
    let day := u.calendar.openDay (u.calendar.closeDay + 1 + (u.schedule.cls l.cls).period)
    ∃ t, exec (.renew x) s = .next t ∧
      Tbl.lookup t.loans n = some (.active { l with due := day, used := l.used + 1, overdue := 0 }) ∧
      (∀ m, m ≠ n → Tbl.lookup t.loans m = Tbl.lookup u.loans m) ∧
      t.patrons = u.patrons ∧ t.titles = u.titles ∧ t.pool = u.pool ∧ t.tags = u.tags ∧ t.tagLine = u.tagLine ∧ t.calendar = u.calendar ∧
      t.schedule = u.schedule ∧ t.sweep = u.sweep ∧
      .renewed l.copy p.id day (l.used + 1) ∈ t.link.outbound ∧
      Answers s t op ⟨[.outcome .renew .ok, .num day, .num (l.used + 1)], .ok⟩

/-- The first failing check of R69, in its order, gives a RENEW's outcome, and the tables stay as the catch-up left
them. A copy without an index entry, and any slot outside the patron's loan list, is NOT_FOUND; a DAMAGED slot in the list
is DAMAGED (R70); these two answer 0 and 0, the others the loan's due day and renewals used as they stand (R77). Check 6
refuses by the table of R73: a title that is RESIDENT with a WAITING entry counted, or DAMAGED, is HELD, and one that is
RESIDENT with none, FETCHING or absent passes. Check 7 compares the day that the open-day search places from today plus the
class's loan period (R44, R74). -/
def Obligations.RenewRefusesByTheFirstFailingCheck : Prop :=
  ∀ (s : State) (op : Op) (x : Crossing) id copy slot u p, Serves s op x .renew [id, copy] slot u p → 2 ≤ op.reservation →
    let refused (r : Refused) (due used : Nat) :=
      ∃ t, exec (.renew x) s = .next t ∧ t.tables = u.tables ∧
        Answers s t op ⟨[.outcome .renew (.refused r), .num due, .num used], .refused r⟩
    (u.findCopy copy = none → refused .notFound 0 0) ∧
    (∀ n, u.findCopy copy = some n → n ∉ p.loans → refused .notFound 0 0) ∧
    (∀ n i, u.findCopy copy = some n → n ∈ p.loans → Tbl.lookup u.loans n = some (.damaged i) → refused .damaged 0 0) ∧
    ∀ n l r, u.findCopy copy = some n → n ∈ p.loans → u.loanAt n = some l → u.refusesRenewal p l r →
      refused r l.due l.used

/-- RENEW_ALL (R78, R79): the loan list is worked in order, each entry as RENEW works one loan, and the answer carries the
entries' three fields in list order and ends DONE with OK. In a list that names no slot twice, what becomes of an entry is
what its own renewal makes of it: a DAMAGED slot gives 0, DAMAGED and 0; the first failing check of checks 3 to 7 of R69
gives the copy id, its outcome and the due day as it stands, and the record stays; and a loan that passes them takes the day
placed, one more renewal and an overdue count of 0, and gives the copy id, OK and that day. No loan outside the list and no
other table changes after the catch-up. An empty list ends REFUSED with NOT_FOUND and no fields. Each loan renewed posts one
RENEWED with the values of its renewal, in list order, and a refused one posts none (R76). -/
def Obligations.RenewAllAnswersForEveryLoan : Prop :=
  ∀ (s : State) (op : Op) (x : Crossing) id slot u p, Serves s op x .renewAll [id] slot u p → p.loans.length + 1 ≤ op.reservation →
    let all := State.renewEach slot p.loans p.loans u
    ∃ t, exec (.renewAll x) s = .next t ∧ t.loans = all.1.loans ∧
      (∀ n, n ∉ p.loans → Tbl.lookup t.loans n = Tbl.lookup u.loans n) ∧
      t.patrons = u.patrons ∧ t.titles = u.titles ∧ t.pool = u.pool ∧ t.tags = u.tags ∧ t.tagLine = u.tagLine ∧ t.calendar = u.calendar ∧
      t.schedule = u.schedule ∧ t.sweep = u.sweep ∧
      (p.loans = [] → Answers s t op ⟨[], .refused .notFound⟩) ∧
      (p.loans ≠ [] → Answers s t op ⟨all.2, .ok⟩) ∧ all.2.length = 3 * p.loans.length ∧
      (p.loans.Nodup → ∀ i n, p.loans[i]? = some n →
        let one := u.renewOne slot p.loans n
        Tbl.lookup t.loans n = Tbl.lookup one.1.loans n ∧
          (all.2.drop (3 * i)).take 3 = one.1.renewAllFields n one.2) ∧
      (p.loans.Nodup → ∀ i n, p.loans[i]? = some n →
        let fields := (all.2.drop (3 * i)).take 3
        (u.loanAt n = none →
          (u.renewOne slot p.loans n).2 = .refused .damaged ∧ Tbl.lookup t.loans n = Tbl.lookup u.loans n ∧
            fields = [.num 0, .outcome .renewAll (.refused .damaged), .num 0]) ∧
        ∀ l, u.loanAt n = some l →
          (∀ r, u.refusesRenewal p l r →
            (u.renewOne slot p.loans n).2 = .refused r ∧ Tbl.lookup t.loans n = Tbl.lookup u.loans n ∧
              fields = [.num l.copy, .outcome .renewAll (.refused r), .num l.due]) ∧
          (u.mayRenew p l →
            (u.renewOne slot p.loans n).2 = .ok ∧
              Tbl.lookup t.loans n =
                some (.active { l with due := u.placesDue l, used := l.used + 1, overdue := 0 }) ∧
              fields = [.num l.copy, .outcome .renewAll .ok, .num (u.placesDue l)])) ∧
      (let renewed (n : Nat) : Option Notice :=
        if (u.renewOne slot p.loans n).2 = .ok then
          (u.loanAt n).map fun l => .renewed l.copy p.id (u.placesDue l) (l.used + 1)
        else none
       p.loans.Nodup →
        (∀ n ∈ p.loans.filterMap renewed, n ∈ t.link.outbound) ∧
        (x.claims = [] → t.link.outbound = u.link.outbound ++ p.loans.filterMap renewed))

/-! ## Payments -/

/-- PAY_CASH (R114, R115): the applied amount is the smaller of the amount and the payable amount, it leaves the
balance, the flag follows the new balance (R123), and no other record changes after the catch-up; an amount of 0 and a
payable amount of 0 are refused. -/
def Obligations.CashIsAppliedUpToThePayableAmount : Prop :=
  ∀ (s : State) (op : Op) (x : Crossing) id amount slot u p, Serves s op x .payCash [id, amount] slot u p → 1 ≤ op.reservation →
    ∃ t, exec (.payCash x) s = .next t ∧
      (let applied := min amount (p.balance - p.pending)
       let balance := p.balance - applied
       let threshold := (u.schedule.category p.category).threshold
       t.patronAt slot = some
         (if applied = 0 then p
          else { p with balance := balance, blocked := decide (threshold ≠ 0 ∧ threshold ≤ balance) }) ∧
       (applied ≠ 0 →
         .balance p.id balance p.pending (decide (threshold ≠ 0 ∧ threshold ≤ balance)) ∈ t.link.outbound) ∧
       Answers s t op ⟨[.num applied, .num balance],
         if amount = 0 then .refused .badAmount
         else if p.balance - p.pending = 0 then .refused .nothingDue else .ok⟩) ∧
      (∀ n, n ≠ slot → Tbl.lookup t.patrons n = Tbl.lookup u.patrons n) ∧
      t.loans = u.loans ∧ t.titles = u.titles ∧ t.pool = u.pool ∧ t.tags = u.tags ∧ t.tagLine = u.tagLine ∧ t.calendar = u.calendar ∧
      t.schedule = u.schedule ∧ t.sweep = u.sweep

/-- PAY_CARD that passes its checks (R116): the reserve is the smaller of the amount and the payable amount, it is added to
the pending credit, a CARD_AUTH tag holds it, AUTH_REQUEST is posted, the station's parked count rises by 1 (R153), and the
station is answered PENDING with the reserve. The first failing check, in order LINK_DOWN, BAD_AMOUNT, NOTHING_DUE,
PARKED_LIMIT and TRY_LATER, refuses it with the field 0, and the tables stay as the catch-up left them. PARKED_LIMIT is that
the station's stacked notices and parked operations are 2 together (R154). That a lane cut after the grant counts nothing,
and the tag's deadline held as a timeout, are the model's (notes/assumptions/33.md, 38.md). -/
def Obligations.CardPaymentReservesThePayableAmount : Prop :=
  (∀ (s : State) (op : Op) (x : Crossing) id amount cardRef slot u p o r, Serves s op x .payCard [id, amount, cardRef] slot u p →
    2 ≤ op.reservation → op.origin = some o →
    (u.link.up = false ∧ r = .linkDown ∨
      u.link.up = true ∧
        (amount = 0 ∧ r = .badAmount ∨
          amount ≠ 0 ∧
            (p.balance - p.pending = 0 ∧ r = .nothingDue ∨
              p.balance - p.pending ≠ 0 ∧
                (2 ≤ (u.stationAt o).stack.length + (u.stationAt o).parked ∧ r = .parkedLimit ∨
                  (u.stationAt o).stack.length + (u.stationAt o).parked < 2 ∧ u.freeTag = none ∧ r = .tryLater)))) →
    ∃ t, exec (.payCard x) s = .next t ∧ t.tables = u.tables ∧ Answers s t op ⟨[.num 0], .refused r⟩) ∧
  ∀ (s : State) (op : Op) (x : Crossing) id amount cardRef slot u p o (n : Fin 32), Serves s op x .payCard [id, amount, cardRef] slot u p →
    2 ≤ op.reservation → op.origin = some o → u.link.up = true → amount ≠ 0 → p.balance - p.pending ≠ 0 →
    (u.stationAt o).stack.length + (u.stationAt o).parked < 2 → u.freeTag = some n →
    ∃ t, exec (.payCard x) s = .next t ∧
      (let reserve := min amount (p.balance - p.pending)
       let gen := ((u.tags.get n).gen + 1) % 16
       t.patronAt slot = some { p with pending := p.pending + reserve } ∧
       t.tags.get n = ⟨.outstanding, gen, false,
         some ⟨.cardAuth, p.id, reserve, some o, none, u.schedule.globals.tagTimeout⟩, gen⟩ ∧
       .authRequest ⟨n.val, gen⟩ p.id reserve cardRef o.lane o.station ∈ t.link.outbound ∧
       .balance p.id p.balance (p.pending + reserve) p.blocked ∈ t.link.outbound ∧
       Answers s t op ⟨[.num reserve], .pending⟩) ∧
      (op.handed = [] → RaisesParked s t o) ∧
      (∀ k, k ≠ slot → Tbl.lookup t.patrons k = Tbl.lookup u.patrons k) ∧
      (∀ k, k ≠ n → t.tags.get k = u.tags.get k) ∧
      t.loans = u.loans ∧ t.titles = u.titles ∧ t.pool = u.pool ∧ t.calendar = u.calendar ∧
      t.schedule = u.schedule ∧ t.sweep = u.sweep

/-- DETAIL answers with the station's detail record, and POLL with the oldest stacked notice, which leaves the stack,
or with NOT_FOUND when the stack is empty; neither changes a table (R169, R171). An offer of the notice that a POLL
takes stands, with that noted (the model's own, notes/assumptions/47.md). -/
def Obligations.DetailAndPollReadTheStation : Prop :=
  ∀ (s : State) (op : Op) (x : Crossing) o, Granted s op x → op.origin = some o →
    (op.kind = .request .detail [] →
      ∃ t, exec (.detail x) s = .next t ∧ t.tables = s.tables ∧
        (let d := (s.stationAt o).detail
         Answers s t op ⟨[.detailClass d.cause, .detailOutcome d.cause, .detailCode d.code, .num d.index], .ok⟩)) ∧
    (op.kind = .request .poll [] →
      ∃ t, exec (.poll x) s = .next t ∧ t.tables = s.tables ∧
        ((s.stationAt o).stack = [] → Answers s t op ⟨[.pollEmpty], .ok⟩) ∧
        ∀ n rest, (s.stationAt o).stack = n :: rest →
          Answers s t op ⟨[.noticeKind n.kind, .num n.patron, .num n.value, .noticeOutcome n.outcome, .num n.tag], .ok⟩ ∧
            (op.handed = [] →
              (t.stationAt o).stack = rest ∧ (t.lane o.lane).offer = (s.lane o.lane).offer.noteTaken o.station n))

/-! ## Holds -/

/-- The offer of a copy to a RESIDENT title (R94): the first WAITING entry in queue order becomes READY with the copy
and the deadline and TRAPPED is posted, or the shelf count rises, up to 255 with COUNT_CLAMP logged there, and
COPY_RELEASED is posted; no other title and no other entry changes. -/
def Obligations.OfferGoesToTheFirstWaitingEntry : Prop :=
  ∀ (s : State) tslot t copy ret, s.upsets = [] → s.titleAt tslot = some t →
    let r := s.offerCopy tslot copy ret
    let deadline := s.calendar.openDay (s.today + s.schedule.globals.pickupDays)
    let shelf := if 255 ≤ t.shelf then t.shelf else t.shelf + 1
    let posts (n : Notice) := ∀ op, s.engine = .busy op → op.waiting = [] → 1 ≤ op.reservation → n ∈ r.1.link.outbound
    (∀ i h, s.firstWaiting t = some (i, h) →
      r.2 = true ∧ Tbl.lookup r.1.pool i.slot = some (.entry { h with state := .ready deadline copy }) ∧
      (∀ n, n ≠ i.slot → Tbl.lookup r.1.pool n = Tbl.lookup s.pool n) ∧
      r.1.titleAt tslot = some { t with waiting := t.waiting - 1, ready := t.ready + 1 } ∧
      posts (.trapped t.id h.patron h.branch deadline copy ret)) ∧
    (s.firstWaiting t = none →
      r.2 = false ∧ r.1.pool = s.pool ∧ r.1.titleAt tslot = some { t with shelf := shelf } ∧
      (255 ≤ t.shelf → r.1.faults.has .countClamp = true) ∧ posts (.copyReleased t.id copy ret shelf)) ∧
    (∀ n, n ≠ tslot → Tbl.lookup r.1.titles n = Tbl.lookup s.titles n) ∧
    r.1.patrons = s.patrons ∧ r.1.loans = s.loans

/-- The removal of an entry (R111): the item leaves the queue and the items behind it keep their order; the waiting
count falls with a WAITING entry and the ready count with a READY one, and neither with a SUSPENDED entry or a DAMAGED
one, which no count holds (R110, R137); the pool slot is FREE; the title leaves the owner's hold list when that record
is RESIDENT, and no patron record changes when it is DAMAGED, in another state or absent; HOLD_CHANGE with the reason,
the patron id of the item and position 0 is posted, with one reserved entry; and nothing else changes. That the removal
leaves the owner's last activity day is the model's reading (notes/assumptions/29.md); that each listing of a title
leaves, and whichever of a patron's two items is removed, are its choices (70.md, 71.md). -/
def Obligations.RemovalTakesTheEntryOutEverywhere : Prop :=
  ∀ (s : State) tslot t i reason, s.upsets = [] → s.titleAt tslot = some t →
    let u := s.removeEntry tslot t.id i reason
    let left (waiting ready : Nat) : Title :=
      { t with queue := t.queue.filter fun j => j.slot != i.slot, waiting := waiting, ready := ready }
    u.titleAt tslot = some (t.without i.slot ((s.holdAt i.slot).map Hold.state)) ∧
    (s.holdAt i.slot = none → u.titleAt tslot = some (left t.waiting t.ready)) ∧
    (∀ h, s.holdAt i.slot = some h →
      (h.state = .waiting → u.titleAt tslot = some (left (t.waiting - 1) t.ready)) ∧
      (∀ day, h.state = .suspended day → u.titleAt tslot = some (left t.waiting t.ready)) ∧
      ∀ deadline copy, h.state = .ready deadline copy → u.titleAt tslot = some (left t.waiting (t.ready - 1))) ∧
    (∀ n, n ≠ tslot → Tbl.lookup u.titles n = Tbl.lookup s.titles n) ∧
    Tbl.lookup u.pool i.slot = none ∧ (∀ n, n ≠ i.slot → Tbl.lookup u.pool n = Tbl.lookup s.pool n) ∧
    (∀ pslot p, s.findPatron i.patron = some pslot → s.patronAt pslot = some p →
      u.patronAt pslot = some { p with holds := p.holds.filter (· != t.id) } ∧
        ∀ n, n ≠ pslot → Tbl.lookup u.patrons n = Tbl.lookup s.patrons n) ∧
    ((∀ pslot, s.findPatron i.patron = some pslot → s.patronAt pslot = none) → u.patrons = s.patrons) ∧
    u.tables = { s.tables with patrons := u.patrons, titles := u.titles, pool := u.pool } ∧
    ∀ op, s.engine = .busy op → op.waiting = [] → 1 ≤ op.reservation →
      u = { s with
        patrons := u.patrons, titles := u.titles, pool := u.pool
        engine := .busy { op with reservation := op.reservation - 1 }
        link := { s.link with outbound := s.link.outbound ++ [.holdChange t.id i.patron reason 0] } }

/-- PLACE_HOLD, and HOLD_PLACE, that passes the checks of R89 makes the entry of R90: SUSPENDED until the day as lowered,
READY from the shelf, or WAITING; in the lowest FREE pool slot, at the end of the queue and of the patron's hold list.
HOLD_CHANGE is posted, and TRAPPED for an entry trapped from the shelf. PLACE_HOLD is answered OK with the position;
HOLD_PLACE is confirmed OK, or CLAMPED when the until-day was lowered, with the entry's state and position. -/
def Obligations.PlacementMakesTheEntry : Prop :=
  ∀ (s : State) (op : Op) (x : Crossing) id title branch until_ slot u p tslot t n,
    u.mayHold p title → u.findTitle title = some tslot →
    u.titleAt tslot = some t → t.queue.length < 255 → Tbl.firstFree u.pool 8192 = some n →
    (∀ d, until_ = some d → u.today < d) →
    let deadline := u.calendar.openDay (u.today + u.schedule.globals.pickupDays)
    let stored (d : Nat) := min (min d (u.today + 180)) 65534
    let st : HoldState :=
      match until_ with
      | some d => .suspended (stored d)
      | none => if 0 < t.shelf then .ready deadline none else .waiting
    let made (v : State) :=
      Tbl.lookup v.pool n = some (.entry ⟨p.id, title, branch, u.today, st⟩) ∧
      v.titleAt tslot = some (t.with ⟨n, p.id⟩ st) ∧
      v.patronAt slot = some { p with holds := p.holds ++ [title] } ∧
      .holdChange title p.id st.change (v.changePosition tslot n st) ∈ v.link.outbound ∧
      (st = .ready deadline none → .trapped title p.id branch deadline none none ∈ v.link.outbound) ∧
      (∀ k, k ≠ n → Tbl.lookup v.pool k = Tbl.lookup u.pool k) ∧
      (∀ k, k ≠ tslot → Tbl.lookup v.titles k = Tbl.lookup u.titles k) ∧
      (∀ k, k ≠ slot → Tbl.lookup v.patrons k = Tbl.lookup u.patrons k) ∧
      v.loans = u.loans ∧ v.tags = u.tags ∧ v.tagLine = u.tagLine ∧ v.calendar = u.calendar ∧ v.schedule = u.schedule ∧ v.sweep = u.sweep
    (∀ rest, Serves s op x .placeHold (id :: title :: branch :: rest) slot u p → rest[0]? = until_ → 3 ≤ op.reservation →
      ∃ v, exec (.placeHold x) s = .next v ∧ made v ∧
        Answers s v op ⟨[.outcome .placeHold .ok, .num (v.changePosition tslot n st)], .ok⟩) ∧
    (Names s op x (.holdPlace id title branch until_) id slot u p → title ≠ 0 → branch ≤ 63 → 4 ≤ op.reservation →
      ∃ v, exec (.holdPlace x) s = .next v ∧ made v ∧
        Confirms s v 10 (if until_.any (fun d => decide (stored d < d)) then .clamped else .ok)
          [⟨1, st.change.number⟩, ⟨1, v.changePosition tslot n st⟩])

/-- PLACE_HOLD on an absent title parks the placement (R91): a TITLE_FETCH tag with the placement and the origin, a FETCHING
title record in the lowest FREE slot, FETCH_TITLE, the station's parked count raised by 1, and PENDING; no entry and no hold
list changes. The station's stacked notices and parked operations are below 2 together then (R154). That a lane cut after the
grant counts nothing, and the tag's deadline held as a timeout, are the model's (notes/assumptions/33.md, 38.md). -/
def Obligations.PlacementOnAnAbsentTitleIsParked : Prop :=
  ∀ (s : State) (op : Op) (x : Crossing) id title branch rest slot u p o (n : Fin 32) tslot,
    Serves s op x .placeHold (id :: title :: branch :: rest) slot u p → 3 ≤ op.reservation → op.origin = some o →
    p.blocked = false → title ∉ p.holds → (∀ k ∈ p.loans, ∀ l, u.loanAt k = some l → l.title ≠ title) →
    p.holds.length < (u.schedule.category p.category).holdLimit → u.findTitle title = none →
    (u.stationAt o).stack.length + (u.stationAt o).parked < 2 → (∀ d, rest[0]? = some d → u.today < d) →
    u.freeTag = some n →
    Tbl.firstFree u.titles 2048 = some tslot →
    ∃ v, exec (.placeHold x) s = .next v ∧
      (let gen := ((u.tags.get n).gen + 1) % 16
       Tbl.lookup v.titles tslot = some (.fetching title ⟨n.val, gen⟩) ∧
       v.tags.get n = ⟨.outstanding, gen, false,
         some ⟨.titleFetch, title, 0, some o, some ⟨p.id, branch, rest[0]?⟩, u.schedule.globals.tagTimeout⟩, gen⟩ ∧
       .fetchTitle ⟨n.val, gen⟩ title ∈ v.link.outbound) ∧
      (op.handed = [] → RaisesParked s v o) ∧
      (∀ k, k ≠ tslot → Tbl.lookup v.titles k = Tbl.lookup u.titles k) ∧
      (∀ k, k ≠ n → v.tags.get k = u.tags.get k) ∧
      v.patrons = u.patrons ∧ v.loans = u.loans ∧ v.pool = u.pool ∧ v.calendar = u.calendar ∧
      v.schedule = u.schedule ∧ v.sweep = u.sweep ∧
      Answers s v op ⟨[.outcome .placeHold .pending, .num 0], .pending⟩

/-- CANCEL_HOLD and HOLD_CANCEL of an entry that passes the checks of R100: the entry is removed as CANCELLED with its
HOLD_CHANGE, a READY entry's copy is offered on from its pickup branch with TRAPPED or COPY_RELEASED, and nothing else
of the tables changes after the catch-up. The first failing check refuses either with NOT_FOUND or DAMAGED, and the
tables stay as the catch-up left them. That a listed title whose queue has no entry of the patron is NOT_FOUND, and that
the refusing CONFIRM carries no fields, are the model's readings (notes/assumptions/35.md, 24.md). That of two items of
one patron the first in queue order is the patron's entry is its choice (71.md). -/
def Obligations.CancellationRemovesAndOffersOn : Prop :=
  (∀ (s : State) (op : Op) (x : Crossing) id title slot u p r, u.refusesEntry p title r →
    (Serves s op x .cancelHold [id, title] slot u p → 3 ≤ op.reservation →
      ∃ y, exec (.cancelHold x) s = .next y ∧ y.tables = u.tables ∧
        Answers s y op ⟨[.outcome .cancelHold (.refused r)], .refused r⟩) ∧
    (Names s op x (.holdCancel id title) id slot u p → 4 ≤ op.reservation →
      ∃ y, exec (.holdCancel x) s = .next y ∧ y.tables = u.tables ∧ Confirms s y 11 r.status [])) ∧
  ∀ (s : State) (op : Op) (x : Crossing) id title slot u p tslot t i h, title ∈ p.holds → u.findTitle title = some tslot →
    u.titleAt tslot = some t → t.itemOf p.id = some i → u.holdAt i.slot = some h →
    (let v := u.removeEntry tslot title i .cancelled
     let w :=
      match h.state with
      | .ready _ copy => (v.offerCopy tslot copy (some h.branch)).1
      | _ => v
     let posted (y : State) :=
      .holdChange title p.id .cancelled 0 ∈ y.link.outbound ∧
        ∀ deadline copy left, h.state = .ready deadline copy → v.titleAt tslot = some left →
          (∀ j g, v.firstWaiting left = some (j, g) →
            .trapped title g.patron g.branch (u.calendar.openDay (u.today + u.schedule.globals.pickupDays)) copy
              (some h.branch) ∈ y.link.outbound) ∧
          (v.firstWaiting left = none →
            .copyReleased title copy (some h.branch) (if 255 ≤ left.shelf then left.shelf else left.shelf + 1) ∈
              y.link.outbound)
     (Serves s op x .cancelHold [id, title] slot u p → 3 ≤ op.reservation →
       ∃ y, exec (.cancelHold x) s = .next y ∧ y.tables = w.tables ∧ posted y ∧
        Answers s y op ⟨[.outcome .cancelHold .ok], .ok⟩) ∧
     (Names s op x (.holdCancel id title) id slot u p → 4 ≤ op.reservation →
       ∃ y, exec (.holdCancel x) s = .next y ∧ y.tables = w.tables ∧ posted y ∧
        Confirms s y 11 .ok [⟨1, h.state.change.number⟩]))

/-- SUSPEND_HOLD of a WAITING or SUSPENDED entry to a day after today (R101): SUSPENDED until the day as lowered, the
waiting count falls for a WAITING entry, HOLD_CHANGE with the position is posted, and nothing else changes after the
catch-up; a READY entry gives WRONG_STATE, another entry with a day at or before today BAD_FIELD, and the first failing
check of R100 NOT_FOUND or DAMAGED, each with the day 0 and the tables as the catch-up left them. That a listed title
whose queue has no entry of the patron is NOT_FOUND is the model's reading (notes/assumptions/35.md). That of two items
of one patron the first in queue order is the patron's entry is its choice (71.md). -/
def Obligations.SuspensionKeepsThePlaceInTheQueue : Prop :=
  (∀ (s : State) (op : Op) (x : Crossing) id title day slot u p r, Serves s op x .suspendHold [id, title, day] slot u p →
    3 ≤ op.reservation → u.refusesEntry p title r →
    ∃ v, exec (.suspendHold x) s = .next v ∧ v.tables = u.tables ∧
      Answers s v op ⟨[.outcome .suspendHold (.refused r), .num 0], .refused r⟩) ∧
  ∀ (s : State) (op : Op) (x : Crossing) id title day slot u p tslot t i h, Serves s op x .suspendHold [id, title, day] slot u p →
    3 ≤ op.reservation → title ∈ p.holds → u.findTitle title = some tslot → u.titleAt tslot = some t →
    t.itemOf p.id = some i → u.holdAt i.slot = some h →
    (h.isReady = true →
      ∃ v, exec (.suspendHold x) s = .next v ∧ v.tables = u.tables ∧
        Answers s v op ⟨[.outcome .suspendHold (.refused .wrongState), .num 0], .refused .wrongState⟩) ∧
    (h.isReady = false → day ≤ u.today →
      ∃ v, exec (.suspendHold x) s = .next v ∧ v.tables = u.tables ∧
        Answers s v op ⟨[.outcome .suspendHold (.refused .badField), .num 0], .refused .badField⟩) ∧
    (h.isReady = false → u.today < day →
      ∃ v, exec (.suspendHold x) s = .next v ∧
        (let stored := min (min day (u.today + 180)) 65534
         Tbl.lookup v.pool i.slot = some (.entry { h with state := .suspended stored }) ∧
         v.titleAt tslot = some { t with waiting := if h.isWaiting then t.waiting - 1 else t.waiting } ∧
         .holdChange title p.id .suspended (v.changePosition tslot i.slot (.suspended stored)) ∈ v.link.outbound ∧
         Answers s v op ⟨[.outcome .suspendHold .ok, .num stored], .ok⟩) ∧
        (∀ k, k ≠ i.slot → Tbl.lookup v.pool k = Tbl.lookup u.pool k) ∧
        (∀ k, k ≠ tslot → Tbl.lookup v.titles k = Tbl.lookup u.titles k) ∧
        v.patrons = u.patrons ∧ v.loans = u.loans ∧ v.tags = u.tags ∧ v.tagLine = u.tagLine ∧ v.calendar = u.calendar ∧
        v.schedule = u.schedule ∧ v.sweep = u.sweep)

/-- RESUME_HOLD of a SUSPENDED entry (R102): HOLD_CHANGE (WAITING) with the position is posted; with an empty shelf the
entry is WAITING and the waiting count rises; with a shelf copy it is trapped at once, READY with no copy id, the shelf
count falls, and TRAPPED is posted. A WAITING or READY entry gives WRONG_STATE, and the first failing check of R100
NOT_FOUND or DAMAGED, and the tables stay as the catch-up left them. That a listed title whose queue has no entry of the
patron is NOT_FOUND is the model's reading (notes/assumptions/35.md). That of two items of one patron the first in queue
order is the patron's entry is its choice (71.md). -/
def Obligations.ResumptionWaitsOrTakesTheShelfCopy : Prop :=
  (∀ (s : State) (op : Op) (x : Crossing) id title slot u p r, Serves s op x .resumeHold [id, title] slot u p →
    3 ≤ op.reservation →
    (u.refusesEntry p title r ∨
      title ∈ p.holds ∧ r = .wrongState ∧
        ∃ tslot t i h, u.findTitle title = some tslot ∧ u.titleAt tslot = some t ∧ t.itemOf p.id = some i ∧
          u.holdAt i.slot = some h ∧ (h.isWaiting = true ∨ h.isReady = true)) →
    ∃ v, exec (.resumeHold x) s = .next v ∧ v.tables = u.tables ∧
      Answers s v op ⟨[.outcome .resumeHold (.refused r)], .refused r⟩) ∧
  ∀ (s : State) (op : Op) (x : Crossing) id title day slot u p tslot t i h, Serves s op x .resumeHold [id, title] slot u p →
    3 ≤ op.reservation → title ∈ p.holds → u.findTitle title = some tslot → u.titleAt tslot = some t →
    t.itemOf p.id = some i → u.holdAt i.slot = some h → h.state = .suspended day →
    let deadline := u.calendar.openDay (u.today + u.schedule.globals.pickupDays)
    ∃ v, exec (.resumeHold x) s = .next v ∧
      .holdChange title p.id .waiting (v.changePosition tslot i.slot .waiting) ∈ v.link.outbound ∧
      (t.shelf = 0 →
        Tbl.lookup v.pool i.slot = some (.entry { h with state := .waiting }) ∧
        v.titleAt tslot = some { t with waiting := t.waiting + 1 }) ∧
      (0 < t.shelf →
        Tbl.lookup v.pool i.slot = some (.entry { h with state := .ready deadline none }) ∧
        v.titleAt tslot = some { t with shelf := t.shelf - 1, ready := t.ready + 1 } ∧
        .trapped title h.patron h.branch deadline none none ∈ v.link.outbound) ∧
      (∀ k, k ≠ i.slot → Tbl.lookup v.pool k = Tbl.lookup u.pool k) ∧
      (∀ k, k ≠ tslot → Tbl.lookup v.titles k = Tbl.lookup u.titles k) ∧
      v.patrons = u.patrons ∧ v.loans = u.loans ∧ v.tags = u.tags ∧ v.tagLine = u.tagLine ∧ v.calendar = u.calendar ∧
      v.schedule = u.schedule ∧ v.sweep = u.sweep ∧ Answers s v op ⟨[.outcome .resumeHold .ok], .ok⟩

/-! ## Calendar and days -/

/-- The open-day search (R43) with R37's reading of the marks: beyond day 65,534 and below the window the base decides;
otherwise the result is the first day from the base on that is not marked CLOSED inside the window, at most the day
after the window's top, and at most 65,534. -/
def Obligations.OpenDaySearchFindsTheFirstOpenDay : Prop :=
  ∀ (c : Calendar) (b : Nat),
    (65534 < b → c.openDay b = 65534) ∧
    (b + 31 < c.closeDay → b ≤ 65534 → c.openDay b = b) ∧
    (b ≤ 65534 → ∃ d, b ≤ d ∧ d ≤ max b (c.closeDay + 65) ∧ c.openDay b = min d 65534 ∧
      (∀ k, b ≤ k → k < d →
        Tbl.lookup c.marks k = some .closed ∧ c.closeDay ≤ k + 31 ∧ k ≤ c.closeDay + 64 ∧ k ≤ 65534) ∧
      ¬ (Tbl.lookup c.marks d = some .closed ∧ c.closeDay ≤ d + 31 ∧ d ≤ c.closeDay + 64 ∧ d ≤ 65534))

/-- DAY_CLOSE (R40): the day is clamped to 65,534; a day at or before C is STALE and changes nothing; a later one moves C and
the window, in which every day above the old window's top is UNKNOWN (R41), and starts or restarts the sweep (R42, R130,
R141). Only its CONFIRM is posted. -/
def Obligations.DayCloseAdvancesOrIsStale : Prop :=
  ∀ (s : State) (op : Op) (x : Crossing) given, Performs s op x (.dayClose given) → 1 ≤ op.reservation →
    let day := min given 65534
    let old := s.calendar.closeDay
    s.noticeNeed op.kind = 4 ∧
    ∃ t, exec (.dayClose x) s = .next t ∧
      t.patrons = s.patrons ∧ t.loans = s.loans ∧ t.titles = s.titles ∧ t.pool = s.pool ∧ t.schedule = s.schedule ∧
      t.tags = s.tags ∧ t.tagLine = s.tagLine ∧
      (day ≤ old →
        t.calendar = s.calendar ∧ t.sweep = s.sweep ∧ Confirms s t 6 .stale [⟨2, old⟩, ⟨2, 0⟩] ∧
        (x.claims = [] → t.link.outbound = s.link.outbound ++ [.confirm s.headSeq 6 .stale [⟨2, old⟩, ⟨2, 0⟩]])) ∧
      (old < day →
        t.calendar.closeDay = day ∧
        (∀ k, Tbl.lookup t.calendar.marks k =
          if day ≤ k + 31 ∧ k ≤ day + 64 ∧ k ≤ 65534 then Tbl.lookup s.calendar.marks k else none) ∧
        (∀ k, old + 64 < k → Tbl.lookup t.calendar.marks k = none) ∧
        t.sweep = { s.sweep with
          state := .loans, phase := .evaluating, cursor := 0, target := day, complete := false,
          current :=
            if s.sweep.state = .idle then { Summary.zero with closeDay := day }
            else { s.sweep.current with closeDay := day, restarts := min 65535 (s.sweep.current.restarts + 1) } } ∧
        (let status : Status := if 65534 < given then .clamped else .ok
         Confirms s t 6 status [⟨2, day⟩, ⟨2, day - old⟩] ∧
         (x.claims = [] →
          t.link.outbound = s.link.outbound ++ [.confirm s.headSeq 6 status [⟨2, day⟩, ⟨2, day - old⟩]])))

/-- CALENDAR (R38): a count outside 1 to 64, a list of another length or an unknown mark is BAD_MESSAGE, whose CONFIRM
carries no fields (the model's reading, notes/assumptions/24.md); otherwise each day inside the window takes its mark,
the others are clipped, and the CONFIRM counts both. Nothing else changes. -/
def Obligations.CalendarSetsTheDaysInsideTheWindow : Prop :=
  ∀ (s : State) (op : Op) (x : Crossing) first count values, Performs s op x (.calendar first count values) →
    1 ≤ op.reservation →
    ∃ t, exec (.calendar x) s = .next t ∧ t.patrons = s.patrons ∧ t.loans = s.loans ∧ t.titles = s.titles ∧
      t.pool = s.pool ∧ t.schedule = s.schedule ∧ t.sweep = s.sweep ∧ t.tags = s.tags ∧ t.tagLine = s.tagLine ∧
      t.calendar.closeDay = s.calendar.closeDay ∧
      (count = 0 ∨ 64 < count ∨ values.length ≠ count ∨ (∃ v ∈ values, 1 < v) →
        t.calendar = s.calendar ∧ Confirms s t 7 .badMessage []) ∧
      (1 ≤ count → count ≤ 64 → values.length = count → (∀ v ∈ values, v ≤ 1) →
        (∀ k, Tbl.lookup t.calendar.marks k =
          if first ≤ k ∧ k < first + count ∧ s.calendar.inWindow k = true then
            (if values[k - first]? = some 0 then some .open_ else some .closed)
          else Tbl.lookup s.calendar.marks k) ∧
        (let set := ((List.range count).filter fun i => s.calendar.inWindow (first + i)).length
         let status : Status := if set = count then .ok else .clipped
         Confirms s t 7 status [⟨1, set⟩, ⟨1, count - set⟩] ∧
         (x.claims = [] →
          t.link.outbound = s.link.outbound ++ [.confirm s.headSeq 7 status [⟨1, set⟩, ⟨1, count - set⟩]])))

/-! ## Schedule -/

/-- SCHEDULE (R47, R48, R50, R51): every value is brought into its range, the whole set is stored in its target, no
other set and no other table changes, and the CONFIRM carries the clamped count and the set as stored. A target kind that
does not exist, a class or category above 7, a GLOBAL number other than 0 and a wrong count of values are BAD_MESSAGE and
change no set; that this CONFIRM carries no fields is the model's reading (notes/assumptions/24.md). -/
def Obligations.ScheduleStoresTheSetInRange : Prop :=
  ∀ (s : State) (op : Op) (x : Crossing) target number values stored,
    Performs s op x (.schedule target number values) → 1 ≤ op.reservation →
    (∃ t, exec (.schedule x) s = .next t ∧ t.patrons = s.patrons ∧ t.loans = s.loans ∧ t.titles = s.titles ∧
      t.pool = s.pool ∧ t.calendar = s.calendar ∧ t.sweep = s.sweep ∧ t.tags = s.tags ∧ t.tagLine = s.tagLine ∧
      (let clamped := ((stored.zip values).filter fun e => e.1 != e.2).length
       let confirmed :=
         Confirms s t 8 (if clamped = 0 then .ok else .clamped) (⟨1, clamped⟩ :: stored.map fun v => ⟨4, v⟩)
       (∀ (n : Fin 8) a b c d e f g, target = 0 → number = n.val → values = [a, b, c, d, e, f, g] →
          stored = [min a 500, min b 7, min c 50000, max 1 (min d 90), min e 15, min f 30, min g 15] →
          t.schedule.classes.get n =
              ⟨min a 500, min b 7, min c 50000, max 1 (min d 90), min e 15, min f 30, min g 15⟩ ∧
            (∀ k, k ≠ n → t.schedule.classes.get k = s.schedule.classes.get k) ∧
            t.schedule.categories = s.schedule.categories ∧ t.schedule.globals = s.schedule.globals ∧ confirmed) ∧
       (∀ (n : Fin 8) a b c, target = 1 → number = n.val → values = [a, b, c] →
          stored = [min a 200, min b 999999, min c 32] →
          t.schedule.categories.get n = ⟨min a 200, min b 999999, min c 32⟩ ∧
            (∀ k, k ≠ n → t.schedule.categories.get k = s.schedule.categories.get k) ∧
            t.schedule.classes = s.schedule.classes ∧ t.schedule.globals = s.schedule.globals ∧ confirmed) ∧
       (∀ a b, target = 2 → number = 0 → values = [a, b] → stored = [max 1 (min a 14), max 5 (min b 60)] →
          t.schedule.globals = ⟨max 1 (min a 14), max 5 (min b 60)⟩ ∧
            t.schedule.classes = s.schedule.classes ∧ t.schedule.categories = s.schedule.categories ∧ confirmed) ∧
       (2 < target ∨ (target < 2 ∧ 7 < number) ∨ (target = 2 ∧ number ≠ 0) ∨
          values.length ≠ (if target = 0 then 7 else if target = 1 then 3 else 2) →
          t.schedule = s.schedule ∧ Confirms s t 8 .badMessage [])))

/-! ## The catalogue's messages about patrons, loans and titles -/

/-- LOAN_OPEN (R28 to R30): the first failing check refuses it and changes no table after the catch-up. Otherwise the
lowest FREE slot, or for the restore form the copy's own DAMAGED slot, which every list first gives up, becomes the loan
at the end of the patron's list, and the CONFIRM carries OK, or CLAMPED when the charged-through day was lowered. The
shelf count of a RESIDENT title falls (R99); with the pickup flag the patron's READY entry is filled, or HOLD_MISMATCH
is logged and the shelf count falls (R98). The model's choices: a pickup flag of 2 to 255 counts as set
(notes/assumptions/25.md), a refusal's CONFIRM carries no fields (24.md), of two items of one patron the first in queue
order is the patron's entry (71.md), and its removal takes every listing of the title (70.md). -/
def Obligations.LoanOpenMakesTheLoan : Prop :=
  (∀ (s : State) (op : Op) (x : Crossing) copy title patron cls due pickup restore,
    Performs s op x (.loanOpen copy title patron cls due pickup restore) → 1 ≤ op.reservation →
    let refused (status : Status) :=
      ∃ t, exec (.loanOpen x) s = .next t ∧ t.tables = s.tables ∧ Confirms s t 1 status []
    (loanFieldsOk copy title patron cls due restore = false → refused .badMessage) ∧
    (loanFieldsOk copy title patron cls due restore = true → s.findPatron patron = none → refused .unknownPatron)) ∧
  ∀ (s : State) (op : Op) (x : Crossing) copy title patron cls due pickup restore slot u p,
    Names s op x (.loanOpen copy title patron cls due pickup restore) patron slot u p → 4 ≤ op.reservation →
    loanFieldsOk copy title patron cls due restore = true →
    let closeDay := s.calendar.closeDay
    let opened : Loan :=
      match restore with
      | none => ⟨copy, title, slot, cls, due, 0, 0, closeDay, 0⟩
      | some r => ⟨copy, title, slot, cls, due, r.used, r.overdue, min r.charged closeDay, r.accrued⟩
    let status : Status :=
      match restore with
      | none => .ok
      | some r => if closeDay < r.charged then .clamped else .ok
    let refused (status : Status) :=
      ∃ t, exec (.loanOpen x) s = .next t ∧ t.tables = u.tables ∧ Confirms s t 1 status []
    (∀ n l, u.findCopy copy = some n → u.loanAt n = some l → refused .copyOnLoan) ∧
    (∀ n c, u.findCopy copy = some n → Tbl.lookup u.loans n = some (.damaged c) →
      (restore = none → refused .damaged) ∧
      (restore ≠ none → 64 ≤ p.loans.length → n ∉ p.loans → refused .loanLimit)) ∧
    (u.findCopy copy = none →
      (64 ≤ p.loans.length → refused .loanLimit) ∧
      (p.loans.length < 64 → Tbl.firstFree u.loans 16384 = none → refused .loanTableFull)) ∧
    ∀ n overwrites,
      (overwrites = false ∧ u.findCopy copy = none ∧ p.loans.length < 64 ∧ Tbl.firstFree u.loans 16384 = some n ∨
        overwrites = true ∧ u.findCopy copy = some n ∧ (∃ c, Tbl.lookup u.loans n = some (.damaged c)) ∧
          restore ≠ none ∧ (p.loans.length < 64 ∨ n ∈ p.loans)) →
      let cleared (l : List Nat) := if overwrites then l.filter (· != n) else l
      let listed : Patron := { p with loans := cleared p.loans ++ [n] }
      ∃ t, exec (.loanOpen x) s = .next t ∧
        Tbl.lookup t.loans n = some (.active opened) ∧
        (∀ k, k ≠ n → Tbl.lookup t.loans k = Tbl.lookup u.loans k) ∧
        (∀ k, k ≠ slot → Tbl.lookup t.patrons k =
          match Tbl.lookup u.patrons k with
          | some (.resident q) => some (.resident { q with loans := cleared q.loans })
          | r => r) ∧
        t.tags = u.tags ∧ t.tagLine = u.tagLine ∧ t.calendar = u.calendar ∧ t.schedule = u.schedule ∧ t.sweep = u.sweep ∧
        Confirms s t 1 status [⟨2, n⟩] ∧
        (let lowered (k : Nat) (tt : Title) :=
          t.patronAt slot = some listed ∧ t.pool = u.pool ∧ t.titleAt k = some { tt with shelf := tt.shelf - 1 } ∧
            (tt.shelf = 0 → t.faults.has .countClamp = true) ∧
            ∀ j, j ≠ k → Tbl.lookup t.titles j = Tbl.lookup u.titles j
         let kept := t.patronAt slot = some listed ∧ t.pool = u.pool ∧ t.titles = u.titles
         (pickup = 0 →
          (u.residentTitle title = none → kept) ∧
          ∀ k tt, u.findTitle title = some k → u.titleAt k = some tt → lowered k tt) ∧
         (pickup ≠ 0 →
          (u.residentTitle title = none → kept ∧ t.faults.has .holdMismatch = true) ∧
          ∀ k tt, u.findTitle title = some k → u.titleAt k = some tt →
            ((∀ i h, tt.itemOf patron = some i → u.holdAt i.slot = some h → h.isReady = false) →
              lowered k tt ∧ t.faults.has .holdMismatch = true) ∧
            ∀ i h, tt.itemOf patron = some i → u.holdAt i.slot = some h → h.isReady = true →
              t.patronAt slot = some { listed with holds := p.holds.filter (· != title) } ∧
              Tbl.lookup t.pool i.slot = none ∧ (∀ j, j ≠ i.slot → Tbl.lookup t.pool j = Tbl.lookup u.pool j) ∧
              t.titleAt k = some (tt.without i.slot (some h.state)) ∧
              (∀ j, j ≠ k → Tbl.lookup t.titles j = Tbl.lookup u.titles j) ∧
              .holdChange title patron .filled 0 ∈ t.link.outbound))

/-- RETURN (R31, R96): the copy's ACTIVE loan is evaluated and ends, or its DAMAGED slot is freed and leaves every loan
list, or there is none; the loan of a DAMAGED patron ends with no evaluation. The copy is offered to the title named, and
the CONFIRM carries the ending, the patron, the accrued fine and the offer. A RETURN whose fields are out of range is
BAD_MESSAGE and changes nothing. That its CONFIRM then carries no fields, and that the patron id is 0 where a DAMAGED
patron slot has lost its id, is the model's (notes/assumptions/24.md, 50.md). A BALANCE with the new values is posted when
the evaluation charged, and none otherwise (R31, R125). -/
def Obligations.ReturnEndsTheLoanAndOffersTheCopy : Prop :=
  ∀ (s : State) (op : Op) (x : Crossing) copy title branch, Performs s op x (.returnCopy copy title branch) →
    4 ≤ op.reservation →
    (copy = 0 ∨ title = 0 ∨ 63 < branch →
      ∃ t, exec (.returnCopy x) s = .next t ∧ t.tables = s.tables ∧ SameBalances s t ∧
        Confirms s t 2 .badMessage []) ∧
    (copy ≠ 0 → title ≠ 0 → branch ≤ 63 →
     ∃ t, exec (.returnCopy x) s = .next t ∧
      t.tags = s.tags ∧ t.tagLine = s.tagLine ∧ t.calendar = s.calendar ∧ t.schedule = s.schedule ∧ t.sweep = s.sweep ∧
      (s.residentTitle title = none → t.titles = s.titles ∧ t.pool = s.pool) ∧
      (∀ k tt, s.findTitle title = some k → s.titleAt k = some tt →
        t.titles = (s.offerCopy k (some copy) (some branch)).1.titles ∧
        t.pool = (s.offerCopy k (some copy) (some branch)).1.pool) ∧
      (let offer :=
        match s.residentTitle title with
        | none => 2
        | some tt => if (s.firstWaiting tt).isSome then 0 else 1
       let confirmed (ending patron accrued : Nat) :=
        Confirms s t 2 .ok [⟨1, ending⟩, ⟨4, patron⟩, ⟨4, accrued⟩, ⟨1, offer⟩]
       (s.findCopy copy = none →
        t.loans = s.loans ∧ t.patrons = s.patrons ∧ SameBalances s t ∧ confirmed 2 0 0) ∧
       ∀ n, s.findCopy copy = some n →
        (∀ c, Tbl.lookup s.loans n = some (.damaged c) →
          Tbl.lookup t.loans n = none ∧ (∀ k, k ≠ n → Tbl.lookup t.loans k = Tbl.lookup s.loans k) ∧
          (∀ k, Tbl.lookup t.patrons k =
            match Tbl.lookup s.patrons k with
            | some (.resident q) => some (.resident { q with loans := q.loans.filter (· != n) })
            | r => r) ∧
          SameBalances s t ∧ confirmed 1 0 0) ∧
        (∀ l id, s.loanAt n = some l → Tbl.lookup s.patrons l.patronSlot = some (.damaged id) →
          Tbl.lookup t.loans n = none ∧ (∀ k, k ≠ n → Tbl.lookup t.loans k = Tbl.lookup s.loans k) ∧
          t.patrons = s.patrons ∧ SameBalances s t ∧ confirmed 0 id l.accrued) ∧
        ∀ l p w, s.loanAt n = some l → s.patronAt l.patronSlot = some p →
          w = s.walkLoan l p → l.charged ≤ s.calendar.closeDay →
          Tbl.lookup t.loans n = none ∧ (∀ k, k ≠ n → Tbl.lookup t.loans k = Tbl.lookup s.loans k) ∧
          (∀ k, k ≠ l.patronSlot → Tbl.lookup t.patrons k = Tbl.lookup s.patrons k) ∧
          t.patronAt l.patronSlot = some { p with
            balance := w.balance, loans := p.loans.filter (· != n), lastDay := s.today,
            blocked := if 0 < w.balanceAdded then s.blockDue { p with balance := w.balance } else p.blocked } ∧
          (0 < w.balanceAdded →
            .balance p.id w.balance p.pending (s.blockDue { p with balance := w.balance }) ∈ t.link.outbound) ∧
          (w.balanceAdded = 0 → SameBalances s t) ∧
          confirmed 0 p.id w.accrued))

/-- PATRON_LOAD acts by the record's state (R20, R21, R22, R25): a tagged one whose tag matches nothing is STALE_TAG and
changes nothing, and a matched one retires its tag first (R149). Found, it makes an absent, FETCHING or UNKNOWN patron
RESIDENT, sets the category of a RESIDENT one after the catch-up, and restores a DAMAGED one with its loans, its holds
and its reserves. Not found, it makes a FETCHING or UNKNOWN record UNKNOWN, and leaves a RESIDENT one, or a DAMAGED one
when it is untagged, WRONG_STATE. The model's choices: a found flag of 2 to 255 counts as set (notes/assumptions/25.md),
no fields in a CONFIRM (24.md), the activity days of a not-found load (28.md), a matched load of an absent or UNKNOWN
record (30.md), and a DAMAGED fetch tag, which is not retired with the FETCHING record it made but left to its own
expiry (31.md). A restoration whose reserves together exceed 999,999 leaves the balance at their sum, above that
ceiling, as R25 step 2 says against R13: the model's choice (67.md). A title whose queue holds two items of the patron
is listed twice, and the list may pass 32, as R25 step 4 says against R13: the model's choice (70.md). A BALANCE is
posted for a newly RESIDENT record that was clamped or is blocked, for a restored one, and for a category change that
moves the flag (R20, R21, R25, R125): it coalesces, or takes an entry free beyond the reservation (the model's reading,
14.md), or is not posted (R9). Otherwise only the catch-up posts one. -/
def Obligations.PatronLoadActsByTheRecord : Prop :=
  ∀ (s : State) (op : Op) (x : Crossing) tag patron found category balance,
    Performs s op x (.patronLoad tag patron found category balance) → 4 ≤ op.reservation →
    let gives (u : Tables) (status : Status) (posted : State → Prop) :=
      ∃ t, exec (.patronLoad x) s = .next t ∧ t.tables = u ∧ posted t ∧ Confirms s t 3 status []
    let ends (u : Tables) (status : Status) := gives u status (SameBalances s)
    let bad := found ≠ 0 ∧ (7 < category ∨ patron = 0)
    (bad → ends s.tables .badMessage) ∧
    (¬ bad → s.loadBase tag .patronFetch patron = none →
      ∃ t, exec (.patronLoad x) s = .next t ∧ t.tables = s.tables ∧ t.faults.has .staleReply = true ∧
        SameBalances s t ∧ Confirms s t 3 .staleTag []) ∧
    ∀ v, ¬ bad → s.loadBase tag .patronFetch patron = some v →
      let kept := min balance 999999
      let writes (w : State) (slot : Nat) (r : PatronRec) (status : Status) (posted : State → Prop) :=
        gives { w.tables with patrons := Tbl.store w.patrons slot r } status posted
      let blocks (category balance : Nat) :=
        decide ((v.schedule.category category).threshold ≠ 0 ∧ (v.schedule.category category).threshold ≤ balance)
      let fresh : PatronRec :=
        .resident ⟨patron, category, kept, 0, blocks category kept, [], [], v.today⟩
      let loaded : Status := if 999999 < balance then .clamped else .ok
      let reports (y t : State) (balance pending : Nat) (blocked : Bool) :=
        let n : Notice := .balance patron balance pending blocked
        (y.link.coalesce n ≠ none ∨ 0 < y.roomForOthers → n ∈ t.link.outbound) ∧
          (y.link.coalesce n = none → y.roomForOthers = 0 → SameBalances y t)
      let greets (t : State) :=
        (999999 < balance ∨ blocks category kept = true → reports s t kept 0 (blocks category kept)) ∧
          (balance ≤ 999999 → blocks category kept = false → SameBalances s t)
      (v.findPatron patron = none →
        (found = 0 → ends v.tables .ok) ∧
        (found ≠ 0 → v.slotForPatron = none → ends v.tables .tableFull) ∧
        ∀ slot, found ≠ 0 → v.slotForPatron = some slot → writes v slot fresh loaded greets) ∧
      ∀ slot, v.findPatron patron = some slot →
        (∀ id day held, Tbl.lookup v.patrons slot = some (.fetching id day held) →
          (found = 0 →
            writes (v.satisfyTag held) slot (.unknown patron (if tag.present then day else v.today)) .ok
              (SameBalances s)) ∧
          (found ≠ 0 → writes (v.satisfyTag held) slot fresh loaded greets)) ∧
        (∀ id day, Tbl.lookup v.patrons slot = some (.unknown id day) →
          (found = 0 → writes v slot (.unknown patron v.today) .ok (SameBalances s)) ∧
          (found ≠ 0 → writes v slot fresh loaded greets)) ∧
        (∀ u p, (v.patronAt slot).isSome = true → u = v.served slot → u.patronAt slot = some p →
          (found = 0 → gives u.tables .wrongState (SameBalances u)) ∧
          (found ≠ 0 →
            writes u slot (.resident { p with category := category, blocked := blocks category p.balance }) .ok fun t =>
              (blocks category p.balance ≠ p.blocked → reports u t p.balance p.pending (blocks category p.balance)) ∧
                (blocks category p.balance = p.blocked → SameBalances u t))) ∧
        (∀ id, Tbl.lookup v.patrons slot = some (.damaged id) →
          (found = 0 → tag.present = false → ends v.tables .wrongState) ∧
          (found = 0 → tag.present = true → writes v slot (.unknown patron v.today) .ok (SameBalances s)) ∧
          (found ≠ 0 →
            let pending := v.reserves patron
            let restored := max kept pending
            writes v slot
              (.resident ⟨patron, category, restored, pending, blocks category restored, v.loansOfSlot slot,
                v.holdsOfPatron patron, v.today⟩)
              (if 999999 < balance ∨ kept < pending then .clamped else .ok)
              fun t => reports s t restored pending (blocks category restored)))

/-- TITLE_LOAD acts by the title's state (R93, R103 to R106, R109): a tagged one whose tag matches nothing is STALE_TAG and
changes nothing, and a matched one retires its tag first. Found, it makes an absent or FETCHING title RESIDENT, sets the
shelf count of a RESIDENT one and drains the shelf, and restores a DAMAGED one; then the placements parked on the questions
it ends are performed, each answered by a HOLD_RESULT, and the CONFIRM carries the counts and the number of entries trapped.
Not found, it frees a FETCHING title, leaves any other, and answers the placements NOT_FOUND. The model's choices: a found
flag of 2 to 255 counts as set (notes/assumptions/25.md), one-byte counts, CLAMPED in place of OK only, and the trapped count
(27.md), the fields of a refusal (24.md), a matched load of an absent title and of one FETCHING under another tag (30.md), a
DAMAGED fetch tag left to its own expiry (31.md), the counts where no RESIDENT title is left (8.md), the order of two
placements that one load ends, the matched tag's first (54.md), and in a restoration the orders of steps 4 and 5 (41.md) and
the activity days that step 5 leaves (29.md). A restored queue holds, by placed day and pool slot, the readable entries whose
owner is DAMAGED or RESIDENT with the title in its list or room for it; the others, and the listed holds without an entry,
leave with HOLD_CHANGE (LOST), and the two counts are the queue's. What a parked placement gives is in the statement on
placements (R93). The notices reach their stations where no warm reset is owed, which clears the lanes with the completion
(R11). -/
def Obligations.TitleLoadActsByTheRecord : Prop :=
  ∀ (s : State) (op : Op) (x : Crossing) tag title found shelf,
    Performs s op x (.titleLoad tag title found shelf) → 4 ≤ op.reservation →
    (title = 0 → ∃ t, exec (.titleLoad x) s = .next t ∧ t.tables = s.tables ∧ Confirms s t 4 .badMessage []) ∧
    (title ≠ 0 → s.loadBase tag .titleFetch title = none →
      ∃ t, exec (.titleLoad x) s = .next t ∧ t.tables = s.tables ∧ t.faults.has .staleReply = true ∧
        Confirms s t 4 .staleTag []) ∧
    ∀ v, title ≠ 0 → s.loadBase tag .titleFetch title = some v →
      let qs := s.loadQuestions v tag title
      let kept := min shelf 255
      let okOrClamped : Status := if 255 < shelf then .clamped else .ok
      let answers (t : State) (outcome : NoticeOutcome) :=
        ∀ q number k o, qs = [(q, number)] → q.parked = some k → q.origin = some o → op.handed = [] →
          op.resetOwed = false → (∀ done, t.engine ≠ .waitingRoom done) →
          Stacks s t o ⟨.holdResult, k.patron, q.subject, outcome, number, false⟩
      let counts : Option Title → List CField
        | some tt => [⟨1, tt.shelf⟩, ⟨1, tt.waiting⟩, ⟨1, tt.ready⟩]
        | none => (List.range 3).map fun i => ⟨1, Config.noTitleCount i title⟩
      let refuses (u : Tables) (status : Status) (outcome : NoticeOutcome) :=
        ∃ t, exec (.titleLoad x) s = .next t ∧ t.tables = u ∧ answers t outcome ∧
          Confirms s t 4 status (counts (t.residentTitle title) ++ [⟨1, op.traps⟩])
      let completes (w : State) (slot : Nat) :=
        ∃ t tt, exec (.titleLoad x) s = .next t ∧
          t.tables = (qs.foldl (fun y q => y.completeQuestion title (some slot) q.1 q.2) w).tables ∧
          t.titleAt slot = some tt ∧ (tt.shelf = 0 ∨ t.firstWaiting tt = none) ∧
          (∀ q number k, qs = [(q, number)] → q.parked = some k → answers t (w.completeParked k title slot).2) ∧
          Posted t (.confirm s.headSeq 4 okOrClamped (counts (some tt) ++ [⟨1, op.traps + (kept - tt.shelf)⟩]))
      let fresh : TitleRec := .resident ⟨title, kept, [], 0, 0⟩
      (v.findTitle title = none →
        (found = 0 → refuses v.tables okOrClamped (.refused .notFound)) ∧
        (found ≠ 0 → Tbl.firstFree v.titles 2048 = none → refuses v.tables .tableFull (.refused .tableFull)) ∧
        ∀ n, found ≠ 0 → Tbl.firstFree v.titles 2048 = some n → completes (v.setTitle n fresh) n) ∧
      ∀ n, v.findTitle title = some n →
        (∀ id held, Tbl.lookup v.titles n = some (.fetching id held) →
          (found = 0 →
            refuses { (v.satisfyTag held).tables with titles := Tbl.release v.titles n } okOrClamped
              (.refused .notFound)) ∧
          (found ≠ 0 → completes ((v.satisfyTag held).setTitle n fresh) n)) ∧
        (∀ tt, v.titleAt n = some tt →
          (found = 0 → refuses v.tables .wrongState (.refused .notFound)) ∧
          (found ≠ 0 → completes ((v.setTitle n (.resident { tt with shelf := kept })).drain n) n)) ∧
        ∀ id, Tbl.lookup v.titles n = some (.damaged id) →
          (found = 0 → refuses v.tables .wrongState (.refused .notFound)) ∧
          (found ≠ 0 →
            let w := v.restoreTitle n title kept
            let stays (e : Nat × Hold) :=
              ∃ k, v.findPatron e.2.patron = some k ∧
                ((∃ i, Tbl.lookup v.patrons k = some (.damaged i)) ∨
                  ∃ p, v.patronAt k = some p ∧ (title ∈ p.holds ∨ p.holds.length < 32))
            let lost (patron : Nat) :=
              ∀ t, exec (.titleLoad x) s = .next t → Posted t (.holdChange title patron .lost 0)
            completes w n ∧
            ∃ tt, w.titleAt n = some tt ∧ tt.id = title ∧
              tt.queue.Sublist ((v.entriesOf title).map fun e => ⟨e.1, e.2.patron⟩) ∧
              (∀ e ∈ v.entriesOf title, (⟨e.1, e.2.patron⟩ ∈ tt.queue ↔ stays e) ∧
                (¬ stays e → Tbl.lookup w.pool e.1 = none ∧ lost e.2.patron)) ∧
              tt.waiting = w.countHolds tt.queue Hold.isWaiting ∧ tt.ready = w.countHolds tt.queue Hold.isReady ∧
              (∀ i ∈ tt.queue, ∀ k p, w.findPatron i.patron = some k → w.patronAt k = some p → title ∈ p.holds) ∧
              (∀ k p, w.patronAt k = some p → title ∈ p.holds → (tt.itemOf p.id).isSome = true) ∧
              ∀ k p, v.patronAt k = some p → title ∈ p.holds → (∀ e ∈ v.entriesOf title, e.2.patron ≠ p.id) →
                lost p.id)

/-- AUTH_RESULT: one whose tag matches no card payment is STALE_TAG and changes nothing (R149). A matched one retires its
tag. On a RESIDENT record (R117) the pending credit falls by the reserve and the balance by the approved amount as lowered to
the reserve, the CONFIRM carries the three figures, and a CARD_RESULT (OK) is stacked at the origin station (R153). On a
DAMAGED record (R118) nothing else changes, the CONFIRM carries DAMAGED with three zeros, and the CARD_RESULT says DAMAGED.
The notice reaches its station where no warm reset is owed, which clears the lanes with the completion (R11). The model's
choices: an absent, FETCHING or UNKNOWN record is treated as a DAMAGED one (notes/assumptions/32.md), a reserve above the
pending credit leaves it at 0 (42.md), the stale CONFIRM carries no fields (24.md). -/
def Obligations.AuthResultSettlesTheCardPayment : Prop :=
  ∀ (s : State) (op : Op) (x : Crossing) tag amount,
    Performs s op x (.authResult tag amount) → 4 ≤ op.reservation →
    (s.matchTag tag .cardAuth none = none →
      ∃ t, exec (.authResult x) s = .next t ∧ t.tables = s.tables ∧ t.faults.has .staleReply = true ∧
        Confirms s t 5 .staleTag []) ∧
    ∀ q (n : Fin 32), tag.number = n.val → s.matchTag tag .cardAuth none = some q →
      let applied := min amount q.reserve
      let answers (t : State) (outcome : NoticeOutcome) :=
        ∀ o, q.origin = some o → op.handed = [] → op.resetOwed = false →
          Stacks s t o ⟨.cardResult, q.subject, applied, outcome, n.val, false⟩
      (∀ slot u p, s.findPatron q.subject = some slot → (s.patronAt slot).isSome = true →
        u = (s.retireTag n.val).served slot → u.patronAt slot = some p →
        ∃ t, exec (.authResult x) s = .next t ∧
          (let after : Patron := { p with pending := p.pending - q.reserve, balance := p.balance - applied }
           t.patronAt slot = some { after with blocked := u.blockDue after } ∧
           .balance p.id after.balance after.pending (u.blockDue after) ∈ t.link.outbound ∧
           Confirms s t 5 (if q.reserve < amount then .clamped else .ok)
             [⟨4, applied⟩, ⟨4, after.balance⟩, ⟨4, after.pending⟩]) ∧
          answers t .ok ∧
          t.tags.get n = (s.tags.get n).retired ∧ (∀ k, k ≠ n → t.tags.get k = s.tags.get k) ∧
          t.tagLine = s.tagLine.filter (· != n.val) ∧
          (∀ k, k ≠ slot → Tbl.lookup t.patrons k = Tbl.lookup u.patrons k) ∧
          t.loans = u.loans ∧ t.titles = u.titles ∧ t.pool = u.pool ∧ t.calendar = u.calendar ∧
          t.schedule = u.schedule ∧ t.sweep = u.sweep) ∧
      (∀ u, (s.findPatron q.subject = none ∧ u = s.retireTag n.val ∨
          ∃ slot, s.findPatron q.subject = some slot ∧ s.patronAt slot = none ∧
            u = (s.retireTag n.val).touchDay slot) →
        ∃ t, exec (.authResult x) s = .next t ∧ t.tables = u.tables ∧ answers t (.refused .damaged) ∧
          Confirms s t 5 .damaged [⟨4, 0⟩, ⟨4, 0⟩, ⟨4, 0⟩])

/-- WAIVE (R121): refused for an amount of 0 or nothing payable; otherwise the smaller of the amount and the payable
amount leaves the balance, and the flag follows it (R123). -/
def Obligations.WaiveLowersTheBalanceUpToThePayableAmount : Prop :=
  ∀ (s : State) (op : Op) (x : Crossing) patron amount slot u p, Names s op x (.waive patron amount) patron slot u p →
    4 ≤ op.reservation →
    ∃ t, exec (.waive x) s = .next t ∧
      (let payable := p.balance - p.pending
       let applied := min amount payable
       let after : Patron := { p with balance := p.balance - applied }
       t.patronAt slot = some (if applied = 0 then p else { after with blocked := u.blockDue after }) ∧
       (applied ≠ 0 → .balance p.id after.balance p.pending (u.blockDue after) ∈ t.link.outbound) ∧
       Confirms s t 9
         (if amount = 0 then .badAmount
          else if payable = 0 then .nothingDue else if payable < amount then .clamped else .ok)
         [⟨4, applied⟩, ⟨4, after.balance⟩, ⟨4, p.pending⟩]) ∧
      (∀ k, k ≠ slot → Tbl.lookup t.patrons k = Tbl.lookup u.patrons k) ∧
      t.loans = u.loans ∧ t.titles = u.titles ∧ t.pool = u.pool ∧ t.tags = u.tags ∧ t.tagLine = u.tagLine ∧ t.calendar = u.calendar ∧
      t.schedule = u.schedule ∧ t.sweep = u.sweep

/-- HOLD_PLACE on a RESIDENT title makes the entry that PLACE_HOLD would make (R89, R90). One whose patron or title id is 0,
or whose branch is above 63, is confirmed BAD_MESSAGE and not performed. On an absent or FETCHING
title it is TITLE_NOT_RESIDENT and nothing is fetched, and a PLACE_HOLD on a FETCHING title ends REFUSED with RETRY with
every tag as it was (R92). The first failing check of R89, in its order, refuses a PLACE_HOLD, a HOLD_PLACE and a parked
placement that completes (R93), and on an absent title the first of R91, which begins with the station's limit of 2
stacked notices and parked operations together (R154), refuses a PLACE_HOLD; the tables stay as the
catch-up left them, and in the completion, which runs none, as the activity day left them. A completing placement that
passes makes the entry; one whose patron is absent, FETCHING or UNKNOWN gives UNKNOWN_PATRON, and DAMAGED when that record
is DAMAGED. That a refusal's CONFIRM carries no fields is the model's reading (notes/assumptions/24.md). -/
def Obligations.PlacementByMessageAndOnATitleBeingFetched : Prop :=
  (∀ (s : State) (op : Op) (x : Crossing) id title branch until_ slot u p k tt n,
    Names s op x (.holdPlace id title branch until_) id slot u p → 4 ≤ op.reservation → title ≠ 0 → branch ≤ 63 →
    u.mayHold p title → u.findTitle title = some k → u.titleAt k = some tt → tt.queue.length < 255 →
    Tbl.firstFree u.pool 8192 = some n → (∀ d, until_ = some d → u.today < d) →
    ∃ t, exec (.holdPlace x) s = .next t ∧ t.tables = (u.makeEntry n slot k p.id branch tt until_).1.tables ∧
      Confirms s t 10 (if u.untilLowered until_ then .clamped else .ok)
        [⟨1, (u.entryState tt until_).change.number⟩, ⟨1, t.changePosition k n (u.entryState tt until_)⟩]) ∧
  (∀ (s : State) (op : Op) (x : Crossing) id title branch until_,
    Performs s op x (.holdPlace id title branch until_) → 4 ≤ op.reservation → (id = 0 ∨ title = 0 ∨ 63 < branch) →
    ∃ t, exec (.holdPlace x) s = .next t ∧ t.tables = s.tables ∧ Confirms s t 10 .badMessage []) ∧
  (∀ (s : State) (op : Op) (x : Crossing) id title branch slot u p, u.mayHold p title →
    (∀ until_, Names s op x (.holdPlace id title branch until_) id slot u p → 4 ≤ op.reservation →
      title ≠ 0 → branch ≤ 63 →
      (u.findTitle title = none ∨ ∃ k i tag, u.findTitle title = some k ∧
        Tbl.lookup u.titles k = some (.fetching i tag)) →
      ∃ t, exec (.holdPlace x) s = .next t ∧ t.tables = u.tables ∧ Confirms s t 10 .titleNotResident []) ∧
    (∀ rest k i tag, Serves s op x .placeHold (id :: title :: branch :: rest) slot u p → 3 ≤ op.reservation →
      u.findTitle title = some k → Tbl.lookup u.titles k = some (.fetching i tag) →
      ∃ t, exec (.placeHold x) s = .next t ∧ t.tables = u.tables ∧
        Answers s t op ⟨[.outcome .placeHold (.refused .retry), .num 0], .refused .retry⟩)) ∧
  (∀ (s : State) (op : Op) (x : Crossing) id title slot u p r,
    let place := (u.findTitle title).bind fun k => Tbl.lookup u.titles k
    (∀ branch rest, Serves s op x .placeHold (id :: title :: branch :: rest) slot u p → 3 ≤ op.reservation →
      let refused :=
        ∃ t, exec (.placeHold x) s = .next t ∧ t.tables = u.tables ∧
          Answers s t op ⟨[.outcome .placeHold (.refused r), .num 0], .refused r⟩
      (u.refusesHold p title place rest[0]? r → refused) ∧
      (∀ o, op.origin = some o → u.mayHold p title → place = none →
        (2 ≤ (u.stationAt o).stack.length + (u.stationAt o).parked ∧ r = .parkedLimit ∨
          (u.stationAt o).stack.length + (u.stationAt o).parked < 2 ∧
            ((∃ d, rest[0]? = some d ∧ d ≤ u.today) ∧ r = .badField ∨
              (∀ d, rest[0]? = some d → u.today < d) ∧
                (u.freeTag = none ∧ r = .tryLater ∨
                  u.freeTag ≠ none ∧ Tbl.firstFree u.titles 2048 = none ∧ r = .tableFull))) → refused)) ∧
    ∀ branch until_, Names s op x (.holdPlace id title branch until_) id slot u p → 4 ≤ op.reservation →
      title ≠ 0 → branch ≤ 63 → u.refusesHold p title place until_ r →
      ∃ t, exec (.holdPlace x) s = .next t ∧ t.tables = u.tables ∧ Confirms s t 10 r.status []) ∧
  ∀ (s : State) (k : Parked) title tslot, s.upsets = [] →
    let x := s.completeParked k title tslot
    (s.findPatron k.patron = none → x = (s, .refused .unknownPatron)) ∧
    ∀ slot, s.findPatron k.patron = some slot →
      let u := s.touchDay slot
      (∀ i day tag, Tbl.lookup s.patrons slot = some (.fetching i day tag) → x = (u, .refused .unknownPatron)) ∧
      (∀ i day, Tbl.lookup s.patrons slot = some (.unknown i day) → x = (u, .refused .unknownPatron)) ∧
      (∀ i, Tbl.lookup s.patrons slot = some (.damaged i) → x = (s, .refused .damaged)) ∧
      ∀ p, (s.patronAt slot).isSome = true → u.patronAt slot = some p →
        (∀ r, u.refusesHold p title (Tbl.lookup u.titles tslot) k.until_ r → x = (u, .refused r)) ∧
        ∀ tt n, u.mayHold p title → u.titleAt tslot = some tt → tt.queue.length < 255 →
          Tbl.firstFree u.pool 8192 = some n → (∀ d, k.until_ = some d → u.today < d) →
          x = ((u.makeEntry n slot tslot p.id k.branch tt k.until_).1, .ok)

/-! ## The Catalogue Link -/

/-- LINK_UP and LINK_DOWN change the link state at once and start a search (R5, R174). A drop abandons the entry being sent,
which is unsent again and, when a younger entry reports the same patron's balance or the same lane's state, takes its values
and frees its entry (R126, R181; how is the model's reading, notes/assumptions/37.md); it lets a waiting RESTART take effect
(R11), in the model's two phases (4.md). A change to the same state does nothing (the model's reading, 1.md). The search
after a drop meets an entry that the merge frees before other waiters do (the model's choice, 60.md). An inbound frame is
ignored while the link is DOWN; while it is UP it takes the next sequence number, which by the model's reading of R175 is the
frame count as it stands, raised afterwards (57.md), and is an overrun, a FRAME_ERROR marker, a BAD_MESSAGE marker or a
message (R175, R178), noted as taken while a RESTART waits (R184). Nothing else but the Fault Log and its notice changes
before the search. Flow hold is asserted exactly while 56 or more inbound places are occupied (R177). -/
def Obligations.ReadyLineAndInboundFrames : Prop :=
  (∀ s : State, s.settled →
    (s.link.up = false →
      exec .linkUp s = .next ({ s with link := { s.link with up := true } } : State).search.startSending ∧
      exec .linkDown s = .next s.startSending) ∧
    (s.link.up = true →
      exec .linkUp s = .next s.startSending ∧
      let unsent :=
        match s.link.sending, s.link.outbound with
        | true, n :: rest =>
          match rest.find? fun y => y.sameSubject n with
          | some y => y :: rest.eraseP fun y => y.sameSubject n
          | none => n :: rest
        | _, q => q
      exec .linkDown s = .next ({ s with
        link := { s.link with up := false, sending := false, outbound := unsent }
        arbiter := { s.arbiter with resetDue := s.arbiter.restartPending } } : State).search.startSending)) ∧
  (∀ s : State, s.flowHold = true ↔ 56 ≤ s.link.inbound.length) ∧
  ∀ (s : State) kind payload check, s.settled →
    (s.link.up = false → exec (.inboundFrame kind payload check) s = .next s.startSending) ∧
    (s.link.up = true →
      let seq := s.link.frameCount
      let late := s.arbiter.restartPending
      let counted := { s with link := { s.link with frameCount := (seq + 1) % 65536 } }
      ∃ v, exec (.inboundFrame kind payload check) s = .next v.search.startSending ∧
        (∀ front p, s.link.inbound = front ++ [p] → 64 ≤ s.link.inbound.length → p.tally < 4294967295 →
          let logged := counted.logFault .linkOverrun .link { Context.empty with frame := seq }
          OnlyLink logged v { logged.link with
            inbound := front ++
              [{ p with tally := p.tally + 1, nextOverrun := if p.tally = 0 then seq else p.nextOverrun }] }) ∧
        (s.link.inbound.length < 64 → frameCheck kind payload ≠ check →
          v = ({ counted with link := { counted.link with
            inbound := s.link.inbound ++ [⟨.marker kind.toNat .frameError, seq, 0, 0, false, late⟩] } } : State).logFault
              .linkFrame .link { Context.empty with frame := seq }) ∧
        (s.link.inbound.length < 64 → frameCheck kind payload = check →
          OnlyLink counted v { counted.link with
            inbound := s.link.inbound ++
              [⟨match parseMessage kind.toNat payload with
                | some m => .message kind.toNat m
                | none => .marker kind.toNat .badMessage, seq, 0, 0, false, late⟩] }))

/-- The link confirms a marker at the head, but for one taken while a RESTART still waits (R184), then the overruns a
confirmed place owes, in sequence order, into the outbound queue or the side list, and the side list moves into the queue
as entries free (R176, R178). -/
def Obligations.LinkConfirmsMarkersAndOverruns : Prop :=
  ∀ s : State, s.settled →
    (∀ kind status seq tally next late rest,
      s.link.inbound = ⟨.marker kind status, seq, tally, next, false, late⟩ :: rest →
      (late = true → s.arbiter.restartPending = true → exec .markerConfirm s = .next s.startSending) ∧
      (¬ (late = true ∧ s.arbiter.restartPending = true) → s.link.sideList = [] → 0 < s.roomForOthers →
        ∃ v, exec .markerConfirm s = .next v.search.startSending ∧
          OnlyLink s v { s.link with
            outbound := s.link.outbound ++ [.confirm seq kind status []]
            inbound := if tally = 0 then rest else ⟨.marker kind status, seq, tally, next, true, late⟩ :: rest })) ∧
    (∀ p rest, s.link.inbound = p :: rest → p.confirmed = true → 0 < p.tally →
      let left := if p.tally = 1 then rest
        else { p with tally := p.tally - 1, nextOverrun := (p.nextOverrun + 1) % 65536 } :: rest
      (s.link.sideList = [] → 0 < s.roomForOthers →
        ∃ v, exec .overrunConfirm s = .next v.search.startSending ∧
          OnlyLink s v { s.link with
            outbound := s.link.outbound ++ [.confirm p.nextOverrun 0 .overrun []], inbound := left }) ∧
      (s.roomForOthers = 0 → s.link.sideList.length < 8 →
        ∃ v, exec .overrunConfirm s = .next v.search.startSending ∧
          OnlyLink s v { s.link with sideList := s.link.sideList ++ [p.nextOverrun], inbound := left })) ∧
    (∀ seq rest, s.link.sideList = seq :: rest → 0 < s.roomForOthers →
      ∃ v, exec .sideListMove s = .next v.search.startSending ∧
        OnlyLink s v { s.link with
          outbound := s.link.outbound ++ [.confirm seq 0 .overrun []], sideList := rest })

/-- The entry being sent leaves the queue and goes out, its room goes to the waiters that claim it, in the order the sender
gives (the model's own, notes/assumptions/3.md), and a search follows (R180, R182); the FAULT of the present capture sets the
reported mark (R189), and a RESTART's CONFIRM lets its warm reset take effect (R11), in the model's two phases
(notes/assumptions/4.md); the trace of sent entries is the model's own (12.md). In WAITING_ROOM the freed entry goes to the
engine's next post, in posting order, and the operation completes once its last notice is posted; with no entry free nothing
is posted (R8). A waiting BALANCE or LANE_STATE that finds an unsent entry for its subject updates that one in its place, and
needs no room (R181). The completion is that of every operation (R10): the engine is FREE, a performed message leaves the
inbound queue or begins to drain (R176, R178), and the claims and a search follow, or the warm reset owed to the operation is
due (R8, R11; 4.md). -/
def Obligations.EntriesAreSentAndWaitingPostsTakeTheirRoom : Prop :=
  (∀ (s : State) (claims : List Claim) n rest, s.settled → s.link.sending = true → s.link.outbound = n :: rest →
    ∃ v : State, exec (.entrySent claims) s = .next (v.claimAll claims).search.startSending ∧
      v = { s with
        link := { s.link with outbound := rest, sending := false }
        linkOut := s.linkOut ++ [n]
        faults := { s.faults with
          reported :=
            match n with
            | .fault _ capture => s.faults.reported || decide (capture = s.faults.captures)
            | _ => s.faults.reported }
        arbiter := { s.arbiter with
          resetDue :=
            match n with
            | .confirm _ 16 .ok _ => s.arbiter.restartPending
            | _ => false } }) ∧
  ∀ (s : State) op claims n rest, s.settled → s.engine = .waitingRoom op → op.waiting = n :: rest →
    let becomes (queue : List Notice) :=
      let posted := { s with link := { s.link with outbound := queue } }
      (rest ≠ [] →
        exec (.waitingRoomPost claims) s =
          .next ({ posted with engine := .waitingRoom { op with waiting := rest } } : State).startSending) ∧
      (rest = [] →
        ∃ v t, exec (.waitingRoomPost claims) s = .next t ∧ t.tables = s.tables ∧
          (claims = [] → t.link.outbound = queue) ∧ (∀ done, t.engine ≠ .waitingRoom done) ∧
          Completes s v t op claims ∧ v.link.outbound = queue)
    (∀ before old after, s.link.outbound = before ++ old :: after → (s.link.sending = true → before ≠ []) →
      (∀ m ∈ (if s.link.sending then before.tail else before), n.sameSubject m = false) → n.sameSubject old = true →
      becomes (before ++ n :: after)) ∧
    ((∀ m ∈ s.link.unsent, n.sameSubject m = false) →
      (128 ≤ s.link.outbound.length + op.reservation → exec (.waitingRoomPost claims) s = .next s.startSending) ∧
      (s.link.outbound.length + op.reservation < 128 → becomes (s.link.outbound ++ [n])))

/-! ## The Fault Log -/

/-- Recording a fault (R189): its class joins the set, a correction is counted, and an empty first-fault record captures
it and posts a FAULT, or owes it when no entry is free; a full record captures nothing. An owed FAULT and an owed
LANE_STATE take a free entry with the values of that moment and are no longer owed; with none free they wait (R159,
R182). -/
def Obligations.FaultsAreCapturedAndOwedNoticesPosted : Prop :=
  (∀ (s : State) c src ctx, let t := s.logFault c src ctx
      (∀ k, t.faults.has k = (s.faults.has k || decide (k = c))) ∧
      t.faults.corrected =
        (if c = .memoryCorrected ∨ c = .repeatedCorrected then min 65535 (s.faults.corrected + 1)
         else s.faults.corrected) ∧
      { t with faults := s.faults, link := { t.link with outbound := s.link.outbound } } = s ∧
      (∀ f, s.faults.first = some f →
        t.faults.first = some f ∧ t.link = s.link ∧ t.faults.reported = s.faults.reported ∧
          t.faults.owed = s.faults.owed) ∧
      (s.faults.first = none →
        t.faults.first = some ⟨c, src, ctx⟩ ∧ t.faults.reported = false ∧
        (0 < s.roomForOthers →
          t.faults.owed = s.faults.owed ∧ ∃ n, t.link.outbound = s.link.outbound ++ [.fault ⟨c, src, ctx⟩ n]) ∧
        (s.roomForOthers = 0 → t.faults.owed = true ∧ t.link.outbound = s.link.outbound))) ∧
  ∀ (s : State) (l : Lane), s.settled →
    (∀ f, s.faults.owed = true → s.faults.first = some f →
      (s.roomForOthers = 0 → exec .owedFaultPost s = .next s.startSending) ∧
      (0 < s.roomForOthers →
        exec .owedFaultPost s = .next ({ s with
          faults := { s.faults with owed := false }
          link := { s.link with outbound := s.link.outbound ++ [.fault f s.faults.captures] } } : State).startSending)) ∧
    ((s.lane l).stateOwed = true → s.link.coalesce ((s.lane l).stateNotice l) = none →
      (s.roomForOthers = 0 → exec (.owedLaneStatePost l) s = .next s.startSending) ∧
      (0 < s.roomForOthers →
        ∃ v, exec (.owedLaneStatePost l) s = .next v.startSending ∧
          OnlyLane ({ s with link := { s.link with outbound := s.link.outbound ++ [(s.lane l).stateNotice l] } } : State) v l
            { s.lane l with stateOwed := false } []))

/-- FAULT_READ and FAULT_CLEAR (R190): the read carries OK, the first-fault record or class none (whose number is a free
value, notes/assumptions/7.md), the set, the corrected count and the notice-owed flag, and changes nothing; the clear empties
the log and sets the reported mark, leaving queued FAULTs, so that the next fault is captured and the next correction is
MEMORY_CORRECTED. -/
def Obligations.FaultReadReportsAndFaultClearEmptiesTheLog : Prop :=
  ∀ (s : State) (op : Op) (x : Crossing), 1 ≤ op.reservation → x.claims = [] →
    (Performs s op x .faultRead →
      s.noticeNeed op.kind = 4 ∧
      ∃ t fields, exec (.faultRead x) s = .next t ∧ t.tables = s.tables ∧ t.faults = s.faults ∧
        t.link.outbound = s.link.outbound ++ [.confirm s.headSeq 14 .ok
          (fields ++ [⟨2, s.faults.classes.toNat⟩, ⟨2, s.faults.corrected⟩,
            ⟨1, if s.faults.owed then 1 else 0⟩])] ∧
        (∀ f, s.faults.first = some f → fields = f.fields) ∧
        (s.faults.first = none → fields.head? = some ⟨1, Config.noFaultClass⟩)) ∧
    (Performs s op x .faultClear →
      s.noticeNeed op.kind = 4 ∧
      ∃ t, exec (.faultClear x) s = .next t ∧ t.tables = s.tables ∧
        t.faults.first = none ∧ t.faults.classes = 0 ∧ t.faults.corrected = 0 ∧ t.faults.owed = false ∧
        t.faults.reported = true ∧
        t.link.outbound = s.link.outbound ++ [.confirm s.headSeq 15 .ok []] ∧
        t.faults.correctionClass = .memoryCorrected ∧
        ∀ c src ctx, (t.logFault c src ctx).faults.first = some ⟨c, src, ctx⟩ ∧
          (0 < t.roomForOthers →
            ∃ n, (t.logFault c src ctx).link.outbound = t.link.outbound ++ [.fault ⟨c, src, ctx⟩ n]))

/-- STATUS_READ carries the figures of R183 in its order, the outbound entries with its own CONFIRM, and changes nothing;
RESTART changes no table, and its completion sets the restart-pending flag (R11, R184). The notice need of a request is
that of R6's table; a RENEW_ALL of a patron without a RESIDENT record counts an empty loan list, and a TITLE_LOAD of a
title that is not RESIDENT counts no WAITING entry, also where a DAMAGED title's entries still stand (the model's reading,
notes/assumptions/15.md). An arbiter search grants nothing while that flag is set or the engine is not FREE, nor while a
reset is due, which is the model's two-phase reset (4.md). Otherwise it goes through the nineteen positions from the
pointer on (R5). What they present is R4's table: a lane its request while that is complete, in WORKING and not yet granted;
LINK the message at the head of the inbound queue, unless the side list holds a CONFIRM or that place only drains (R176,
R178); SWEEP the step that a sweep in LOANS or HOLDS owes (R131); and TAGS the expiry of the first number in the line
(R148). The search passes over positions without a request and those whose notice need exceeds the free entries (R6), and
grants the first that is left: the engine is BUSY with the operation's record and reservation and the pointer stands after
that position. A lane request without room while the link is DOWN is refused SERVICE_LIMITED on the way (R7), with no result
fields (the model's reading, 23.md), kept for the ACCEPT while a LANE_CLOSING final awaits it (R161), and the search goes on
over the positions left, in the same way: what is said of a search holds for one over any list of positions. The row that
performs a granted operation completes it, unless a post waits for room (R8): its lane result goes to the exchange that
still waits for it under the generation of the grant, and to none otherwise (R10); the engine is FREE, a performed message's
place leaves the inbound queue or begins to drain (R10, R176, R178), and the claims and a search follow (R5, R182); or a
warm reset owed is due, the lane result is dropped, and the table changes stand (R8, R11), which the statements on each row
say with one owed or not. -/
def Obligations.StatusReadRestartAndTheArbitersSearch : Prop :=
  (∀ (s : State) (op : Op) (x : Crossing), 1 ≤ op.reservation →
    (Performs s op x .statusRead →
      ∃ t, exec (.statusRead x) s = .next t ∧ t.tables = s.tables ∧ Confirms s t 13 .ok s.statusFields ∧
        (let summary (m : Summary) : List CField :=
          [⟨2, m.closeDay⟩, ⟨2, m.evaluated⟩, ⟨4, m.cents⟩, ⟨2, m.expired⟩, ⟨2, m.resumed⟩, ⟨2, m.released⟩, ⟨2, m.freed⟩,
            ⟨2, m.restarts⟩]
         let count (st : TagState) := (s.tags.toList.filter fun y => decide (y.state = st)).length
         s.statusFields.length = 77 ∧
         s.statusFields.take 22 =
          [⟨2, s.calendar.closeDay⟩, ⟨1, s.sweep.state.number⟩, ⟨1, s.sweep.phase.number⟩, ⟨2, s.sweep.cursor⟩,
            ⟨2, s.sweep.target⟩, ⟨1, if s.sweep.complete then 1 else 0⟩] ++ summary s.sweep.current ++
            summary s.sweep.last ∧
         (∀ l : Lane, s.statusFields[22 + 3 * l.val]? = some ⟨1, (s.lane l).life.number⟩ ∧
          s.statusFields[23 + 3 * l.val]? = some ⟨2, (s.lane l).gen⟩ ∧
          s.statusFields[24 + 3 * l.val]? = some ⟨1, (s.lane l).roll.toNat⟩) ∧
         s.statusFields.drop 70 =
          [⟨1, count .outstanding⟩, ⟨1, count .due⟩, ⟨1, count .damaged⟩, ⟨1, s.link.inbound.length⟩,
            ⟨1, if 56 ≤ s.link.inbound.length then 1 else 0⟩, ⟨1, s.link.sideList.length⟩,
            ⟨1, s.link.outbound.length + 1⟩])) ∧
    (Performs s op x .restart →
      ∃ t, exec (.restart x) s = .next t ∧ t.tables = s.tables ∧ Confirms s t 16 .ok [] ∧
        t.arbiter.restartPending = true ∧ t.engine = .free)) ∧
  (∀ s : State,
    s.noticeNeed (.request .detail []) = 0 ∧ s.noticeNeed (.request .poll []) = 0 ∧
    (∀ code id rest figure,
      code = .account ∧ figure = 0 ∨ code = .payCash ∧ figure = 1 ∨ (code = .renew ∨ code = .payCard) ∧ figure = 2 ∨
        (code = .placeHold ∨ code = .cancelHold ∨ code = .suspendHold ∨ code = .resumeHold) ∧ figure = 3 ∨
        code = .renewAll ∧
          ((∃ n p, s.findPatron id = some n ∧ s.patronAt n = some p ∧ figure = p.loans.length + 1) ∨
            (∀ n, s.findPatron id = some n → s.patronAt n = none) ∧ figure = 1) →
        s.noticeNeed (.request code (id :: rest)) = if s.findPatron id = none then max 1 figure else figure) ∧
    (∀ kind m, (∀ tag title found shelf, m ≠ .titleLoad tag title found shelf) → s.noticeNeed (.message kind m) = 4) ∧
    (∀ kind tag title found shelf waiting,
      ((∃ n tt, s.findTitle title = some n ∧ s.titleAt n = some tt ∧ waiting = tt.waiting) ∨
        (∀ n, s.findTitle title = some n → s.titleAt n = none) ∧ waiting = 0) →
        s.noticeNeed (.message kind (.titleLoad tag title found shelf)) = min 127 (max 3 (min shelf waiting)) + 1) ∧
    s.noticeNeed .loansStep = 1 ∧ s.noticeNeed .holdsStep = 8 ∧ ∀ n, s.noticeNeed (.tagExpiry n) = 1) ∧
  (∀ (s : State) (op : Op) (x : Crossing), s.settled → s.engine = .busy op →
    ∃ t, exec (op.kind.command x) s = .next t ∧
      (∀ done, t.engine = .waitingRoom done →
        done.waiting ≠ [] ∧ done.kind = op.kind ∧ done.resetOwed = op.resetOwed ∧
          t.link.inbound = s.link.inbound ∧ t.arbiter = s.arbiter) ∧
      ((∀ done, t.engine ≠ .waitingRoom done) → ∃ v, Completes s v t op x.claims ∧
        ∀ code fields o, op.kind = .request code fields → op.origin = some o → op.handed = [] → HandsOver s v op o)) ∧
  (∀ s : State,
    (∀ l : Lane,
      (∀ ex code, (s.lane l).exchange = some ex → ex.step = .working .atArbiter → ex.code = some code →
        s.requestAt l.val = some (.request code ex.fields)) ∧
      ((∀ ex, (s.lane l).exchange = some ex → ex.step ≠ .working .atArbiter ∨ ex.code = none) →
        s.requestAt l.val = none)) ∧
    (∀ p rest, s.link.inbound = p :: rest →
      (∀ kind m, p.content = .message kind m → s.link.sideList = [] → p.confirmed = false →
        s.requestAt 16 = some (.message kind m)) ∧
      ((∃ kind status, p.content = .marker kind status) ∨ s.link.sideList ≠ [] ∨ p.confirmed = true →
        s.requestAt 16 = none)) ∧
    (s.link.inbound = [] → s.requestAt 16 = none) ∧
    (s.sweep.state = .loans → s.requestAt 17 = some .loansStep) ∧
    (s.sweep.state = .holds → s.requestAt 17 = some .holdsStep) ∧
    (s.sweep.state = .idle → s.requestAt 17 = none) ∧
    (∀ n rest, s.tagLine = n :: rest → s.requestAt 18 = some (.tagExpiry n)) ∧
    (s.tagLine = [] → s.requestAt 18 = none)) ∧
  ∀ s : State,
    (s.arbiter.restartPending = true ∨ s.arbiter.resetDue = true ∨ s.engine ≠ .free → s.search = s) ∧
    (s.arbiter.restartPending = false → s.settled → s.engine = .free →
      s.search = s.searchOver ((List.range 19).map fun i => (s.arbiter.pointer + i) % 19)) ∧
    (s.engine = .free → ∀ order : List Nat,
      let free := 128 - s.link.outbound.length
      let found := s.searchOver order
      let stays (p : Nat) :=
        ∀ k, s.requestAt p = some k → free < s.noticeNeed k ∧ (s.link.up = true ∨ 16 ≤ p)
      ((∀ p ∈ order, stays p) → found = s) ∧
      ∀ before p after k, order = before ++ p :: after → (∀ b ∈ before, stays b) → s.requestAt p = some k →
        (s.noticeNeed k ≤ free →
          found.engine = .busy ⟨p, k, s.originOf p, s.noticeNeed k, false, [], none, [], 0⟩ ∧
          found.arbiter = { s.arbiter with pointer := if p = 18 then 0 else p + 1 } ∧
          found.tables = s.tables ∧ found.link = s.link ∧
          (∀ l : Lane, l.val ≠ p → found.lane l = s.lane l) ∧
          ∀ (l : Lane) ex, l.val = p → (s.lane l).exchange = some ex →
            s.originOf p = some ⟨l, ex.station, (s.lane l).gen⟩ ∧
              found.lane l = { s.lane l with exchange := some { ex with step := .working .granted } }) ∧
        (free < s.noticeNeed k → s.link.up = false → ∀ (l : Lane) ex, l.val = p → (s.lane l).exchange = some ex →
          ((s.lane l).closingCall = none →
            ∃ v, Closes s v l ex (.refused .serviceLimited) ex.code 0 ∧ found = v.searchOver after) ∧
          ∀ c, (s.lane l).closingCall = some c →
            ∃ v, OnlyLane s v l
                { s.lane l with
                  exchange := some
                    { ex with step := .working (.answered ⟨[], .refused .serviceLimited⟩ false) } } [] ∧
              found = v.searchOver after))

/-! ## Resets -/

/-- The reset line while the engine is BUSY leaves the reset owed; otherwise it is due at once (R8, R11), which the model
performs in two phases, by the next command (notes/assumptions/4.md). The reset that is due frees FETCHING records and
every tag, releases every reserve, owes a running sweep from its start, detaches every lane with its generation kept,
empties the link's queues, keeps the Fault Log's record, set and count, and keeps everything else (R34, R112, R144, R156,
R173, R184, R187, R191). That a number whose generation was lost takes generation 0 at the reset is the model's choice
(notes/assumptions/63.md). -/
def Obligations.WarmResetKeepsTheBooksAndClearsTheRest : Prop :=
  (∀ s : State, s.settled →
    (∀ op, s.engine = .busy op →
      exec .resetLineAsserted s = .next ({ s with engine := .busy { op with resetOwed := true } } : State).startSending) ∧
    ((∀ op, s.engine ≠ .busy op) →
      exec .resetLineAsserted s =
        .next ({ s with arbiter := { s.arbiter with resetDue := true } } : State).startSending)) ∧
  ∀ s : State, s.arbiter.resetDue = true → s.canonical →
    ∃ t, exec .warmReset s = .next t ∧
      (∀ n, Tbl.lookup t.patrons n =
        match Tbl.lookup s.patrons n with
        | some (.fetching _ _ _) => none
        | some (.resident p) => some (.resident { p with pending := 0 })
        | r => r) ∧
      (∀ n, Tbl.lookup t.titles n =
        match Tbl.lookup s.titles n with
        | some (.fetching _ _) => none
        | r => r) ∧
      t.loans = s.loans ∧ t.pool = s.pool ∧ t.calendar = s.calendar ∧ t.schedule = s.schedule ∧
      (∀ n : Fin 32, t.tags.get n = (s.tags.get n).retired) ∧ t.tagLine = [] ∧
      t.sweep = (if s.sweep.state = .idle then s.sweep
        else { s.sweep with
          state := .loans, phase := .evaluating, cursor := 0, complete := false,
          current := { Summary.zero with closeDay := s.sweep.target } }) ∧
      (∀ l : Lane, (t.lane l).gen = (s.lane l).gen ∧ (t.lane l).exchange = none ∧ (t.lane l).held = 0 ∧
        (t.lane l).offer = .none ∧ (t.lane l).roll = 0 ∧ (t.lane l).stateOwed = false ∧
        (∀ st : Station, (t.lane l).stations.get st = ⟨[], 0, ⟨.none, none, 0⟩⟩) ∧
        (t.lane l).life = (if (s.lane l).carrier then .settling else .detached)) ∧
      t.link = ⟨s.link.up, false, [], [], [], 0⟩ ∧
      t.faults.first = s.faults.first ∧ t.faults.classes = s.faults.classes ∧
      t.faults.corrected = s.faults.corrected ∧ t.faults.owed = (s.faults.first.isSome && !s.faults.reported) ∧
      t.scrub = 0 ∧ t.arbiter.restartPending = false ∧ t.arbiter.resetDue = false ∧
      (s.sweep.state = .idle → t.engine = .free ∧ t.arbiter.pointer = 0) ∧
      (s.sweep.state ≠ .idle → ∃ op, t.engine = .busy op ∧ op.kind = .loansStep ∧ op.position = 17)

/-- The scrubber reads only while the engine is FREE, one record at a time in its round (R187): a clean read moves the
cursor, a single-bit error is corrected and counted, and an uncorrectable one is logged, with the cursor moved on (R185,
R189). In a patron, loan or title record it makes the record DAMAGED with its id, lists, queues and pool as they were (R24,
R32, R108). In a hold entry it makes the pool slot DAMAGED, and the title whose queue names it keeps the item and counts
its other readable entries; a slot that no RESIDENT queue names becomes DAMAGED while a title is DAMAGED, and is rewritten
as FREE otherwise, as is a FREE slot of another table (R110, R185). The record of a tag that is out makes its number
DAMAGED, at the end of the TAGS line (R155), and the record of another number is cleared. Nothing else of the tables
changes. That one read takes a slot's index place and its record together, so that a round has 34,848 reads, is the model's
reading of R187 (notes/assumptions/51.md). -/
def Obligations.ScrubberReadsOneRecordAtATime : Prop :=
  ∀ s : State, s.settled → s.upsets = [] →
    (s.engine.isFree = false → ∀ flips, exec (.scrubRead flips) s = .next s.startSending) ∧
    (s.engine = .free →
      let next := if s.scrub + 1 < 34848 then s.scrub + 1 else 0
      exec (.scrubRead []) s = .next ({ s with scrub := next } : State).search.startSending ∧
      (s.isDamaged (scrubTarget s.scrub) = false →
        ∃ t, exec (.scrubRead [⟨scrubTarget s.scrub, 0, false⟩]) s = .next t ∧ t.scrub = next ∧
          t.tables = s.tables ∧ t.upsets = [] ∧ t.faults.corrected = min 65535 (s.faults.corrected + 1)) ∧
      ∀ p, s.scrub < 8192 → s.patronAt s.scrub = some p →
        ∃ t, exec (.scrubRead [⟨⟨.patron, s.scrub⟩, 0, true⟩]) s = .next t ∧ t.scrub = next ∧
          Tbl.lookup t.patrons s.scrub = some (.damaged p.id) ∧
          (∀ n, n ≠ s.scrub → Tbl.lookup t.patrons n = Tbl.lookup s.patrons n) ∧
          t.loans = s.loans ∧ t.titles = s.titles ∧ t.pool = s.pool ∧ t.tags = s.tags ∧ t.tagLine = s.tagLine ∧
          t.calendar = s.calendar ∧ t.schedule = s.schedule ∧ t.sweep = s.sweep ∧ t.upsets = [] ∧
          t.faults.has .memoryDamaged = true) ∧
    (s.engine = .free → s.canonical → ∀ table n, scrubTarget s.scrub = ⟨table, n⟩ →
      let loses (u : Tables) :=
        ∃ t, exec (.scrubRead [⟨⟨table, n⟩, 0, true⟩]) s = .next t ∧ t.tables = u ∧ t.upsets = [] ∧
          t.scrub = (if s.scrub + 1 < 34848 then s.scrub + 1 else 0) ∧ t.faults.has .memoryDamaged = true
      (table = .patron →
        (Tbl.lookup s.patrons n = none → loses s.tables) ∧
        ∀ r, Tbl.lookup s.patrons n = some r → (∀ id, r ≠ .damaged id) →
          loses { s.tables with patrons := Tbl.store s.patrons n (.damaged r.id) }) ∧
      (table = .loan →
        (Tbl.lookup s.loans n = none → loses s.tables) ∧
        ∀ l, s.loanAt n = some l → loses { s.tables with loans := Tbl.store s.loans n (.damaged l.copy) }) ∧
      (table = .title →
        (Tbl.lookup s.titles n = none → loses s.tables) ∧
        ∀ r, Tbl.lookup s.titles n = some r → (∀ id, r ≠ .damaged id) →
          loses { s.tables with titles := Tbl.store s.titles n (.damaged r.id) }) ∧
      (table = .pool → Tbl.lookup s.pool n ≠ some .damaged →
        let names (k : Nat) (tt : Title) := s.titleAt k = some tt ∧ ∃ i ∈ tt.queue, i.slot = n
        (∀ k tt, names k tt → (∀ j y, names j y → k ≤ j) →
          let count (p : Hold → Bool) :=
            (tt.queue.filter fun i => i.slot != n && ((s.holdAt i.slot).map p).getD false).length
          loses { s.tables with
            pool := Tbl.store s.pool n .damaged
            titles := Tbl.store s.titles k
              (.resident { tt with waiting := count Hold.isWaiting, ready := count Hold.isReady }) }) ∧
        ((∀ k tt, ¬ names k tt) →
          ((∃ k id, Tbl.lookup s.titles k = some (.damaged id)) →
            loses { s.tables with pool := Tbl.store s.pool n .damaged }) ∧
          ((∀ k id, Tbl.lookup s.titles k ≠ some (.damaged id)) →
            loses { s.tables with pool := Tbl.release s.pool n }))) ∧
      (table = .tag → ∀ k : Fin 32, n = k.val →
        let tag := s.tags.get k
        (tag.state = .outstanding ∨ tag.state = .due →
          loses { s.tables with
            tags := s.tags.set k.val { tag with state := .damaged, question := none } k.isLt
            tagLine := s.tagLine.filter (· != n) ++ [n] }) ∧
        (tag.state = .free →
          loses { s.tables with
            tags := s.tags.set k.val { tag with question := none, recordGen := tag.gen } k.isLt })))

/-- An uncorrectable error that a request's lookup meets in the patron record (R16, R24, R185): the record is DAMAGED,
MEMORY_DAMAGED is logged, no other record changes, and the request is REFUSED DAMAGED with zeros (how many is the
model's reading, notes/assumptions/23.md). An index place or map entry found unreadable is repaired from the record beside
it (R186), which changes no table. When both are unreadable (R186): a patron or title slot takes the id of the first hold
entry that no other place holds and is DAMAGED; without one the title slot is FREE, and the patron slot is DAMAGED with no
id while a loan names it and FREE otherwise; a loan slot is DAMAGED with no copy id; and a tag number is DAMAGED with its
generation lost, at the end of the TAGS line. -/
def Obligations.UnreadableRecordsAreMarkedAndIndexesRepaired : Prop :=
  (∀ (code : ReqCode) (s : State) (op : Op) claims id rest slot, code.namesPatron → Granted s op ⟨[], claims⟩ →
    op.kind = .request code (id :: rest) → s.findPatron id = some slot → (s.patronAt slot).isSome = true →
    ∃ t, exec (code.command ⟨[⟨⟨.patron, slot⟩, 0, true⟩], claims⟩) s = .next t ∧
      Tbl.lookup t.patrons slot = some (.damaged id) ∧
      (∀ n, n ≠ slot → Tbl.lookup t.patrons n = Tbl.lookup s.patrons n) ∧
      t.tables = { s.tables with patrons := t.patrons } ∧ t.upsets = [] ∧ t.faults.has .memoryDamaged = true ∧
      Answers s t op ⟨List.replicate code.width (.num 0), .refused .damaged⟩) ∧
  ∀ (s : State) (r : RecordId) (place : Table), s.settled → s.upsets = [] → s.canonical → s.engine = .free →
    scrubTarget s.scrub = r → indexTable r.table = some place → s.isDamaged r = false →
    (∃ t, exec (.scrubRead [⟨⟨place, r.slot⟩, 0, true⟩]) s = .next t ∧ t.tables = s.tables ∧ t.upsets = [] ∧
      t.faults.has .memoryDamaged = true) ∧
    ∃ t, exec (.scrubRead [⟨⟨place, r.slot⟩, 0, true⟩, ⟨r, 0, true⟩]) s = .next t ∧ t.upsets = [] ∧
      t.faults.has .memoryDamaged = true ∧
      (let others (ids : List (Nat × Nat)) := (ids.filter fun e => e.1 != r.slot).map Prod.snd
       let patronIn := s.unplacedId Hold.patron (others (s.patrons.map fun e => (e.1, e.2.id)))
       let titleIn := s.unplacedId Hold.title (others (s.titles.map fun e => (e.1, e.2.id)))
       (r.table = .patron → t.tables = { s.tables with
          patrons :=
            match patronIn with
            | some id => Tbl.store s.patrons r.slot (.damaged id)
            | none => if s.loanNames r.slot then Tbl.store s.patrons r.slot (.damaged 0) else Tbl.release s.patrons r.slot }) ∧
       (r.table = .title → t.tables = { s.tables with
          titles :=
            match titleIn with
            | some id => Tbl.store s.titles r.slot (.damaged id)
            | none => Tbl.release s.titles r.slot }) ∧
       (r.table = .loan → t.tables = { s.tables with loans := Tbl.store s.loans r.slot (.damaged 0) }) ∧
       (r.table = .tag → ∀ n : Fin 32, r.slot = n.val →
          t.tags.get n = ⟨.damaged, 0, true, none, 0⟩ ∧ (∀ k, k ≠ n → t.tags.get k = s.tags.get k) ∧
          t.tagLine = s.tagLine.filter (· != n.val) ++ [n.val] ∧
          t.tables = { s.tables with tags := t.tags, tagLine := t.tagLine }))

/-! ## The day sweep -/

/-- A LOANS step (R132): the first ACTIVE loan at or after the cursor is evaluated up to C, its patron compared and reported
when it was charged, and the cursor moves past it with the counts of R129; a loan at C only moves the cursor. With no ACTIVE
loan left the sweep goes on to HOLDS at title slot 0 (R133). Each DAMAGED loan slot without a copy id that the step passes
leaves every loan list and becomes FREE (R132, R186). A loan whose patron is not RESIDENT is not changed and not counted, and
the cursor moves past it (R145). What an evaluation counts and charges (R54 to R62): each day from the charged-through day to
C that is after the due day and not CLOSED raises the overdue count, up to 255; each such day beyond the grace is charged; a
day's charge is rate times factor times m, plus 50, over 100, with m = 2 while the RESIDENT title's waiting count is at the
threshold and 1 otherwise; the fine stops at the item cap, and the balance at 999,999, the cents dropped there being logged;
a balance above that, which only a restoration leaves (67.md), is not lowered (the model's choice, notes/assumptions/36.md).
A loan at C, or of a patron that is not RESIDENT, is left as it is (R57). -/
def Obligations.LoansStepEvaluatesTheNextLoan : Prop :=
  (∀ (s : State) (op : Op) (x : Crossing), Granted s op x → op.kind = .loansStep → 1 ≤ op.reservation →
    let forgotten (k : Nat) := decide (s.sweep.cursor ≤ k) && decide (Tbl.lookup s.loans k = some (.damaged 0))
    let rest (t : State) :=
      t.titles = s.titles ∧ t.pool = s.pool ∧ t.calendar = s.calendar ∧ t.schedule = s.schedule ∧ t.tags = s.tags ∧
        t.tagLine = s.tagLine
    ((∀ n, s.sweep.cursor ≤ n → s.loanAt n = none) →
      ∃ t, exec (.loansStep x) s = .next t ∧ rest t ∧
        (∀ k, Tbl.lookup t.loans k = if forgotten k then none else Tbl.lookup s.loans k) ∧
        (∀ k, Tbl.lookup t.patrons k = (Tbl.lookup s.patrons k).map (PatronRec.losing forgotten)) ∧
        t.sweep = { s.sweep with state := .holds, phase := .nextTitle, cursor := 0, complete := false }) ∧
    ∀ n l, s.sweep.cursor ≤ n → (∀ m, s.sweep.cursor ≤ m → m < n → s.loanAt m = none) → s.loanAt n = some l →
      let gone (k : Nat) := forgotten k && decide (k < n)
      let moves (t : State) (counted added : Nat) :=
        t.sweep = { s.sweep with
          cursor := n + 1
          current := { s.sweep.current with
            evaluated := if 0 < counted then min 65535 (s.sweep.current.evaluated + 1) else s.sweep.current.evaluated
            cents := min 4294967295 (s.sweep.current.cents + added) } }
      (s.patronAt l.patronSlot = none →
        ∃ t, exec (.loansStep x) s = .next t ∧ rest t ∧
          (∀ k, Tbl.lookup t.loans k = if gone k then none else Tbl.lookup s.loans k) ∧
          (∀ k, Tbl.lookup t.patrons k = (Tbl.lookup s.patrons k).map (PatronRec.losing gone)) ∧ moves t 0 0) ∧
      ∀ p w, s.patronAt l.patronSlot = some p → w = s.walkLoan l p → l.charged ≤ s.calendar.closeDay →
        ∃ t, exec (.loansStep x) s = .next t ∧ rest t ∧
          Tbl.lookup t.loans n =
            some (.active { l with overdue := w.overdue, accrued := w.accrued, charged := s.calendar.closeDay }) ∧
          (∀ k, k ≠ n → Tbl.lookup t.loans k = if gone k then none else Tbl.lookup s.loans k) ∧
          (let after := { p with balance := w.balance, loans := p.loans.filter fun k => !gone k }
           t.patronAt l.patronSlot =
             some (if 0 < w.balanceAdded then { after with blocked := s.blockDue after } else after) ∧
           (0 < w.balanceAdded → .balance p.id w.balance p.pending (s.blockDue after) ∈ t.link.outbound)) ∧
          (∀ k, k ≠ l.patronSlot → Tbl.lookup t.patrons k = (Tbl.lookup s.patrons k).map (PatronRec.losing gone)) ∧
          moves t (s.calendar.closeDay - l.charged) w.balanceAdded) ∧
  (∀ (s : State) (l : Loan) (p : Patron) m,
    let rules := s.schedule.cls l.cls
    let pressed := rules.threshold ≠ 0 ∧
      ∃ n tt, s.findTitle l.title = some n ∧ s.titleAt n = some tt ∧ rules.threshold ≤ tt.waiting
    (pressed ∧ m = 2 ∨ ¬ pressed ∧ m = 1) →
    let charge := (rules.rate * (s.schedule.category p.category).factor * m + 50) / 100
    let counted := s.calendar.overdueDays l.due (l.charged + 1) (s.calendar.closeDay - l.charged)
    let charged := if 255 ≤ rules.grace then 0 else counted - (rules.grace - l.overdue)
    let fine := min (charged * charge) (rules.cap - l.accrued)
    let balance := max p.balance (min 999999 (p.balance + fine))
    s.walkLoan l p =
      ⟨if counted = 0 then l.overdue else min 255 (l.overdue + counted), l.accrued + fine, balance, charged, fine,
        balance - p.balance⟩) ∧
  ∀ (s : State) n l, s.upsets = [] → s.loanAt n = some l →
    (s.patronAt l.patronSlot = none ∨ s.calendar.closeDay ≤ l.charged → s.evaluate n = (s, ⟨0, 0, 0, 0, 0⟩)) ∧
    ∀ p w, s.patronAt l.patronSlot = some p → l.charged < s.calendar.closeDay → w = s.walkLoan l p →
      let x := s.evaluate n
      let dropped := w.accruedAdded - w.balanceAdded
      x.2 = ⟨s.calendar.closeDay - l.charged, w.daysCharged, w.accruedAdded, w.balanceAdded, dropped⟩ ∧
      x.1.tables = { s.tables with
        loans := Tbl.store s.loans n
          (.active { l with overdue := w.overdue, accrued := w.accrued, charged := s.calendar.closeDay })
        patrons := Tbl.store s.patrons l.patronSlot (.resident { p with balance := w.balance }) } ∧
      (dropped = 0 → x.1.faults = s.faults) ∧ (dropped ≠ 0 → x.1.faults.has .balanceCeiling = true)

/-- A HOLDS step works the first RESIDENT title at or after the cursor (R134 to R139): it makes at most four changes, each
the first one due then, and leaves the cursor there with the phase of the change that is left, or finishes the title:
released when its queue is empty and no TITLE_FETCH question is out about it, kept otherwise, with the cursor past it.
Due is first the first SUSPENDED entry whose day has come (R135), which is resumed; then the first READY entry whose
deadline is at or before C (R136), which is removed as EXPIRED and its copy offered on; then the first item whose entry is
DAMAGED (R137), which is removed as LOST; and with none of the three nothing is due, so that a title without work is
finished by a step that makes no change (R138). The summary counts resumptions and expiries, but no removal as LOST (R129).
Each change posts its notices, which stand in the outbound queue after the step: a resumption HOLD_CHANGE (WAITING) with the
entry's position, and TRAPPED when a shelf copy traps it; an expiry HOLD_CHANGE (EXPIRED) and then TRAPPED for the first
WAITING entry or, with none, COPY_RELEASED with the shelf count, before which a COUNT_CLAMP at 255 may report its FAULT
(R94); a removal HOLD_CHANGE (LOST). That at a close day of 65,534 an entry trapped by this step is itself due is the
model's reading (notes/assumptions/43.md). -/
def Obligations.HoldsStepWorksTheNextTitle : Prop :=
  (∀ (s : State) (op : Op) (x : Crossing) n tt, Granted s op x → op.kind = .holdsStep → 8 ≤ op.reservation →
    s.sweep.cursor ≤ n → (∀ m, s.sweep.cursor ≤ m → m < n → s.titleAt m = none) → s.titleAt n = some tt →
    let v := State.makeChanges n 4 s
    ∃ t left, exec (.holdsStep x) s = .next t ∧ v.titleAt n = some left ∧
      (∀ m ∈ v.link.outbound, (∀ l life reason gen roll, m ≠ .laneState l life reason gen roll) →
        m ∈ t.link.outbound) ∧
      (x.claims = [] → t.link.outbound = v.link.outbound) ∧
      (∀ c, v.dueChange left = some c →
        t.tables = { v.tables with sweep := { v.sweep with cursor := n, phase := c.phase } }) ∧
      (v.dueChange left = none →
        let gone := left.queue = [] ∧ ∀ q ∈ v.questions, ¬ (q.kind = .titleFetch ∧ q.subject = left.id)
        (gone → t.tables = { v.tables with
          titles := Tbl.release v.titles n
          sweep := { v.sweep with
            cursor := n + 1, phase := .nextTitle
            current := { v.sweep.current with released := min 65535 (v.sweep.current.released + 1) } } }) ∧
        (¬ gone → t.tables = { v.tables with sweep := { v.sweep with cursor := n + 1, phase := .nextTitle } }))) ∧
  ∀ (s : State) n tt, s.upsets = [] → s.titleAt n = some tt →
    (∀ k, State.makeChanges n k s =
      match k, s.dueChange tt with
      | k + 1, some c => State.makeChanges n k (s.makeChange n tt.id c)
      | _, _ => s) ∧
    (let resumes (h : Hold) := ∃ day, h.state = .suspended day ∧ day ≤ s.today
     let expires (h : Hold) := ∃ deadline copy, h.state = .ready deadline copy ∧ deadline ≤ s.calendar.closeDay
     ((∀ j ∈ tt.queue, ∃ g, s.holdAt j.slot = some g ∧ ¬ resumes g ∧ ¬ expires g) → s.dueChange tt = none) ∧
     ∀ before i after, tt.queue = before ++ i :: after →
      (∀ h, s.holdAt i.slot = some h → resumes h → (∀ j ∈ before, ∀ g, s.holdAt j.slot = some g → ¬ resumes g) →
        s.dueChange tt = some (.resume i h)) ∧
      (∀ h, s.holdAt i.slot = some h → expires h → (∀ j ∈ before, ∀ g, s.holdAt j.slot = some g → ¬ expires g) →
        (∀ j ∈ tt.queue, ∀ g, s.holdAt j.slot = some g → ¬ resumes g) → s.dueChange tt = some (.expire i h)) ∧
      (s.holdAt i.slot = none → (∀ j ∈ before, s.holdAt j.slot ≠ none) →
        (∀ j ∈ tt.queue, ∀ g, s.holdAt j.slot = some g → ¬ resumes g ∧ ¬ expires g) →
        s.dueChange tt = some (.remove i))) ∧
    (∀ i h, s.holdAt i.slot = some h →
      let deadline := s.calendar.openDay (s.today + s.schedule.globals.pickupDays)
      let v := s.makeChange n tt.id (.resume i h)
      v.tables = { s.tables with
        pool := Tbl.store s.pool i.slot
          (.entry { h with state := if 0 < tt.shelf then .ready deadline none else .waiting })
        titles := Tbl.store s.titles n (.resident
          (if 0 < tt.shelf then { tt with shelf := tt.shelf - 1, ready := tt.ready + 1 }
           else { tt with waiting := tt.waiting + 1 }))
        sweep := { s.sweep with
          current := { s.sweep.current with resumed := min 65535 (s.sweep.current.resumed + 1) } } }) ∧
    (∀ i h deadline copy, h.state = .ready deadline copy →
      let v := ((s.removeEntry n tt.id i .expired).offerCopy n copy (some h.branch)).1
      (s.makeChange n tt.id (.expire i h)).tables = { v.tables with
        sweep := { s.sweep with
          current := { s.sweep.current with expired := min 65535 (s.sweep.current.expired + 1) } } }) ∧
    (∀ i, (s.makeChange n tt.id (.remove i)).tables = (s.removeEntry n tt.id i .lost).tables ∧
      (s.makeChange n tt.id (.remove i)).sweep = s.sweep) ∧
    ∀ op, s.engine = .busy op → op.waiting = [] → 2 ≤ op.reservation →
      let deadline := s.calendar.openDay (s.today + s.schedule.globals.pickupDays)
      let posts (c : Change) (ns : List Notice) :=
        let v := s.makeChange n tt.id c
        v.link.outbound = s.link.outbound ++ ns ∧ v.upsets = [] ∧
          ∃ o, v.engine = .busy o ∧ o.waiting = [] ∧ op.reservation ≤ o.reservation + 2
      (∀ before i after h, tt.queue = before ++ i :: after → (∀ j ∈ before, j.slot ≠ i.slot) → s.holdAt i.slot = some h →
        let ahead := (before.filterMap fun j => s.holdAt j.slot).filter fun g => g.isWaiting || g.isSuspended
        posts (.resume i h)
          (.holdChange tt.id i.patron .waiting (1 + ahead.length) ::
            if 0 < tt.shelf then [.trapped tt.id h.patron h.branch deadline none none] else [])) ∧
      (∀ i h day copy left, h.state = .ready day copy →
        let w := s.removeEntry n tt.id i .expired
        w.titleAt n = some left →
        (∀ j g, w.firstWaiting left = some (j, g) →
          posts (.expire i h)
            [.holdChange tt.id i.patron .expired 0, .trapped tt.id g.patron g.branch deadline copy (some h.branch)]) ∧
        (w.firstWaiting left = none →
          ∃ logged : List Notice, (∀ m ∈ logged, ∃ f k, m = .fault f k) ∧ (tt.shelf < 255 → logged = []) ∧
            posts (.expire i h)
              (.holdChange tt.id i.patron .expired 0 :: logged ++
                [.copyReleased tt.id copy (some h.branch) (if 255 ≤ tt.shelf then tt.shelf else tt.shelf + 1)]))) ∧
      ∀ i, posts (.remove i) [.holdChange tt.id i.patron .lost 0]

/-- The closing step (R140): UNKNOWN records and forgotten DAMAGED ones that no loan names are freed, the summary with
the freed count becomes the last one and goes out in SWEEP_DONE, and the Sweep Unit is IDLE with its target day kept. A
patron freed here is absent from then on. -/
def Obligations.ClosingStepEndsTheSweep : Prop :=
  ∀ (s : State) (op : Op) (x : Crossing), Granted s op x → op.kind = .holdsStep → 1 ≤ op.reservation →
    (∀ n, s.sweep.cursor ≤ n → s.titleAt n = none) →
    ∃ t, exec (.holdsStep x) s = .next t ∧
      (let freed := (s.patrons.filter fun e => match e.2 with | .unknown _ _ => true | _ => false).length
       let summary := { s.sweep.current with freed := min 65535 (s.sweep.current.freed + freed) }
       (∀ n r, Tbl.lookup t.patrons n = some r ↔
          Tbl.lookup s.patrons n = some r ∧ (∀ id day, r ≠ .unknown id day) ∧
            ¬ (r = .damaged 0 ∧ ∀ k l, s.loanAt k = some l → l.patronSlot ≠ n)) ∧
       t.sweep = { s.sweep with
          state := .idle, phase := .none, cursor := 0, complete := true, current := .zero, last := summary } ∧
       .sweepDone summary ∈ t.link.outbound ∧
       (x.claims = [] → t.link.outbound = s.link.outbound ++ [.sweepDone summary])) ∧
      (∀ id, (∀ n r, Tbl.lookup s.patrons n = some r → r.id = id → ∃ day, r = .unknown id day) →
        t.findPatron id = none) ∧
      t.loans = s.loans ∧ t.titles = s.titles ∧ t.pool = s.pool ∧ t.calendar = s.calendar ∧
      t.schedule = s.schedule ∧ t.tags = s.tags ∧ t.tagLine = s.tagLine

/-! ## Request tags that run out of time -/

/-- TAG_DEADLINE (R148): the OUTSTANDING tags named become DUE and join the end of the line in order of number; no other
tag, no record of a tag and no other table changes. That the command names the tags whose deadlines pass is the model's
own (notes/assumptions/38.md). -/
def Obligations.DeadlinesMakeTagsDueInOrderOfNumber : Prop :=
  ∀ (s : State) numbers, s.settled →
    ∃ t, exec (.tagDeadline numbers) s = .next t ∧
      (∀ n : Fin 32, t.tags.get n =
        if n ∈ numbers ∧ (s.tags.get n).state = .outstanding then { s.tags.get n with state := .due }
        else s.tags.get n) ∧
      t.tagLine = s.tagLine ++
        ((List.finRange 32).filter fun n => decide (n ∈ numbers ∧ (s.tags.get n).state = .outstanding)).map Fin.val ∧
      t.patrons = s.patrons ∧ t.loans = s.loans ∧ t.titles = s.titles ∧ t.pool = s.pool ∧ t.calendar = s.calendar ∧
      t.schedule = s.schedule ∧ t.sweep = s.sweep

/-- The expiry of a number whose question is out (R151): the number is retired (R152), the FETCHING record that holds the tag
becomes FREE (R23, R107), or the reserve is released with a BALANCE (R119), and a parked placement or a card payment leaves a
TIMED_OUT notice at its station while its lane is attached as at the request, whose parked count then falls by 1 (R153),
where no warm reset is owed, which clears the lanes with the completion (R11). The expiry of a DAMAGED number (R155): the
FETCHING records of the tag become FREE, each RESIDENT record's pending credit becomes the sum of the reserves still out,
with a BALANCE where it changes, the attached lanes' parked counts become the questions still out from their stations, and
the number is retired. That a payment of a record that is not RESIDENT changes no record, a reserve above the pending credit
leaves it at 0, and a number whose generation was lost holds FETCHING records by its number alone, is the model's
(notes/assumptions/32.md, 42.md, 31.md), and so is that one expiry settles every record that differs, where a second DAMAGED
number, or an id that was lost and loaded anew, lets several differ (62.md, 68.md), and that the pending credit of such an
id then stands above its balance where its reserves do (68.md). -/
def Obligations.ExpiryEndsTheQuestion : Prop :=
  ∀ (s : State) (op : Op) (x : Crossing) (n : Fin 32), Granted s op x → op.kind = .tagExpiry n.val →
    1 ≤ op.reservation →
    let ended (t : State) :=
      t.tags.get n = (s.tags.get n).retired ∧ (∀ k, k ≠ n → t.tags.get k = s.tags.get k) ∧
        t.tagLine = s.tagLine.filter (· != n.val) ∧ t.loans = s.loans ∧ t.pool = s.pool ∧ t.calendar = s.calendar ∧
        t.schedule = s.schedule ∧ t.sweep = s.sweep
    (∀ q, (s.tags.get n).asked = some q →
     ∃ t, exec (.tagExpiry x) s = .next t ∧ ended t ∧
      (q.kind = .patronFetch →
        t.titles = s.titles ∧
        (∀ k id day, s.findPatron q.subject = some k →
          Tbl.lookup s.patrons k = some (.fetching id day ⟨n.val, (s.tags.get n).gen⟩) →
          Tbl.lookup t.patrons k = none ∧ ∀ j, j ≠ k → Tbl.lookup t.patrons j = Tbl.lookup s.patrons j) ∧
        ((∀ k id day, s.findPatron q.subject = some k →
          Tbl.lookup s.patrons k ≠ some (.fetching id day ⟨n.val, (s.tags.get n).gen⟩)) → t.patrons = s.patrons)) ∧
      (q.kind = .titleFetch →
        t.patrons = s.patrons ∧
        (∀ k id, s.findTitle q.subject = some k →
          Tbl.lookup s.titles k = some (.fetching id ⟨n.val, (s.tags.get n).gen⟩) →
          Tbl.lookup t.titles k = none ∧ ∀ j, j ≠ k → Tbl.lookup t.titles j = Tbl.lookup s.titles j) ∧
        ((∀ k id, s.findTitle q.subject = some k →
          Tbl.lookup s.titles k ≠ some (.fetching id ⟨n.val, (s.tags.get n).gen⟩)) → t.titles = s.titles) ∧
        ∀ o k, q.origin = some o → q.parked = some k → op.resetOwed = false →
          let notice : StationNotice := ⟨.holdResult, k.patron, q.subject, .timedOut, n.val, false⟩
          (s.standsFor o → notice ∈ (t.stationAt o).stack) ∧ (op.handed = [] → Stacks s t o notice)) ∧
      (q.kind = .cardAuth →
        t.titles = s.titles ∧
        (∀ k p, s.findPatron q.subject = some k → s.patronAt k = some p →
          t.patronAt k = some { p with pending := p.pending - q.reserve } ∧
          (∀ j, j ≠ k → Tbl.lookup t.patrons j = Tbl.lookup s.patrons j) ∧
          .balance p.id p.balance (p.pending - q.reserve) p.blocked ∈ t.link.outbound) ∧
        ((∀ k, s.findPatron q.subject = some k → s.patronAt k = none) → t.patrons = s.patrons) ∧
        ∀ o, q.origin = some o → op.resetOwed = false →
          let notice : StationNotice := ⟨.cardResult, q.subject, 0, .timedOut, n.val, false⟩
          (s.standsFor o → notice ∈ (t.stationAt o).stack) ∧ (op.handed = [] → Stacks s t o notice))) ∧
    ((s.tags.get n).state = .damaged →
     ∃ t, exec (.tagExpiry x) s = .next t ∧ ended t ∧
      (let held (tag : TagId) := tag.number = n.val ∧ ((s.tags.get n).mapLost = true ∨ tag.gen = (s.tags.get n).gen)
       (∀ k id day tag, Tbl.lookup s.patrons k = some (.fetching id day tag) →
          (held tag → Tbl.lookup t.patrons k = none) ∧
          (¬ held tag → Tbl.lookup t.patrons k = some (.fetching id day tag))) ∧
       (∀ k p, s.patronAt k = some p → t.patronAt k = some { p with pending := s.reserves p.id }) ∧
       (∀ k, (∀ id day tag, Tbl.lookup s.patrons k ≠ some (.fetching id day tag)) → s.patronAt k = none →
          Tbl.lookup t.patrons k = Tbl.lookup s.patrons k) ∧
       (∀ k id tag, Tbl.lookup s.titles k = some (.fetching id tag) →
          (held tag → Tbl.lookup t.titles k = none) ∧
          (¬ held tag → Tbl.lookup t.titles k = some (.fetching id tag))) ∧
       (∀ k, (∀ id tag, Tbl.lookup s.titles k ≠ some (.fetching id tag)) →
          Tbl.lookup t.titles k = Tbl.lookup s.titles k)) ∧
      (∀ k p, s.patronAt k = some p → p.pending ≠ s.reserves p.id →
        (∀ j q, s.patronAt j = some q → q.pending ≠ s.reserves q.id → j = k) →
        .balance p.id p.balance (s.reserves p.id) p.blocked ∈ t.link.outbound) ∧
      ∀ l st, (s.lane l).isAttached = true → op.handed = [] →
        ((t.lane l).stations.get st).parked = s.parkedAt ⟨l, st, (s.lane l).gen⟩)

/-! ## Kiosk Lanes: lifecycle -/

/-- LANE_CONTROL by the lane's state (the table of R160): the new state with its reason, LANE_STATE posted (R159) and the
CONFIRM with the lane's state; or the refusal, with no lane changed. From ACTIVE without an exchange, QUIESCING and FAULTED
the lane is cut (R162): exchange, held calls, offer and timers go, the stations' stacks, parked counts and detail records
and the roll are emptied, and the generation stays; from DETACHED, SETTLING and IDENTIFYING only the timers stop. A
DISABLE during an exchange leaves the lane QUIESCING with all of it kept, but that a held call is answered (CHECK,
LANE_CLOSING) at once when the exchange is in WORKING (R161). No table and no other lane changes. A lane above 15 or an
action above 2 is BAD_MESSAGE and changes nothing; that its CONFIRM carries no fields, and that any of the three rows
performs a message whose action does not exist, are the model's readings (notes/assumptions/24.md, 34.md), as is that an
ENABLE which finds carrier present posts DETACHED and confirms SETTLING (18.md). Where the lanes are compared, no waiter
claims room, and the message's operation carries no answer and no station notice, as no message's does before it is
performed; the search that follows stands apart. -/
def Obligations.LaneControlActsByTheState : Prop :=
  (∀ (s : State) (op : Op) (x : Crossing) (l : Lane), 4 ≤ op.reservation →
    let u := s.lane l
    let plain := x.claims = [] ∧ op.handed = [] ∧ op.answer = none
    let quiet (t : State) := t.tables = s.tables ∧ ∀ k, k ≠ l → (t.lane k).life = (s.lane k).life
    let changed (c : Instr) (posted after : LaneUnit) (words : List LaneWord) :=
      (∃ t, exec c s = .next t ∧ quiet t ∧ (t.lane l).life = after.life ∧ (t.lane l).reason = after.reason ∧
        (t.lane l).gen = u.gen ∧ .laneState l posted.life posted.reason u.gen posted.roll ∈ t.link.outbound ∧
        Confirms s t 12 .ok [⟨1, after.life.number⟩]) ∧
      (plain → ∃ v : State, exec c s = .next v.search.startSending ∧ v.lane l = after ∧
        (∀ k, k ≠ l → v.lane k = s.lane k) ∧ v.laneOut = s.laneOut ++ words.map fun w => (l, w))
    let kept (c : Instr) (status : Status) :=
      (∃ t, exec c s = .next t ∧ quiet t ∧ (t.lane l).life = u.life ∧ Confirms s t 12 status [⟨1, u.life.number⟩]) ∧
      (plain → ∃ v : State, exec c s = .next v.search.startSending ∧ v.lanes = s.lanes ∧ v.laneOut = s.laneOut)
    let stopped (reason : LaneReason) : LaneUnit :=
      { u with timer := .off, stateOwed := false, life := .disabled, reason := reason }
    let cut (life : Lifecycle) (reason : LaneReason) : LaneUnit :=
      { u with
        exchange := none, held := 0, offer := .none, closingCall := none, timer := .off,
        stations := Vector.replicate 4 ⟨[], 0, ⟨.none, none, 0⟩⟩, roll := 0, stateOwed := false, life := life,
        reason := reason }
    (Performs s op x (.laneControl l.val 0) →
      (u.life = .disabled ∨ u.life = .faulted →
        changed (.laneControlEnable x) (cut .detached .enabled)
          (if u.carrier then { cut .settling .enabled with timer := .settle } else cut .detached .enabled) []) ∧
      (u.life = .quiescing → kept (.laneControlEnable x) .laneBusy) ∧
      (u.life = .detached ∨ u.life = .settling ∨ u.life = .identifying ∨ u.life = .active →
        kept (.laneControlEnable x) .wrongState)) ∧
    (Performs s op x (.laneControl l.val 1) →
      (u.life = .detached ∨ u.life = .settling ∨ u.life = .identifying →
        changed (.laneControlDisable x) (stopped .disabled) (stopped .disabled) []) ∧
      ((u.life = .active ∧ u.exchange = none) ∨ u.life = .faulted →
        changed (.laneControlDisable x) (cut .disabled .disabled) (cut .disabled .disabled) []) ∧
      (∀ ex, u.life = .active → u.exchange = some ex →
        let closing : LaneUnit := { u with stateOwed := false, life := .quiescing, reason := .quiescing }
        let working := ∃ phase, ex.step = .working phase
        (¬ working ∨ u.closingCall ≠ none ∨ StationSet.lowest u.held = none →
          changed (.laneControlDisable x) closing closing []) ∧
        ∀ st, working → u.closingCall = none → StationSet.lowest u.held = some st →
          changed (.laneControlDisable x) closing
            { closing.mapStation st fun y => { y with detail := ⟨.check .laneClosing, none, 0⟩ } with
              held := StationSet.remove u.held st, closingCall := some st, timer := .reply }
            [.final st (.check .laneClosing)]) ∧
      (u.life = .quiescing → kept (.laneControlDisable x) .laneBusy) ∧
      (u.life = .disabled → kept (.laneControlDisable x) .ok)) ∧
    (Performs s op x (.laneControl l.val 2) →
      (u.life = .detached ∨ u.life = .settling ∨ u.life = .identifying →
        changed (.laneControlAbort x) (stopped .aborted) (stopped .aborted) []) ∧
      (u.life = .active ∨ u.life = .quiescing ∨ u.life = .faulted →
        changed (.laneControlAbort x) (cut .disabled .aborted) (cut .disabled .aborted) []) ∧
      (u.life = .disabled → kept (.laneControlAbort x) .ok))) ∧
  ∀ (s : State) (op : Op) (x : Crossing) lane action c, Performs s op x (.laneControl lane action) →
    4 ≤ op.reservation →
    (15 < lane ∧ (action, c) ∈ [(0, Instr.laneControlEnable x), (1, .laneControlDisable x), (2, .laneControlAbort x)] ∨
      2 < action ∧ c ∈ [Instr.laneControlEnable x, .laneControlDisable x, .laneControlAbort x]) →
    (∃ t, exec c s = .next t ∧ t.tables = s.tables ∧ Confirms s t 12 .badMessage []) ∧
    (x.claims = [] → op.handed = [] → op.answer = none →
      ∃ v : State, exec c s = .next v.search.startSending ∧ v.lanes = s.lanes ∧ v.laneOut = s.laneOut)

/-- Carrier, timers and ROLL move the lifecycle as the table of R158 says; a change that R159 reports is announced; a
ROLL outside IDENTIFYING is ignored. Nothing but the lane and its announcement changes. When the reply timer runs out
the lane is FAULTED and cut, LANE_INTERLOCK is logged with the awaited station and the kind of the open request, and
LANE_STATE (INTERLOCK) is announced (R163). The model's readings: the carrier's level is recorded in DISABLED and FAULTED
too, and a ROLL out of place is not logged (notes/assumptions/19.md); a timer that is not running cannot run out (1.md); and
a FAULTED lane keeps its roll, as R162 says against R157 and R158 (64.md). A change is announced as R159 says: an unsent
LANE_STATE of the lane takes the new values in its place; without one the notice takes a free entry; and with none free
(or none for the lane, while the engine has posts waiting for room, R8) it is owed. It is owed no longer once one stands
in the queue (the model's reading, 18.md). -/
def Obligations.CarrierTimersAndRollMoveTheLifecycle : Prop :=
  (∀ (s : State) (l : Lane), s.settled →
      let u := s.lane l
      let moves (c : Instr) (u' : LaneUnit) (words : List LaneWord) :=
        ∃ v, OnlyLane s v l u' words ∧ exec c s = .next v.startSending
      let announces (c : Instr) (u' : LaneUnit) :=
        ∃ v : State, OnlyLane s v l u' [] ∧ exec c s = .next (v.announce l).startSending
      (u.life = .detached →
        moves (.carrierPresent l) { u with carrier := true, life := .settling, timer := .settle } []) ∧
      (u.life = .settling →
        moves (.carrierLost l) { u with carrier := false, life := .detached, timer := .off } [] ∧
        moves (.settleTimerExpiry l) { u with life := .identifying, timer := .identify } [.identify]) ∧
      (u.life = .identifying →
        (∀ r, announces (.roll l r)
          { u with timer := .off, roll := r, gen := (u.gen + 1) % 65536, life := .active, reason := .attached }) ∧
        announces (.identifyTimerExpiry l) { u with timer := .off, life := .disabled, reason := .attachFailed } ∧
        announces (.carrierLost l)
          { u with carrier := false, timer := .off, life := .detached, reason := .carrierLost }) ∧
      (u.isAttached = true →
        announces (.carrierLost l)
          { u with
            carrier := false, exchange := none, held := 0, offer := .none, closingCall := none, timer := .off,
            stations := Vector.replicate 4 ⟨[], 0, ⟨.none, none, 0⟩⟩, roll := 0, life := .detached,
            reason := .carrierLost }) ∧
      (u.life = .disabled ∨ u.life = .faulted →
        moves (.carrierLost l) { u with carrier := false } [] ∧
        moves (.carrierPresent l) { u with carrier := true } []) ∧
      (u.life ≠ .identifying → ∀ r, exec (.roll l r) s = .next s.startSending)) ∧
  (∀ (s : State) (l : Lane), s.settled →
    let u := s.lane l
    (u.timer ≠ .reply → exec (.replyTimerExpiry l) s = .next s.startSending) ∧
    (u.timer = .reply →
      let source : Source :=
        match u.awaited with
        | some st => .laneStation l st
        | none => .lane l
      ∃ v : State,
        OnlyLane
          (s.logFault .laneInterlock source { Context.empty with kind := codeRef (u.exchange.bind Exchange.code) }) v l
          { u with
            exchange := none, held := 0, offer := .none, closingCall := none, timer := .off, life := .faulted,
            reason := .interlock } [] ∧
        exec (.replyTimerExpiry l) s = .next (v.announce l).startSending)) ∧
  ∀ (s : State) (l : Lane),
    let u := s.lane l
    let news : Notice := .laneState l u.life u.reason u.gen u.roll
    let isOld (n : Notice) := ∃ life reason gen roll, n = .laneState l life reason gen roll
    let outgoing := if s.link.sending then s.link.outbound.take 1 else []
    let hasRoom := (∀ op, s.engine ≠ .waitingRoom op) ∧ (∀ op, s.engine = .busy op → op.waiting = []) ∧
      s.link.outbound.length + s.engine.reservation < 128
    let becomes (queue : List Notice) (owed : Bool) :=
      ∃ v, OnlyLane ({ s with link := { s.link with outbound := queue } } : State) v l { u with stateOwed := owed } [] ∧
        s.announce l = v
    (∀ before old after, s.link.unsent = before ++ old :: after → isOld old → (∀ n ∈ before, ¬ isOld n) →
      becomes (outgoing ++ before ++ news :: after) false) ∧
    ((∀ n ∈ s.link.unsent, ¬ isOld n) →
      (hasRoom → becomes (s.link.outbound ++ [news]) false) ∧ (¬ hasRoom → becomes s.link.outbound true))

/-! ## Kiosk Lanes: the words of stations -/

/-- CALL (R164, R170): on an idle lane the exchange opens with GREET, or closes with UNKNOWN_STATION for a station not on
the roll; during another station's exchange or NOTICE the station joins the held calls; an OFFER is withdrawn; a lane
that is not attached ignores it. On a QUIESCING lane the station joins the held calls too, and in WORKING, while no
LANE_CLOSING final awaits its ACCEPT, the lowest held station leaves them and is sent FINAL (CHECK, LANE_CLOSING) at once
(R161). The station that owes the answer to a NOTICE is ignored and logged (the model's reading of R170's table,
notes/assumptions/21.md). -/
def Obligations.CallOpensAnExchangeOrIsHeld : Prop :=
  ∀ (s : State) (l : Lane) (st : Station), s.settled →
    let u := s.lane l
    let becomes (u' : LaneUnit) (words : List LaneWord) :=
      ∃ v, OnlyLane s v l u' words ∧ exec (.call l st) s = .next v.startSending
    (u.isAttached = false → exec (.call l st) s = .next s.startSending) ∧
    (u.life = .active → u.exchange = none → (∀ o, u.offer ≠ .noticeSent o) →
      (StationSet.has u.roll st = true →
        becomes { u with exchange := some ⟨st, .called, none, 0, []⟩, offer := .none, timer := .reply } [.greet st]) ∧
      (StationSet.has u.roll st = false →
        becomes { u.mapStation st fun y => { y with detail := ⟨.check .unknownStation, none, 0⟩ } with
          exchange := some ⟨st, .closing (.check .unknownStation), none, 0, []⟩, offer := .none, timer := .reply }
          [.final st (.check .unknownStation)])) ∧
    (∀ ex, u.life = .active → u.exchange = some ex → ex.station ≠ st → u.closingCall = none →
      becomes { u with held := StationSet.add u.held st } []) ∧
    (∀ ex, u.life = .quiescing → u.exchange = some ex → ex.station ≠ st →
      let held := StationSet.add u.held st
      (u.closingCall = none →
        ((∀ k, ex.step ≠ .working k) → becomes { u with held := held } []) ∧
        ∀ k first, ex.step = .working k → StationSet.lowest held = some first →
          becomes (u.closingTo held first) [.final first (.check .laneClosing)]) ∧
      ∀ c, u.closingCall = some c → c ≠ st → becomes { u with held := held } []) ∧
    (∀ o, u.life = .active → u.exchange = none → u.offer = .noticeSent o →
      (st ≠ o.station → becomes { u with held := StationSet.add u.held st } []) ∧
      (st = o.station → exec (.call l st) s = .next (s.logLineCheck l (some st) none).startSending))

/-- REQ, ACCEPT and FIELD collect a request (R165, R172): an unknown code and a count not allowed are answered by a
CHECK final, a field refused by (REFUSED, BAD_FIELD) with its index in the detail record, and the last field accepted,
or the ACCEPT of a count of 0, submits the request. The codes with their counts and fields, and the fields with their
numbers and ranges, are those of R172's tables (the numbers are R192's). The model's readings: the FIELD word's own index
byte is not compared, and a BAD_REQUEST or FIELD_COUNT final leaves the detail record without a code
(notes/assumptions/22.md); and on a QUIESCING lane the request just placed lets a held call be answered LANE_CLOSING
before the arbiter's search (56.md). -/
def Obligations.RequestIsCollectedFieldByField : Prop :=
  (let rows : List (ReqCode × List FieldCode × List Nat) :=
    [(.account, [.patron], [1]), (.renew, [.patron, .copy], [2]), (.renewAll, [.patron], [1]),
      (.placeHold, [.patron, .title, .branch, .untilDay], [3, 4]), (.cancelHold, [.patron, .title], [2]),
      (.suspendHold, [.patron, .title, .untilDay], [3]), (.resumeHold, [.patron, .title], [2]),
      (.payCash, [.patron, .amount], [2]), (.payCard, [.patron, .amount, .cardRef], [3]), (.detail, [], [0]),
      (.poll, [], [0])]
   let row : FieldCode → Nat × Nat × Nat
    | .patron => (1, 1, 4294967295)
    | .copy => (2, 1, 4294967295)
    | .title => (3, 1, 16777215)
    | .branch => (4, 0, 63)
    | .untilDay => (5, 0, 65534)
    | .amount => (6, 0, 999999)
    | .cardRef => (7, 0, 4294967295)
   (∀ code : Byte, reqCodeOf code = if code = 0 then none else (rows[code.toNat - 1]?).map Prod.fst) ∧
    ∀ c fields counts, (c, fields, counts) ∈ rows →
      (∀ n, c.allows n = true ↔ n ∈ counts) ∧
      ∀ n (code : Byte) (value : BitVec 32), 1 ≤ n →
        (fieldAccepted c n code value.toNat = true ↔
          ∃ f, fields[n - 1]? = some f ∧ code.toNat = (row f).1 ∧ (row f).2.1 ≤ value.toNat ∧
            value.toNat ≤ (row f).2.2)) ∧
  ∀ (s : State) (l : Lane) ex, Speaks s l ex →
    let u := s.lane l
    let st := ex.station
    (ex.step = .called → ∀ code count,
      (reqCodeOf code = none →
        ∃ v, Closes s v l ex (.check .badRequest) none 0 ∧ exec (.req l st code count) s = .next v.startSending) ∧
      ∀ c, reqCodeOf code = some c →
        (¬ (count.toNat ≤ 15 ∧ c.allows count.toNat = true) →
          ∃ v, Closes s v l ex (.check .fieldCount) none 0 ∧ exec (.req l st code count) s = .next v.startSending) ∧
        (count.toNat ≤ 15 → c.allows count.toNat = true →
          ∃ v, OnlyLane s v l
              { u with
                exchange := some { ex with code := some c, count := count.toNat, step := .begun }, timer := .reply }
              [.begin_ st] ∧
            exec (.req l st code count) s = .next v.startSending)) ∧
    (ex.step = .begun →
      (ex.count ≠ 0 →
        ∃ v, OnlyLane s v l
            { u with exchange := some { ex with step := .collecting 1 }, timer := .reply } [.next st 1] ∧
          exec (.accept l st) s = .next v.search.startSending) ∧
      (ex.count = 0 →
        ∃ v, OnlyLane s v l
            { u with exchange := some { ex with step := .working .atArbiter }, timer := .off } [] ∧
          exec (.accept l st) s = .next (v.answerHeldCall l).search.startSending)) ∧
    (∀ n c code index value, ex.step = .collecting n → ex.code = some c →
      (fieldAccepted c n code value.toNat = false →
        ∃ v, Closes s v l ex (.refused .badField) ex.code n ∧
          exec (.field l st code index value) s = .next v.search.startSending) ∧
      (fieldAccepted c n code value.toNat = true →
        let ex' := { ex with fields := ex.fields ++ [value.toNat] }
        (n < ex.count →
          ∃ v, OnlyLane s v l
              { u with exchange := some { ex' with step := .collecting (n + 1) }, timer := .reply }
              [.next st (n + 1)] ∧
            exec (.field l st code index value) s = .next v.search.startSending) ∧
        (ex.count ≤ n →
          ∃ v, OnlyLane s v l
              { u with exchange := some { ex' with step := .working .atArbiter }, timer := .off } [] ∧
            exec (.field l st code index value) s = .next (v.answerHeldCall l).search.startSending)))

/-- In RESULTS each ACCEPT brings the next result field, then the FINAL; STOP brings the FINAL at once (R166). A FINAL
(REFUSED, BAD_FIELD) of the engine notes the index of the until-day field, 4 in PLACE_HOLD and 3 in SUSPEND_HOLD, and any
other notes 0 (R169, R172). In CLOSING the ACCEPT, or a HALT, ends the exchange: a QUIESCING lane becomes DISABLED (R161),
announced as the statement on the lifecycle says (R159), an ACTIVE one serves its lowest held call (R164), or offers the
oldest undeferred notice of the lowest station that has one (R170), or is idle. On a QUIESCING lane whose exchange is in
WORKING, the ACCEPT or HALT of a LANE_CLOSING final brings the results kept meanwhile, or, with none, the LANE_CLOSING final
of the lowest call still held (R161); an INTERRUPTED final that is kept so is the model's reading
(notes/assumptions/20.md). -/
def Obligations.ResultsAreSentAndTheExchangeEnds : Prop :=
  (∀ (s : State) (l : Lane) ex c k, s.settled → (s.lane l).life = .quiescing → (s.lane l).exchange = some ex →
    (s.lane l).closingCall = some c → ex.step = .working k →
    let u := s.lane l
    let index (f : Final) : Nat :=
      if f = .refused .badField then
        if ex.code = some .placeHold then 4 else if ex.code = some .suspendHold then 3 else 0
      else 0
    let accepted (u' : LaneUnit) (words : List LaneWord) :=
      ∃ v, OnlyLane s v l u' words ∧ exec (.accept l c) s = .next v.search.startSending ∧
        exec (.halt l c) s = .next v.startSending
    (∀ a granted, k = .answered a granted →
      (∀ v0 vs, a.fields = v0 :: vs →
        accepted { u with closingCall := none, exchange := some { ex with step := .results 1 vs a.final }, timer := .reply }
          [.field ex.station 1 v0]) ∧
      (a.fields = [] →
        accepted { u.noteFinal ex.station a.final ex.code (index a.final) with
          closingCall := none, exchange := some { ex with step := .closing a.final }, timer := .reply }
          [.final ex.station a.final])) ∧
    (k = .atArbiter ∨ k = .granted →
      (∀ first, StationSet.lowest u.held = some first →
        accepted (u.closingTo u.held first) [.final first (.check .laneClosing)]) ∧
      (StationSet.lowest u.held = none → accepted { u with closingCall := none, timer := .off } []))) ∧
  ∀ (s : State) (l : Lane) ex, Speaks s l ex →
    let u := s.lane l
    let st := ex.station
    let index (f : Final) : Nat :=
      if f = .refused .badField then
        if ex.code = some .placeHold then 4 else if ex.code = some .suspendHold then 3 else 0
      else 0
    (∀ i v0 vs f, ex.step = .results i (v0 :: vs) f →
      ∃ v, OnlyLane s v l
          { u with exchange := some { ex with step := .results (i + 1) vs f }, timer := .reply }
          [.field st (i + 1) v0] ∧
        exec (.accept l st) s = .next v.search.startSending) ∧
    (∀ i f, ex.step = .results i [] f →
      ∃ v, Closes s v l ex f ex.code (index f) ∧ exec (.accept l st) s = .next v.search.startSending) ∧
    (∀ i vs f, ex.step = .results i vs f →
      ∃ v, Closes s v l ex f ex.code (index f) ∧ exec (.stop l st) s = .next v.startSending) ∧
    (∀ f, ex.step = .closing f →
      (u.life = .quiescing →
        ∃ v : State,
          OnlyLane s v l (({ u with exchange := none, timer := .off } : LaneUnit).cutAndClear.enter .disabled .disabled)
            [] ∧
          exec (.accept l st) s = .next (v.announce l).search.startSending ∧
          exec (.halt l st) s = .next (v.announce l).startSending) ∧
      (u.life = .active → u.offer = .none →
        let ends (u' : LaneUnit) (words : List LaneWord) :=
          ∃ v : State, OnlyLane s v l u' words ∧ exec (.accept l st) s = .next v.search.startSending ∧
            exec (.halt l st) s = .next v.startSending
        let allDeferred (k : Station) := ∀ n ∈ (u.stations.get k).stack, n.deferred = true
        (∀ h, StationSet.lowest u.held = some h → StationSet.has u.roll h = true →
          ends { u with
            exchange := some ⟨h, .called, none, 0, []⟩, held := StationSet.remove u.held h, timer := .reply }
            [.greet h]) ∧
        (∀ (o : Station) before n after, StationSet.lowest u.held = none → (∀ k : Station, k < o → allDeferred k) →
          (u.stations.get o).stack = before ++ n :: after → (∀ m ∈ before, m.deferred = true) → n.deferred = false →
          ends { u with exchange := none, offer := .offered ⟨o, n, false⟩, timer := .reply } [.offer o]) ∧
        (StationSet.lowest u.held = none → (∀ k : Station, allDeferred k) →
          ends { u with exchange := none, timer := .off } [])))

/-- HALT ends the exchange with FINAL (INTERRUPTED, applied): clear before the grant, with a waiting request withdrawn,
and for a request answered without a grant, set from the grant on (R167). While a LANE_CLOSING final of another station
awaits its ACCEPT, the INTERRUPTED final is kept for that ACCEPT, and a second HALT changes nothing (the model's reading,
notes/assumptions/20.md). A HALT from another station than the open exchange's is ignored and logged (R192), and one with
no exchange open, outside an offer, is ignored (R167). -/
def Obligations.HaltInterruptsWithTheAppliedFlag : Prop :=
  (∀ (s : State) (l : Lane) ex, Speaks s l ex →
    let halts (applied : Bool) :=
      ∃ v, Closes s v l ex (.interrupted applied) ex.code 0 ∧ exec (.halt l ex.station) s = .next v.startSending
    (ex.step = .called ∨ ex.step = .begun ∨ (∃ n, ex.step = .collecting n) ∨ ex.step = .working .atArbiter →
      halts false) ∧
    (ex.step = .working .granted ∨ (∃ i vs f, ex.step = .results i vs f) → halts true) ∧
    (∀ a granted, ex.step = .working (.answered a granted) → (∀ b, a.final ≠ .interrupted b) → halts granted) ∧
    (∀ a granted b, ex.step = .working (.answered a granted) → a.final = .interrupted b →
      exec (.halt l ex.station) s = .next s.startSending)) ∧
  (∀ (s : State) (l : Lane) ex, s.settled → (s.lane l).isAttached = true → (s.lane l).exchange = some ex →
    (∀ c, (s.lane l).closingCall = some c → c ≠ ex.station →
      let keeps (applied : Bool) :=
        ∃ v, OnlyLane s v l
            { s.lane l with
              exchange := some
                { ex with step := .working (.answered ⟨[], .interrupted applied⟩ applied) } } [] ∧
          exec (.halt l ex.station) s = .next v.startSending
      (ex.step = .working .atArbiter → keeps false) ∧ (ex.step = .working .granted → keeps true) ∧
      (∀ a granted, ex.step = .working (.answered a granted) → (∀ b, a.final ≠ .interrupted b) → keeps granted) ∧
      (∀ a granted b, ex.step = .working (.answered a granted) → a.final = .interrupted b →
        exec (.halt l ex.station) s = .next s.startSending)) ∧
    ∀ st, st ≠ ex.station → (s.lane l).closingCall ≠ some st →
      exec (.halt l st) s = .next (s.logLineCheck l (some st) none).startSending) ∧
  ∀ (s : State) (l : Lane) st, s.settled → (s.lane l).exchange = none → (s.lane l).offer = .none →
    exec (.halt l st) s = .next s.startSending

/-- A word that fails its check (R168, R158): in CALLED, BEGUN, COLLECTING and RESULTS it is answered FINAL (CHECK,
LINE_CHECK), in CLOSING the FINAL is sent again, in WORKING and outside an exchange it is ignored; LANE_LINE_CHECK is logged
each time. A word of the exchange's station that its step does not await, of any type, is treated so too (R164, R168), but
that in COLLECTING it is a missing field, answered (REFUSED, BAD_FIELD) (R165). A word of another station, but for a CALL,
and a word outside an exchange or of no part in an offer (R170), is ignored and logged (R192, R158). While a LANE_CLOSING
final awaits its ACCEPT, any other word of its station but HALT brings it again, logged (R161); the exchange's own station
is then in WORKING. The model's readings: that a received IDENTIFY, whose station field is not examined (R192), counts as
the word of the open exchange's station, or of the LANE_CLOSING final's, that one outside an exchange is logged without a
station, and that on a lane out of service good words are ignored without a log (notes/assumptions/19.md); that a failed
word then brings the LANE_CLOSING final again (20.md); that the offer a failed word withdraws is sent again at once (21.md);
and that an ACCEPT-OFFER inside the exchange of its own station is answered as R168 says (46.md). -/
def Obligations.FailedWordsAreLoggedAndAnswered : Prop :=
  (∀ (s : State) (l : Lane) ex, Speaks s l ex →
    let u := s.lane l
    let logged := s.logLineCheck l (some ex.station) ex.code
    let failed : Instr := .wordCheckFailure l .failed
    let stray (w : Instr) :=
      isWord l ex.station w ∧ ex.step.awaits w = false ∨ w = .wordCheckFailure l .identify
    let checked (w : Instr) :=
      ∃ v, Closes logged v l ex (.check .lineCheck) ex.code 0 ∧ exec w s = .next (afterWord w v)
    (∀ w, stray w ∨ w = failed →
      (ex.step = .called ∨ ex.step = .begun ∨ (∃ i vs f, ex.step = .results i vs f) → checked w) ∧
      (∀ f, ex.step = .closing f →
        ∃ v, OnlyLane logged v l { u with timer := .reply } [.final ex.station f] ∧ exec w s = .next (afterWord w v)) ∧
      (∀ k, ex.step = .working k → exec w s = .next (afterWord w logged))) ∧
    (∀ n, ex.step = .collecting n → checked failed ∧ ∀ w, stray w →
      ∃ v, Closes s v l ex (.refused .badField) ex.code n ∧ exec w s = .next (afterWord w v)) ∧
    ∀ st w, st ≠ ex.station → isWord l st w → w ≠ .call l st →
      exec w s = .next (afterWord w (s.logLineCheck l (some st) none))) ∧
  (∀ (s : State) (l : Lane) ex c, s.settled → (s.lane l).isAttached = true → (s.lane l).exchange = some ex →
    (s.lane l).closingCall = some c →
    (∀ w, isWord l c w ∧ w ≠ .accept l c ∨ w = .wordCheckFailure l .failed ∨ w = .wordCheckFailure l .identify →
      ∃ v, OnlyLane (s.logLineCheck l (some c) none) v l { s.lane l with timer := .reply }
          [.final c (.check .laneClosing)] ∧
        exec w s = .next (afterWord w v)) ∧
    (∀ k w, ex.step = .working k → ex.station ≠ c → isWord l ex.station w →
      exec w s = .next (afterWord w (s.logLineCheck l (some ex.station) ex.code))) ∧
    ∀ st w, st ≠ ex.station → st ≠ c → isWord l st w → w ≠ .call l st →
      exec w s = .next (afterWord w (s.logLineCheck l (some st) none))) ∧
  ∀ (s : State) (l : Lane), s.settled → (s.lane l).exchange = none →
    let u := s.lane l
    let logged := s.logLineCheck l none none
    (u.offer = .none → exec (.wordCheckFailure l .failed) s = .next logged.startSending) ∧
    (u.offer ≠ .none →
      ∃ v : State, OnlyLane logged v l { u with offer := .none, timer := .off } [] ∧
        exec (.wordCheckFailure l .failed) s = .next (v.useIdleLine l).startSending) ∧
    (u.isAttached = true →
      exec (.wordCheckFailure l .identify) s = .next logged.startSending ∧
      ∀ st w, isWord l st w → w ≠ .call l st → (∀ o, u.offer = .offered o → w ≠ .acceptOffer l o.station) →
        (∀ o, u.offer = .noticeSent o → w ≠ .accept l o.station ∧ w ≠ .defer l o.station) →
        exec w s = .next (afterWord w (s.logLineCheck l (some st) none))) ∧
    (u.isAttached = false →
      exec (.wordCheckFailure l .identify) s = .next s.startSending ∧
      ∀ st w, isWord l st w → exec w s = .next (afterWord w s))

/-- The offer of a stacked notice on an ACTIVE lane (the table of R170): ACCEPT-OFFER brings the NOTICE; ACCEPT of the
NOTICE takes it off the stack; DEFER or HALT of it, and HALT of the OFFER, leave it deferred; the line is then free. A
notice that a POLL has taken since leaves the stack as it is (the model's own, notes/assumptions/47.md). -/
def Obligations.OffersAreAnsweredAsTheTableSays : Prop :=
  ∀ (s : State) (l : Lane) (o : Offering) before after, s.settled → (s.lane l).life = .active →
    (s.lane l).exchange = none →
    let u := s.lane l
    let st := o.station
    let stack := (u.stations.get st).stack
    (o.taken = false → stack = before ++ o.notice :: after ∧ (∀ m ∈ before, m.deferred = true) ∧
      o.notice.deferred = false) →
    let restacked (stack : List StationNotice) : LaneUnit :=
      { u.mapStation st fun y => { y with stack := stack } with offer := .none, timer := .off }
    let deferred := if o.taken then stack else before ++ { o.notice with deferred := true } :: after
    let dropped := if o.taken then stack else before ++ after
    (u.offer = .offered o →
      (∃ v, OnlyLane s v l { u with offer := .noticeSent o, timer := .reply } [.notice st o.notice] ∧
        exec (.acceptOffer l st) s = .next v.startSending) ∧
      ∃ v : State, OnlyLane s v l (restacked deferred) [] ∧
        exec (.halt l st) s = .next (v.useIdleLine l).startSending) ∧
    (u.offer = .noticeSent o →
      (∃ v : State, OnlyLane s v l (restacked dropped) [] ∧
        exec (.accept l st) s = .next (v.useIdleLine l).search.startSending) ∧
      ∃ v : State, OnlyLane s v l (restacked deferred) [] ∧
        exec (.defer l st) s = .next (v.useIdleLine l).startSending ∧
        exec (.halt l st) s = .next (v.useIdleLine l).startSending)
end

