-- ==== Sys2Proof/Laws/State.lean ====
section
/-! SUPPORT. One lemma per field per update of the state, each true by unfolding one record update, so that no later
proof opens one. -/

namespace Sys2Proof.Machine

variable (s : State)

/-- With no error there is none after any access. -/
@[simp] theorem passWhere_nil (w : RecordId → Bool) : passWhere w [] = [] := rfl

@[simp] theorem State.setPatron_engine (n : Nat) (r : PatronRec) : (s.setPatron n r).engine = s.engine := rfl
@[simp] theorem State.setPatron_arbiter (n : Nat) (r : PatronRec) : (s.setPatron n r).arbiter = s.arbiter := rfl
@[simp] theorem State.setPatron_patrons (n : Nat) (r : PatronRec) : (s.setPatron n r).patrons = Tbl.store s.patrons n r := rfl
@[simp] theorem State.setPatron_loans (n : Nat) (r : PatronRec) : (s.setPatron n r).loans = s.loans := rfl
@[simp] theorem State.setPatron_titles (n : Nat) (r : PatronRec) : (s.setPatron n r).titles = s.titles := rfl
@[simp] theorem State.setPatron_pool (n : Nat) (r : PatronRec) : (s.setPatron n r).pool = s.pool := rfl
@[simp] theorem State.setPatron_calendar (n : Nat) (r : PatronRec) : (s.setPatron n r).calendar = s.calendar := rfl
@[simp] theorem State.setPatron_schedule (n : Nat) (r : PatronRec) : (s.setPatron n r).schedule = s.schedule := rfl
@[simp] theorem State.setPatron_sweep (n : Nat) (r : PatronRec) : (s.setPatron n r).sweep = s.sweep := rfl
@[simp] theorem State.setPatron_tags (n : Nat) (r : PatronRec) : (s.setPatron n r).tags = s.tags := rfl
@[simp] theorem State.setPatron_tagLine (n : Nat) (r : PatronRec) : (s.setPatron n r).tagLine = s.tagLine := rfl
@[simp] theorem State.setPatron_lanes (n : Nat) (r : PatronRec) : (s.setPatron n r).lanes = s.lanes := rfl
@[simp] theorem State.setPatron_link (n : Nat) (r : PatronRec) : (s.setPatron n r).link = s.link := rfl
@[simp] theorem State.setPatron_faults (n : Nat) (r : PatronRec) : (s.setPatron n r).faults = s.faults := rfl
@[simp] theorem State.setPatron_scrub (n : Nat) (r : PatronRec) : (s.setPatron n r).scrub = s.scrub := rfl
@[simp] theorem State.setPatron_upsets (n : Nat) (r : PatronRec) :
    (s.setPatron n r).upsets = passWhere (slotWrites .patron .patronIndex n
      (decide ((Tbl.lookup s.patrons n).map PatronRec.place ≠ some r.place))) s.upsets := rfl
@[simp] theorem State.setPatron_laneOut (n : Nat) (r : PatronRec) : (s.setPatron n r).laneOut = s.laneOut := rfl
@[simp] theorem State.setPatron_linkOut (n : Nat) (r : PatronRec) : (s.setPatron n r).linkOut = s.linkOut := rfl
@[simp] theorem State.setPatron_pending (n : Nat) (r : PatronRec) : (s.setPatron n r).pending = s.pending := rfl

@[simp] theorem State.freePatron_engine (n : Nat) : (s.freePatron n).engine = s.engine := rfl
@[simp] theorem State.freePatron_arbiter (n : Nat) : (s.freePatron n).arbiter = s.arbiter := rfl
@[simp] theorem State.freePatron_patrons (n : Nat) : (s.freePatron n).patrons = Tbl.release s.patrons n := rfl
@[simp] theorem State.freePatron_loans (n : Nat) : (s.freePatron n).loans = s.loans := rfl
@[simp] theorem State.freePatron_titles (n : Nat) : (s.freePatron n).titles = s.titles := rfl
@[simp] theorem State.freePatron_pool (n : Nat) : (s.freePatron n).pool = s.pool := rfl
@[simp] theorem State.freePatron_calendar (n : Nat) : (s.freePatron n).calendar = s.calendar := rfl
@[simp] theorem State.freePatron_schedule (n : Nat) : (s.freePatron n).schedule = s.schedule := rfl
@[simp] theorem State.freePatron_sweep (n : Nat) : (s.freePatron n).sweep = s.sweep := rfl
@[simp] theorem State.freePatron_tags (n : Nat) : (s.freePatron n).tags = s.tags := rfl
@[simp] theorem State.freePatron_tagLine (n : Nat) : (s.freePatron n).tagLine = s.tagLine := rfl
@[simp] theorem State.freePatron_lanes (n : Nat) : (s.freePatron n).lanes = s.lanes := rfl
@[simp] theorem State.freePatron_link (n : Nat) : (s.freePatron n).link = s.link := rfl
@[simp] theorem State.freePatron_faults (n : Nat) : (s.freePatron n).faults = s.faults := rfl
@[simp] theorem State.freePatron_scrub (n : Nat) : (s.freePatron n).scrub = s.scrub := rfl
@[simp] theorem State.freePatron_upsets (n : Nat) :
    (s.freePatron n).upsets = passWhere (slotWrites .patron .patronIndex n true) s.upsets := rfl
@[simp] theorem State.freePatron_laneOut (n : Nat) : (s.freePatron n).laneOut = s.laneOut := rfl
@[simp] theorem State.freePatron_linkOut (n : Nat) : (s.freePatron n).linkOut = s.linkOut := rfl
@[simp] theorem State.freePatron_pending (n : Nat) : (s.freePatron n).pending = s.pending := rfl

@[simp] theorem State.setLoan_engine (n : Nat) (r : LoanRec) : (s.setLoan n r).engine = s.engine := rfl
@[simp] theorem State.setLoan_arbiter (n : Nat) (r : LoanRec) : (s.setLoan n r).arbiter = s.arbiter := rfl
@[simp] theorem State.setLoan_patrons (n : Nat) (r : LoanRec) : (s.setLoan n r).patrons = s.patrons := rfl
@[simp] theorem State.setLoan_loans (n : Nat) (r : LoanRec) : (s.setLoan n r).loans = Tbl.store s.loans n r := rfl
@[simp] theorem State.setLoan_titles (n : Nat) (r : LoanRec) : (s.setLoan n r).titles = s.titles := rfl
@[simp] theorem State.setLoan_pool (n : Nat) (r : LoanRec) : (s.setLoan n r).pool = s.pool := rfl
@[simp] theorem State.setLoan_calendar (n : Nat) (r : LoanRec) : (s.setLoan n r).calendar = s.calendar := rfl
@[simp] theorem State.setLoan_schedule (n : Nat) (r : LoanRec) : (s.setLoan n r).schedule = s.schedule := rfl
@[simp] theorem State.setLoan_sweep (n : Nat) (r : LoanRec) : (s.setLoan n r).sweep = s.sweep := rfl
@[simp] theorem State.setLoan_tags (n : Nat) (r : LoanRec) : (s.setLoan n r).tags = s.tags := rfl
@[simp] theorem State.setLoan_tagLine (n : Nat) (r : LoanRec) : (s.setLoan n r).tagLine = s.tagLine := rfl
@[simp] theorem State.setLoan_lanes (n : Nat) (r : LoanRec) : (s.setLoan n r).lanes = s.lanes := rfl
@[simp] theorem State.setLoan_link (n : Nat) (r : LoanRec) : (s.setLoan n r).link = s.link := rfl
@[simp] theorem State.setLoan_faults (n : Nat) (r : LoanRec) : (s.setLoan n r).faults = s.faults := rfl
@[simp] theorem State.setLoan_scrub (n : Nat) (r : LoanRec) : (s.setLoan n r).scrub = s.scrub := rfl
@[simp] theorem State.setLoan_upsets (n : Nat) (r : LoanRec) :
    (s.setLoan n r).upsets = passWhere (slotWrites .loan .copyIndex n
      (decide ((Tbl.lookup s.loans n).map LoanRec.place ≠ some r.place))) s.upsets := rfl
@[simp] theorem State.setLoan_laneOut (n : Nat) (r : LoanRec) : (s.setLoan n r).laneOut = s.laneOut := rfl
@[simp] theorem State.setLoan_linkOut (n : Nat) (r : LoanRec) : (s.setLoan n r).linkOut = s.linkOut := rfl
@[simp] theorem State.setLoan_pending (n : Nat) (r : LoanRec) : (s.setLoan n r).pending = s.pending := rfl

@[simp] theorem State.freeLoan_engine (n : Nat) : (s.freeLoan n).engine = s.engine := rfl
@[simp] theorem State.freeLoan_arbiter (n : Nat) : (s.freeLoan n).arbiter = s.arbiter := rfl
@[simp] theorem State.freeLoan_patrons (n : Nat) : (s.freeLoan n).patrons = s.patrons := rfl
@[simp] theorem State.freeLoan_loans (n : Nat) : (s.freeLoan n).loans = Tbl.release s.loans n := rfl
@[simp] theorem State.freeLoan_titles (n : Nat) : (s.freeLoan n).titles = s.titles := rfl
@[simp] theorem State.freeLoan_pool (n : Nat) : (s.freeLoan n).pool = s.pool := rfl
@[simp] theorem State.freeLoan_calendar (n : Nat) : (s.freeLoan n).calendar = s.calendar := rfl
@[simp] theorem State.freeLoan_schedule (n : Nat) : (s.freeLoan n).schedule = s.schedule := rfl
@[simp] theorem State.freeLoan_sweep (n : Nat) : (s.freeLoan n).sweep = s.sweep := rfl
@[simp] theorem State.freeLoan_tags (n : Nat) : (s.freeLoan n).tags = s.tags := rfl
@[simp] theorem State.freeLoan_tagLine (n : Nat) : (s.freeLoan n).tagLine = s.tagLine := rfl
@[simp] theorem State.freeLoan_lanes (n : Nat) : (s.freeLoan n).lanes = s.lanes := rfl
@[simp] theorem State.freeLoan_link (n : Nat) : (s.freeLoan n).link = s.link := rfl
@[simp] theorem State.freeLoan_faults (n : Nat) : (s.freeLoan n).faults = s.faults := rfl
@[simp] theorem State.freeLoan_scrub (n : Nat) : (s.freeLoan n).scrub = s.scrub := rfl
@[simp] theorem State.freeLoan_upsets (n : Nat) :
    (s.freeLoan n).upsets = passWhere (slotWrites .loan .copyIndex n true) s.upsets := rfl
@[simp] theorem State.freeLoan_laneOut (n : Nat) : (s.freeLoan n).laneOut = s.laneOut := rfl
@[simp] theorem State.freeLoan_linkOut (n : Nat) : (s.freeLoan n).linkOut = s.linkOut := rfl
@[simp] theorem State.freeLoan_pending (n : Nat) : (s.freeLoan n).pending = s.pending := rfl

@[simp] theorem State.setTitle_engine (n : Nat) (r : TitleRec) : (s.setTitle n r).engine = s.engine := rfl
@[simp] theorem State.setTitle_arbiter (n : Nat) (r : TitleRec) : (s.setTitle n r).arbiter = s.arbiter := rfl
@[simp] theorem State.setTitle_patrons (n : Nat) (r : TitleRec) : (s.setTitle n r).patrons = s.patrons := rfl
@[simp] theorem State.setTitle_loans (n : Nat) (r : TitleRec) : (s.setTitle n r).loans = s.loans := rfl
@[simp] theorem State.setTitle_titles (n : Nat) (r : TitleRec) : (s.setTitle n r).titles = Tbl.store s.titles n r := rfl
@[simp] theorem State.setTitle_pool (n : Nat) (r : TitleRec) : (s.setTitle n r).pool = s.pool := rfl
@[simp] theorem State.setTitle_calendar (n : Nat) (r : TitleRec) : (s.setTitle n r).calendar = s.calendar := rfl
@[simp] theorem State.setTitle_schedule (n : Nat) (r : TitleRec) : (s.setTitle n r).schedule = s.schedule := rfl
@[simp] theorem State.setTitle_sweep (n : Nat) (r : TitleRec) : (s.setTitle n r).sweep = s.sweep := rfl
@[simp] theorem State.setTitle_tags (n : Nat) (r : TitleRec) : (s.setTitle n r).tags = s.tags := rfl
@[simp] theorem State.setTitle_tagLine (n : Nat) (r : TitleRec) : (s.setTitle n r).tagLine = s.tagLine := rfl
@[simp] theorem State.setTitle_lanes (n : Nat) (r : TitleRec) : (s.setTitle n r).lanes = s.lanes := rfl
@[simp] theorem State.setTitle_link (n : Nat) (r : TitleRec) : (s.setTitle n r).link = s.link := rfl
@[simp] theorem State.setTitle_faults (n : Nat) (r : TitleRec) : (s.setTitle n r).faults = s.faults := rfl
@[simp] theorem State.setTitle_scrub (n : Nat) (r : TitleRec) : (s.setTitle n r).scrub = s.scrub := rfl
@[simp] theorem State.setTitle_upsets (n : Nat) (r : TitleRec) :
    (s.setTitle n r).upsets = passWhere (slotWrites .title .titleIndex n
      (decide ((Tbl.lookup s.titles n).map TitleRec.place ≠ some r.place))) s.upsets := rfl
@[simp] theorem State.setTitle_laneOut (n : Nat) (r : TitleRec) : (s.setTitle n r).laneOut = s.laneOut := rfl
@[simp] theorem State.setTitle_linkOut (n : Nat) (r : TitleRec) : (s.setTitle n r).linkOut = s.linkOut := rfl
@[simp] theorem State.setTitle_pending (n : Nat) (r : TitleRec) : (s.setTitle n r).pending = s.pending := rfl

@[simp] theorem State.freeTitle_engine (n : Nat) : (s.freeTitle n).engine = s.engine := rfl
@[simp] theorem State.freeTitle_arbiter (n : Nat) : (s.freeTitle n).arbiter = s.arbiter := rfl
@[simp] theorem State.freeTitle_patrons (n : Nat) : (s.freeTitle n).patrons = s.patrons := rfl
@[simp] theorem State.freeTitle_loans (n : Nat) : (s.freeTitle n).loans = s.loans := rfl
@[simp] theorem State.freeTitle_titles (n : Nat) : (s.freeTitle n).titles = Tbl.release s.titles n := rfl
@[simp] theorem State.freeTitle_pool (n : Nat) : (s.freeTitle n).pool = s.pool := rfl
@[simp] theorem State.freeTitle_calendar (n : Nat) : (s.freeTitle n).calendar = s.calendar := rfl
@[simp] theorem State.freeTitle_schedule (n : Nat) : (s.freeTitle n).schedule = s.schedule := rfl
@[simp] theorem State.freeTitle_sweep (n : Nat) : (s.freeTitle n).sweep = s.sweep := rfl
@[simp] theorem State.freeTitle_tags (n : Nat) : (s.freeTitle n).tags = s.tags := rfl
@[simp] theorem State.freeTitle_tagLine (n : Nat) : (s.freeTitle n).tagLine = s.tagLine := rfl
@[simp] theorem State.freeTitle_lanes (n : Nat) : (s.freeTitle n).lanes = s.lanes := rfl
@[simp] theorem State.freeTitle_link (n : Nat) : (s.freeTitle n).link = s.link := rfl
@[simp] theorem State.freeTitle_faults (n : Nat) : (s.freeTitle n).faults = s.faults := rfl
@[simp] theorem State.freeTitle_scrub (n : Nat) : (s.freeTitle n).scrub = s.scrub := rfl
@[simp] theorem State.freeTitle_upsets (n : Nat) :
    (s.freeTitle n).upsets = passWhere (slotWrites .title .titleIndex n true) s.upsets := rfl
@[simp] theorem State.freeTitle_laneOut (n : Nat) : (s.freeTitle n).laneOut = s.laneOut := rfl
@[simp] theorem State.freeTitle_linkOut (n : Nat) : (s.freeTitle n).linkOut = s.linkOut := rfl
@[simp] theorem State.freeTitle_pending (n : Nat) : (s.freeTitle n).pending = s.pending := rfl

@[simp] theorem State.setPool_engine (n : Nat) (r : PoolRec) : (s.setPool n r).engine = s.engine := rfl
@[simp] theorem State.setPool_arbiter (n : Nat) (r : PoolRec) : (s.setPool n r).arbiter = s.arbiter := rfl
@[simp] theorem State.setPool_patrons (n : Nat) (r : PoolRec) : (s.setPool n r).patrons = s.patrons := rfl
@[simp] theorem State.setPool_loans (n : Nat) (r : PoolRec) : (s.setPool n r).loans = s.loans := rfl
@[simp] theorem State.setPool_titles (n : Nat) (r : PoolRec) : (s.setPool n r).titles = s.titles := rfl
@[simp] theorem State.setPool_pool (n : Nat) (r : PoolRec) : (s.setPool n r).pool = Tbl.store s.pool n r := rfl
@[simp] theorem State.setPool_calendar (n : Nat) (r : PoolRec) : (s.setPool n r).calendar = s.calendar := rfl
@[simp] theorem State.setPool_schedule (n : Nat) (r : PoolRec) : (s.setPool n r).schedule = s.schedule := rfl
@[simp] theorem State.setPool_sweep (n : Nat) (r : PoolRec) : (s.setPool n r).sweep = s.sweep := rfl
@[simp] theorem State.setPool_tags (n : Nat) (r : PoolRec) : (s.setPool n r).tags = s.tags := rfl
@[simp] theorem State.setPool_tagLine (n : Nat) (r : PoolRec) : (s.setPool n r).tagLine = s.tagLine := rfl
@[simp] theorem State.setPool_lanes (n : Nat) (r : PoolRec) : (s.setPool n r).lanes = s.lanes := rfl
@[simp] theorem State.setPool_link (n : Nat) (r : PoolRec) : (s.setPool n r).link = s.link := rfl
@[simp] theorem State.setPool_faults (n : Nat) (r : PoolRec) : (s.setPool n r).faults = s.faults := rfl
@[simp] theorem State.setPool_scrub (n : Nat) (r : PoolRec) : (s.setPool n r).scrub = s.scrub := rfl
@[simp] theorem State.setPool_upsets (n : Nat) (r : PoolRec) :
    (s.setPool n r).upsets = passWhere (fun q => decide (q = ⟨.pool, n⟩)) s.upsets := rfl
@[simp] theorem State.setPool_laneOut (n : Nat) (r : PoolRec) : (s.setPool n r).laneOut = s.laneOut := rfl
@[simp] theorem State.setPool_linkOut (n : Nat) (r : PoolRec) : (s.setPool n r).linkOut = s.linkOut := rfl
@[simp] theorem State.setPool_pending (n : Nat) (r : PoolRec) : (s.setPool n r).pending = s.pending := rfl

@[simp] theorem State.forgetEntry_engine (n : Nat) : (s.forgetEntry n).engine = s.engine := rfl
@[simp] theorem State.forgetEntry_arbiter (n : Nat) : (s.forgetEntry n).arbiter = s.arbiter := rfl
@[simp] theorem State.forgetEntry_patrons (n : Nat) : (s.forgetEntry n).patrons = s.patrons := rfl
@[simp] theorem State.forgetEntry_loans (n : Nat) : (s.forgetEntry n).loans = s.loans := rfl
@[simp] theorem State.forgetEntry_titles (n : Nat) : (s.forgetEntry n).titles = s.titles := rfl
@[simp] theorem State.forgetEntry_pool (n : Nat) : (s.forgetEntry n).pool = Tbl.store s.pool n .damaged := rfl
@[simp] theorem State.forgetEntry_calendar (n : Nat) : (s.forgetEntry n).calendar = s.calendar := rfl
@[simp] theorem State.forgetEntry_schedule (n : Nat) : (s.forgetEntry n).schedule = s.schedule := rfl
@[simp] theorem State.forgetEntry_sweep (n : Nat) : (s.forgetEntry n).sweep = s.sweep := rfl
@[simp] theorem State.forgetEntry_tags (n : Nat) : (s.forgetEntry n).tags = s.tags := rfl
@[simp] theorem State.forgetEntry_tagLine (n : Nat) : (s.forgetEntry n).tagLine = s.tagLine := rfl
@[simp] theorem State.forgetEntry_lanes (n : Nat) : (s.forgetEntry n).lanes = s.lanes := rfl
@[simp] theorem State.forgetEntry_link (n : Nat) : (s.forgetEntry n).link = s.link := rfl
@[simp] theorem State.forgetEntry_faults (n : Nat) : (s.forgetEntry n).faults = s.faults := rfl
@[simp] theorem State.forgetEntry_scrub (n : Nat) : (s.forgetEntry n).scrub = s.scrub := rfl
@[simp] theorem State.forgetEntry_upsets (n : Nat) : (s.forgetEntry n).upsets = s.upsets := rfl
@[simp] theorem State.forgetEntry_laneOut (n : Nat) : (s.forgetEntry n).laneOut = s.laneOut := rfl
@[simp] theorem State.forgetEntry_linkOut (n : Nat) : (s.forgetEntry n).linkOut = s.linkOut := rfl
@[simp] theorem State.forgetEntry_pending (n : Nat) : (s.forgetEntry n).pending = s.pending := rfl

@[simp] theorem State.freePool_engine (n : Nat) : (s.freePool n).engine = s.engine := rfl
@[simp] theorem State.freePool_arbiter (n : Nat) : (s.freePool n).arbiter = s.arbiter := rfl
@[simp] theorem State.freePool_patrons (n : Nat) : (s.freePool n).patrons = s.patrons := rfl
@[simp] theorem State.freePool_loans (n : Nat) : (s.freePool n).loans = s.loans := rfl
@[simp] theorem State.freePool_titles (n : Nat) : (s.freePool n).titles = s.titles := rfl
@[simp] theorem State.freePool_pool (n : Nat) : (s.freePool n).pool = Tbl.release s.pool n := rfl
@[simp] theorem State.freePool_calendar (n : Nat) : (s.freePool n).calendar = s.calendar := rfl
@[simp] theorem State.freePool_schedule (n : Nat) : (s.freePool n).schedule = s.schedule := rfl
@[simp] theorem State.freePool_sweep (n : Nat) : (s.freePool n).sweep = s.sweep := rfl
@[simp] theorem State.freePool_tags (n : Nat) : (s.freePool n).tags = s.tags := rfl
@[simp] theorem State.freePool_tagLine (n : Nat) : (s.freePool n).tagLine = s.tagLine := rfl
@[simp] theorem State.freePool_lanes (n : Nat) : (s.freePool n).lanes = s.lanes := rfl
@[simp] theorem State.freePool_link (n : Nat) : (s.freePool n).link = s.link := rfl
@[simp] theorem State.freePool_faults (n : Nat) : (s.freePool n).faults = s.faults := rfl
@[simp] theorem State.freePool_scrub (n : Nat) : (s.freePool n).scrub = s.scrub := rfl
@[simp] theorem State.freePool_upsets (n : Nat) :
    (s.freePool n).upsets = passWhere (fun q => decide (q = ⟨.pool, n⟩)) s.upsets := rfl
@[simp] theorem State.freePool_laneOut (n : Nat) : (s.freePool n).laneOut = s.laneOut := rfl
@[simp] theorem State.freePool_linkOut (n : Nat) : (s.freePool n).linkOut = s.linkOut := rfl
@[simp] theorem State.freePool_pending (n : Nat) : (s.freePool n).pending = s.pending := rfl

@[simp] theorem State.setTag_engine (n : Fin 32) (t : Tag) : (s.setTag n t).engine = s.engine := rfl
@[simp] theorem State.setTag_arbiter (n : Fin 32) (t : Tag) : (s.setTag n t).arbiter = s.arbiter := rfl
@[simp] theorem State.setTag_patrons (n : Fin 32) (t : Tag) : (s.setTag n t).patrons = s.patrons := rfl
@[simp] theorem State.setTag_loans (n : Fin 32) (t : Tag) : (s.setTag n t).loans = s.loans := rfl
@[simp] theorem State.setTag_titles (n : Fin 32) (t : Tag) : (s.setTag n t).titles = s.titles := rfl
@[simp] theorem State.setTag_pool (n : Fin 32) (t : Tag) : (s.setTag n t).pool = s.pool := rfl
@[simp] theorem State.setTag_calendar (n : Fin 32) (t : Tag) : (s.setTag n t).calendar = s.calendar := rfl
@[simp] theorem State.setTag_schedule (n : Fin 32) (t : Tag) : (s.setTag n t).schedule = s.schedule := rfl
@[simp] theorem State.setTag_sweep (n : Fin 32) (t : Tag) : (s.setTag n t).sweep = s.sweep := rfl
@[simp] theorem State.setTag_tags (n : Fin 32) (t : Tag) : (s.setTag n t).tags = s.tags.set n.val t n.isLt := rfl
@[simp] theorem State.setTag_tagLine (n : Fin 32) (t : Tag) : (s.setTag n t).tagLine = s.tagLine := rfl
@[simp] theorem State.setTag_lanes (n : Fin 32) (t : Tag) : (s.setTag n t).lanes = s.lanes := rfl
@[simp] theorem State.setTag_link (n : Fin 32) (t : Tag) : (s.setTag n t).link = s.link := rfl
@[simp] theorem State.setTag_faults (n : Fin 32) (t : Tag) : (s.setTag n t).faults = s.faults := rfl
@[simp] theorem State.setTag_scrub (n : Fin 32) (t : Tag) : (s.setTag n t).scrub = s.scrub := rfl
@[simp] theorem State.setTag_upsets (n : Fin 32) (t : Tag) :
    (s.setTag n t).upsets = passWhere (tagWrites s.tags (s.tags.set n.val t n.isLt)) s.upsets := rfl
@[simp] theorem State.setTag_laneOut (n : Fin 32) (t : Tag) : (s.setTag n t).laneOut = s.laneOut := rfl
@[simp] theorem State.setTag_linkOut (n : Fin 32) (t : Tag) : (s.setTag n t).linkOut = s.linkOut := rfl
@[simp] theorem State.setTag_pending (n : Fin 32) (t : Tag) : (s.setTag n t).pending = s.pending := rfl

@[simp] theorem State.setLane_engine (l : Lane) (u : LaneUnit) : (s.setLane l u).engine = s.engine := rfl
@[simp] theorem State.setLane_arbiter (l : Lane) (u : LaneUnit) : (s.setLane l u).arbiter = s.arbiter := rfl
@[simp] theorem State.setLane_patrons (l : Lane) (u : LaneUnit) : (s.setLane l u).patrons = s.patrons := rfl
@[simp] theorem State.setLane_loans (l : Lane) (u : LaneUnit) : (s.setLane l u).loans = s.loans := rfl
@[simp] theorem State.setLane_titles (l : Lane) (u : LaneUnit) : (s.setLane l u).titles = s.titles := rfl
@[simp] theorem State.setLane_pool (l : Lane) (u : LaneUnit) : (s.setLane l u).pool = s.pool := rfl
@[simp] theorem State.setLane_calendar (l : Lane) (u : LaneUnit) : (s.setLane l u).calendar = s.calendar := rfl
@[simp] theorem State.setLane_schedule (l : Lane) (u : LaneUnit) : (s.setLane l u).schedule = s.schedule := rfl
@[simp] theorem State.setLane_sweep (l : Lane) (u : LaneUnit) : (s.setLane l u).sweep = s.sweep := rfl
@[simp] theorem State.setLane_tags (l : Lane) (u : LaneUnit) : (s.setLane l u).tags = s.tags := rfl
@[simp] theorem State.setLane_tagLine (l : Lane) (u : LaneUnit) : (s.setLane l u).tagLine = s.tagLine := rfl
@[simp] theorem State.setLane_lanes (l : Lane) (u : LaneUnit) : (s.setLane l u).lanes = s.lanes.set l.val u l.isLt := rfl
@[simp] theorem State.setLane_link (l : Lane) (u : LaneUnit) : (s.setLane l u).link = s.link := rfl
@[simp] theorem State.setLane_faults (l : Lane) (u : LaneUnit) : (s.setLane l u).faults = s.faults := rfl
@[simp] theorem State.setLane_scrub (l : Lane) (u : LaneUnit) : (s.setLane l u).scrub = s.scrub := rfl
@[simp] theorem State.setLane_upsets (l : Lane) (u : LaneUnit) : (s.setLane l u).upsets = s.upsets := rfl
@[simp] theorem State.setLane_laneOut (l : Lane) (u : LaneUnit) : (s.setLane l u).laneOut = s.laneOut := rfl
@[simp] theorem State.setLane_linkOut (l : Lane) (u : LaneUnit) : (s.setLane l u).linkOut = s.linkOut := rfl
@[simp] theorem State.setLane_pending (l : Lane) (u : LaneUnit) : (s.setLane l u).pending = s.pending := rfl

@[simp] theorem State.mapOp_engine (f : Op → Op) : (s.mapOp f).engine = s.engine.mapOp f := rfl
@[simp] theorem State.mapOp_arbiter (f : Op → Op) : (s.mapOp f).arbiter = s.arbiter := rfl
@[simp] theorem State.mapOp_patrons (f : Op → Op) : (s.mapOp f).patrons = s.patrons := rfl
@[simp] theorem State.mapOp_loans (f : Op → Op) : (s.mapOp f).loans = s.loans := rfl
@[simp] theorem State.mapOp_titles (f : Op → Op) : (s.mapOp f).titles = s.titles := rfl
@[simp] theorem State.mapOp_pool (f : Op → Op) : (s.mapOp f).pool = s.pool := rfl
@[simp] theorem State.mapOp_calendar (f : Op → Op) : (s.mapOp f).calendar = s.calendar := rfl
@[simp] theorem State.mapOp_schedule (f : Op → Op) : (s.mapOp f).schedule = s.schedule := rfl
@[simp] theorem State.mapOp_sweep (f : Op → Op) : (s.mapOp f).sweep = s.sweep := rfl
@[simp] theorem State.mapOp_tags (f : Op → Op) : (s.mapOp f).tags = s.tags := rfl
@[simp] theorem State.mapOp_tagLine (f : Op → Op) : (s.mapOp f).tagLine = s.tagLine := rfl
@[simp] theorem State.mapOp_lanes (f : Op → Op) : (s.mapOp f).lanes = s.lanes := rfl
@[simp] theorem State.mapOp_link (f : Op → Op) : (s.mapOp f).link = s.link := rfl
@[simp] theorem State.mapOp_faults (f : Op → Op) : (s.mapOp f).faults = s.faults := rfl
@[simp] theorem State.mapOp_scrub (f : Op → Op) : (s.mapOp f).scrub = s.scrub := rfl
@[simp] theorem State.mapOp_upsets (f : Op → Op) : (s.mapOp f).upsets = s.upsets := rfl
@[simp] theorem State.mapOp_laneOut (f : Op → Op) : (s.mapOp f).laneOut = s.laneOut := rfl
@[simp] theorem State.mapOp_linkOut (f : Op → Op) : (s.mapOp f).linkOut = s.linkOut := rfl
@[simp] theorem State.mapOp_pending (f : Op → Op) : (s.mapOp f).pending = s.pending := rfl

@[simp] theorem State.setOutbound_engine (q : List Notice) : (s.setOutbound q).engine = s.engine := rfl
@[simp] theorem State.setOutbound_arbiter (q : List Notice) : (s.setOutbound q).arbiter = s.arbiter := rfl
@[simp] theorem State.setOutbound_patrons (q : List Notice) : (s.setOutbound q).patrons = s.patrons := rfl
@[simp] theorem State.setOutbound_loans (q : List Notice) : (s.setOutbound q).loans = s.loans := rfl
@[simp] theorem State.setOutbound_titles (q : List Notice) : (s.setOutbound q).titles = s.titles := rfl
@[simp] theorem State.setOutbound_pool (q : List Notice) : (s.setOutbound q).pool = s.pool := rfl
@[simp] theorem State.setOutbound_calendar (q : List Notice) : (s.setOutbound q).calendar = s.calendar := rfl
@[simp] theorem State.setOutbound_schedule (q : List Notice) : (s.setOutbound q).schedule = s.schedule := rfl
@[simp] theorem State.setOutbound_sweep (q : List Notice) : (s.setOutbound q).sweep = s.sweep := rfl
@[simp] theorem State.setOutbound_tags (q : List Notice) : (s.setOutbound q).tags = s.tags := rfl
@[simp] theorem State.setOutbound_tagLine (q : List Notice) : (s.setOutbound q).tagLine = s.tagLine := rfl
@[simp] theorem State.setOutbound_lanes (q : List Notice) : (s.setOutbound q).lanes = s.lanes := rfl
@[simp] theorem State.setOutbound_link (q : List Notice) : (s.setOutbound q).link = { s.link with outbound := q } := rfl
@[simp] theorem State.setOutbound_faults (q : List Notice) : (s.setOutbound q).faults = s.faults := rfl
@[simp] theorem State.setOutbound_scrub (q : List Notice) : (s.setOutbound q).scrub = s.scrub := rfl
@[simp] theorem State.setOutbound_upsets (q : List Notice) : (s.setOutbound q).upsets = s.upsets := rfl
@[simp] theorem State.setOutbound_laneOut (q : List Notice) : (s.setOutbound q).laneOut = s.laneOut := rfl
@[simp] theorem State.setOutbound_linkOut (q : List Notice) : (s.setOutbound q).linkOut = s.linkOut := rfl
@[simp] theorem State.setOutbound_pending (q : List Notice) : (s.setOutbound q).pending = s.pending := rfl

@[simp] theorem State.append_engine (m : Notice) : (s.append m).engine = s.engine := rfl
@[simp] theorem State.append_arbiter (m : Notice) : (s.append m).arbiter = s.arbiter := rfl
@[simp] theorem State.append_patrons (m : Notice) : (s.append m).patrons = s.patrons := rfl
@[simp] theorem State.append_loans (m : Notice) : (s.append m).loans = s.loans := rfl
@[simp] theorem State.append_titles (m : Notice) : (s.append m).titles = s.titles := rfl
@[simp] theorem State.append_pool (m : Notice) : (s.append m).pool = s.pool := rfl
@[simp] theorem State.append_calendar (m : Notice) : (s.append m).calendar = s.calendar := rfl
@[simp] theorem State.append_schedule (m : Notice) : (s.append m).schedule = s.schedule := rfl
@[simp] theorem State.append_sweep (m : Notice) : (s.append m).sweep = s.sweep := rfl
@[simp] theorem State.append_tags (m : Notice) : (s.append m).tags = s.tags := rfl
@[simp] theorem State.append_tagLine (m : Notice) : (s.append m).tagLine = s.tagLine := rfl
@[simp] theorem State.append_lanes (m : Notice) : (s.append m).lanes = s.lanes := rfl
@[simp] theorem State.append_link (m : Notice) : (s.append m).link = { s.link with outbound := s.link.outbound ++ [m] } := rfl
@[simp] theorem State.append_faults (m : Notice) : (s.append m).faults = s.faults := rfl
@[simp] theorem State.append_scrub (m : Notice) : (s.append m).scrub = s.scrub := rfl
@[simp] theorem State.append_upsets (m : Notice) : (s.append m).upsets = s.upsets := rfl
@[simp] theorem State.append_laneOut (m : Notice) : (s.append m).laneOut = s.laneOut := rfl
@[simp] theorem State.append_linkOut (m : Notice) : (s.append m).linkOut = s.linkOut := rfl
@[simp] theorem State.append_pending (m : Notice) : (s.append m).pending = s.pending := rfl

@[simp] theorem State.send_engine (l : Lane) (w : LaneWord) : (s.send l w).engine = s.engine := rfl
@[simp] theorem State.send_arbiter (l : Lane) (w : LaneWord) : (s.send l w).arbiter = s.arbiter := rfl
@[simp] theorem State.send_patrons (l : Lane) (w : LaneWord) : (s.send l w).patrons = s.patrons := rfl
@[simp] theorem State.send_loans (l : Lane) (w : LaneWord) : (s.send l w).loans = s.loans := rfl
@[simp] theorem State.send_titles (l : Lane) (w : LaneWord) : (s.send l w).titles = s.titles := rfl
@[simp] theorem State.send_pool (l : Lane) (w : LaneWord) : (s.send l w).pool = s.pool := rfl
@[simp] theorem State.send_calendar (l : Lane) (w : LaneWord) : (s.send l w).calendar = s.calendar := rfl
@[simp] theorem State.send_schedule (l : Lane) (w : LaneWord) : (s.send l w).schedule = s.schedule := rfl
@[simp] theorem State.send_sweep (l : Lane) (w : LaneWord) : (s.send l w).sweep = s.sweep := rfl
@[simp] theorem State.send_tags (l : Lane) (w : LaneWord) : (s.send l w).tags = s.tags := rfl
@[simp] theorem State.send_tagLine (l : Lane) (w : LaneWord) : (s.send l w).tagLine = s.tagLine := rfl
@[simp] theorem State.send_lanes (l : Lane) (w : LaneWord) : (s.send l w).lanes = s.lanes := rfl
@[simp] theorem State.send_link (l : Lane) (w : LaneWord) : (s.send l w).link = s.link := rfl
@[simp] theorem State.send_faults (l : Lane) (w : LaneWord) : (s.send l w).faults = s.faults := rfl
@[simp] theorem State.send_scrub (l : Lane) (w : LaneWord) : (s.send l w).scrub = s.scrub := rfl
@[simp] theorem State.send_upsets (l : Lane) (w : LaneWord) : (s.send l w).upsets = s.upsets := rfl
@[simp] theorem State.send_laneOut (l : Lane) (w : LaneWord) : (s.send l w).laneOut = s.laneOut ++ [(l, w)] := rfl
@[simp] theorem State.send_linkOut (l : Lane) (w : LaneWord) : (s.send l w).linkOut = s.linkOut := rfl
@[simp] theorem State.send_pending (l : Lane) (w : LaneWord) : (s.send l w).pending = s.pending := rfl

@[simp] theorem State.setSweep_engine (w : Sweep) : (s.setSweep w).engine = s.engine := rfl
@[simp] theorem State.setSweep_arbiter (w : Sweep) : (s.setSweep w).arbiter = s.arbiter := rfl
@[simp] theorem State.setSweep_patrons (w : Sweep) : (s.setSweep w).patrons = s.patrons := rfl
@[simp] theorem State.setSweep_loans (w : Sweep) : (s.setSweep w).loans = s.loans := rfl
@[simp] theorem State.setSweep_titles (w : Sweep) : (s.setSweep w).titles = s.titles := rfl
@[simp] theorem State.setSweep_pool (w : Sweep) : (s.setSweep w).pool = s.pool := rfl
@[simp] theorem State.setSweep_calendar (w : Sweep) : (s.setSweep w).calendar = s.calendar := rfl
@[simp] theorem State.setSweep_schedule (w : Sweep) : (s.setSweep w).schedule = s.schedule := rfl
@[simp] theorem State.setSweep_sweep (w : Sweep) : (s.setSweep w).sweep = w := rfl
@[simp] theorem State.setSweep_tags (w : Sweep) : (s.setSweep w).tags = s.tags := rfl
@[simp] theorem State.setSweep_tagLine (w : Sweep) : (s.setSweep w).tagLine = s.tagLine := rfl
@[simp] theorem State.setSweep_lanes (w : Sweep) : (s.setSweep w).lanes = s.lanes := rfl
@[simp] theorem State.setSweep_link (w : Sweep) : (s.setSweep w).link = s.link := rfl
@[simp] theorem State.setSweep_faults (w : Sweep) : (s.setSweep w).faults = s.faults := rfl
@[simp] theorem State.setSweep_scrub (w : Sweep) : (s.setSweep w).scrub = s.scrub := rfl
@[simp] theorem State.setSweep_upsets (w : Sweep) : (s.setSweep w).upsets = s.upsets := rfl
@[simp] theorem State.setSweep_laneOut (w : Sweep) : (s.setSweep w).laneOut = s.laneOut := rfl
@[simp] theorem State.setSweep_linkOut (w : Sweep) : (s.setSweep w).linkOut = s.linkOut := rfl
@[simp] theorem State.setSweep_pending (w : Sweep) : (s.setSweep w).pending = s.pending := rfl

@[simp] theorem State.putPatrons_engine (t : Tbl PatronRec) : (s.putPatrons t).engine = s.engine := rfl
@[simp] theorem State.putPatrons_arbiter (t : Tbl PatronRec) : (s.putPatrons t).arbiter = s.arbiter := rfl
@[simp] theorem State.putPatrons_patrons (t : Tbl PatronRec) : (s.putPatrons t).patrons = t := rfl
@[simp] theorem State.putPatrons_loans (t : Tbl PatronRec) : (s.putPatrons t).loans = s.loans := rfl
@[simp] theorem State.putPatrons_titles (t : Tbl PatronRec) : (s.putPatrons t).titles = s.titles := rfl
@[simp] theorem State.putPatrons_pool (t : Tbl PatronRec) : (s.putPatrons t).pool = s.pool := rfl
@[simp] theorem State.putPatrons_calendar (t : Tbl PatronRec) : (s.putPatrons t).calendar = s.calendar := rfl
@[simp] theorem State.putPatrons_schedule (t : Tbl PatronRec) : (s.putPatrons t).schedule = s.schedule := rfl
@[simp] theorem State.putPatrons_sweep (t : Tbl PatronRec) : (s.putPatrons t).sweep = s.sweep := rfl
@[simp] theorem State.putPatrons_tags (t : Tbl PatronRec) : (s.putPatrons t).tags = s.tags := rfl
@[simp] theorem State.putPatrons_tagLine (t : Tbl PatronRec) : (s.putPatrons t).tagLine = s.tagLine := rfl
@[simp] theorem State.putPatrons_lanes (t : Tbl PatronRec) : (s.putPatrons t).lanes = s.lanes := rfl
@[simp] theorem State.putPatrons_link (t : Tbl PatronRec) : (s.putPatrons t).link = s.link := rfl
@[simp] theorem State.putPatrons_faults (t : Tbl PatronRec) : (s.putPatrons t).faults = s.faults := rfl
@[simp] theorem State.putPatrons_scrub (t : Tbl PatronRec) : (s.putPatrons t).scrub = s.scrub := rfl
@[simp] theorem State.putPatrons_upsets (t : Tbl PatronRec) :
    (s.putPatrons t).upsets = passWhere (tableWrites .patron .patronIndex PatronRec.place s.patrons t) s.upsets := rfl
@[simp] theorem State.putPatrons_laneOut (t : Tbl PatronRec) : (s.putPatrons t).laneOut = s.laneOut := rfl
@[simp] theorem State.putPatrons_linkOut (t : Tbl PatronRec) : (s.putPatrons t).linkOut = s.linkOut := rfl
@[simp] theorem State.putPatrons_pending (t : Tbl PatronRec) : (s.putPatrons t).pending = s.pending := rfl

@[simp] theorem State.putTitles_engine (t : Tbl TitleRec) : (s.putTitles t).engine = s.engine := rfl
@[simp] theorem State.putTitles_arbiter (t : Tbl TitleRec) : (s.putTitles t).arbiter = s.arbiter := rfl
@[simp] theorem State.putTitles_patrons (t : Tbl TitleRec) : (s.putTitles t).patrons = s.patrons := rfl
@[simp] theorem State.putTitles_loans (t : Tbl TitleRec) : (s.putTitles t).loans = s.loans := rfl
@[simp] theorem State.putTitles_titles (t : Tbl TitleRec) : (s.putTitles t).titles = t := rfl
@[simp] theorem State.putTitles_pool (t : Tbl TitleRec) : (s.putTitles t).pool = s.pool := rfl
@[simp] theorem State.putTitles_calendar (t : Tbl TitleRec) : (s.putTitles t).calendar = s.calendar := rfl
@[simp] theorem State.putTitles_schedule (t : Tbl TitleRec) : (s.putTitles t).schedule = s.schedule := rfl
@[simp] theorem State.putTitles_sweep (t : Tbl TitleRec) : (s.putTitles t).sweep = s.sweep := rfl
@[simp] theorem State.putTitles_tags (t : Tbl TitleRec) : (s.putTitles t).tags = s.tags := rfl
@[simp] theorem State.putTitles_tagLine (t : Tbl TitleRec) : (s.putTitles t).tagLine = s.tagLine := rfl
@[simp] theorem State.putTitles_lanes (t : Tbl TitleRec) : (s.putTitles t).lanes = s.lanes := rfl
@[simp] theorem State.putTitles_link (t : Tbl TitleRec) : (s.putTitles t).link = s.link := rfl
@[simp] theorem State.putTitles_faults (t : Tbl TitleRec) : (s.putTitles t).faults = s.faults := rfl
@[simp] theorem State.putTitles_scrub (t : Tbl TitleRec) : (s.putTitles t).scrub = s.scrub := rfl
@[simp] theorem State.putTitles_upsets (t : Tbl TitleRec) :
    (s.putTitles t).upsets = passWhere (tableWrites .title .titleIndex TitleRec.place s.titles t) s.upsets := rfl
@[simp] theorem State.putTitles_laneOut (t : Tbl TitleRec) : (s.putTitles t).laneOut = s.laneOut := rfl
@[simp] theorem State.putTitles_linkOut (t : Tbl TitleRec) : (s.putTitles t).linkOut = s.linkOut := rfl
@[simp] theorem State.putTitles_pending (t : Tbl TitleRec) : (s.putTitles t).pending = s.pending := rfl

@[simp] theorem State.putPool_engine (t : Tbl PoolRec) : (s.putPool t).engine = s.engine := rfl
@[simp] theorem State.putPool_arbiter (t : Tbl PoolRec) : (s.putPool t).arbiter = s.arbiter := rfl
@[simp] theorem State.putPool_patrons (t : Tbl PoolRec) : (s.putPool t).patrons = s.patrons := rfl
@[simp] theorem State.putPool_loans (t : Tbl PoolRec) : (s.putPool t).loans = s.loans := rfl
@[simp] theorem State.putPool_titles (t : Tbl PoolRec) : (s.putPool t).titles = s.titles := rfl
@[simp] theorem State.putPool_pool (t : Tbl PoolRec) : (s.putPool t).pool = t := rfl
@[simp] theorem State.putPool_calendar (t : Tbl PoolRec) : (s.putPool t).calendar = s.calendar := rfl
@[simp] theorem State.putPool_schedule (t : Tbl PoolRec) : (s.putPool t).schedule = s.schedule := rfl
@[simp] theorem State.putPool_sweep (t : Tbl PoolRec) : (s.putPool t).sweep = s.sweep := rfl
@[simp] theorem State.putPool_tags (t : Tbl PoolRec) : (s.putPool t).tags = s.tags := rfl
@[simp] theorem State.putPool_tagLine (t : Tbl PoolRec) : (s.putPool t).tagLine = s.tagLine := rfl
@[simp] theorem State.putPool_lanes (t : Tbl PoolRec) : (s.putPool t).lanes = s.lanes := rfl
@[simp] theorem State.putPool_link (t : Tbl PoolRec) : (s.putPool t).link = s.link := rfl
@[simp] theorem State.putPool_faults (t : Tbl PoolRec) : (s.putPool t).faults = s.faults := rfl
@[simp] theorem State.putPool_scrub (t : Tbl PoolRec) : (s.putPool t).scrub = s.scrub := rfl
@[simp] theorem State.putPool_upsets (t : Tbl PoolRec) :
    (s.putPool t).upsets = passWhere (tableWrites .pool .pool (fun _ => (0, 0)) s.pool t) s.upsets := rfl
@[simp] theorem State.putPool_laneOut (t : Tbl PoolRec) : (s.putPool t).laneOut = s.laneOut := rfl
@[simp] theorem State.putPool_linkOut (t : Tbl PoolRec) : (s.putPool t).linkOut = s.linkOut := rfl
@[simp] theorem State.putPool_pending (t : Tbl PoolRec) : (s.putPool t).pending = s.pending := rfl

@[simp] theorem State.putTags_engine (t : Vector Tag 32) : (s.putTags t).engine = s.engine := rfl
@[simp] theorem State.putTags_arbiter (t : Vector Tag 32) : (s.putTags t).arbiter = s.arbiter := rfl
@[simp] theorem State.putTags_patrons (t : Vector Tag 32) : (s.putTags t).patrons = s.patrons := rfl
@[simp] theorem State.putTags_loans (t : Vector Tag 32) : (s.putTags t).loans = s.loans := rfl
@[simp] theorem State.putTags_titles (t : Vector Tag 32) : (s.putTags t).titles = s.titles := rfl
@[simp] theorem State.putTags_pool (t : Vector Tag 32) : (s.putTags t).pool = s.pool := rfl
@[simp] theorem State.putTags_calendar (t : Vector Tag 32) : (s.putTags t).calendar = s.calendar := rfl
@[simp] theorem State.putTags_schedule (t : Vector Tag 32) : (s.putTags t).schedule = s.schedule := rfl
@[simp] theorem State.putTags_sweep (t : Vector Tag 32) : (s.putTags t).sweep = s.sweep := rfl
@[simp] theorem State.putTags_tags (t : Vector Tag 32) : (s.putTags t).tags = t := rfl
@[simp] theorem State.putTags_tagLine (t : Vector Tag 32) : (s.putTags t).tagLine = s.tagLine := rfl
@[simp] theorem State.putTags_lanes (t : Vector Tag 32) : (s.putTags t).lanes = s.lanes := rfl
@[simp] theorem State.putTags_link (t : Vector Tag 32) : (s.putTags t).link = s.link := rfl
@[simp] theorem State.putTags_faults (t : Vector Tag 32) : (s.putTags t).faults = s.faults := rfl
@[simp] theorem State.putTags_scrub (t : Vector Tag 32) : (s.putTags t).scrub = s.scrub := rfl
@[simp] theorem State.putTags_upsets (t : Vector Tag 32) :
    (s.putTags t).upsets = passWhere (tagWrites s.tags t) s.upsets := rfl
@[simp] theorem State.putTags_laneOut (t : Vector Tag 32) : (s.putTags t).laneOut = s.laneOut := rfl
@[simp] theorem State.putTags_linkOut (t : Vector Tag 32) : (s.putTags t).linkOut = s.linkOut := rfl
@[simp] theorem State.putTags_pending (t : Vector Tag 32) : (s.putTags t).pending = s.pending := rfl

@[simp] theorem State.countFrame_engine : (s.countFrame).engine = s.engine := rfl
@[simp] theorem State.countFrame_arbiter : (s.countFrame).arbiter = s.arbiter := rfl
@[simp] theorem State.countFrame_patrons : (s.countFrame).patrons = s.patrons := rfl
@[simp] theorem State.countFrame_loans : (s.countFrame).loans = s.loans := rfl
@[simp] theorem State.countFrame_titles : (s.countFrame).titles = s.titles := rfl
@[simp] theorem State.countFrame_pool : (s.countFrame).pool = s.pool := rfl
@[simp] theorem State.countFrame_calendar : (s.countFrame).calendar = s.calendar := rfl
@[simp] theorem State.countFrame_schedule : (s.countFrame).schedule = s.schedule := rfl
@[simp] theorem State.countFrame_sweep : (s.countFrame).sweep = s.sweep := rfl
@[simp] theorem State.countFrame_tags : (s.countFrame).tags = s.tags := rfl
@[simp] theorem State.countFrame_tagLine : (s.countFrame).tagLine = s.tagLine := rfl
@[simp] theorem State.countFrame_lanes : (s.countFrame).lanes = s.lanes := rfl
@[simp] theorem State.countFrame_faults : (s.countFrame).faults = s.faults := rfl
@[simp] theorem State.countFrame_scrub : (s.countFrame).scrub = s.scrub := rfl
@[simp] theorem State.countFrame_upsets : (s.countFrame).upsets = s.upsets := rfl
@[simp] theorem State.countFrame_laneOut : (s.countFrame).laneOut = s.laneOut := rfl
@[simp] theorem State.countFrame_linkOut : (s.countFrame).linkOut = s.linkOut := rfl
@[simp] theorem State.countFrame_pending : (s.countFrame).pending = s.pending := rfl

@[simp] theorem State.place_engine (c : PlaceContent) (q : Nat) : (s.place c q).engine = s.engine := rfl
@[simp] theorem State.place_arbiter (c : PlaceContent) (q : Nat) : (s.place c q).arbiter = s.arbiter := rfl
@[simp] theorem State.place_patrons (c : PlaceContent) (q : Nat) : (s.place c q).patrons = s.patrons := rfl
@[simp] theorem State.place_loans (c : PlaceContent) (q : Nat) : (s.place c q).loans = s.loans := rfl
@[simp] theorem State.place_titles (c : PlaceContent) (q : Nat) : (s.place c q).titles = s.titles := rfl
@[simp] theorem State.place_pool (c : PlaceContent) (q : Nat) : (s.place c q).pool = s.pool := rfl
@[simp] theorem State.place_calendar (c : PlaceContent) (q : Nat) : (s.place c q).calendar = s.calendar := rfl
@[simp] theorem State.place_schedule (c : PlaceContent) (q : Nat) : (s.place c q).schedule = s.schedule := rfl
@[simp] theorem State.place_sweep (c : PlaceContent) (q : Nat) : (s.place c q).sweep = s.sweep := rfl
@[simp] theorem State.place_tags (c : PlaceContent) (q : Nat) : (s.place c q).tags = s.tags := rfl
@[simp] theorem State.place_tagLine (c : PlaceContent) (q : Nat) : (s.place c q).tagLine = s.tagLine := rfl
@[simp] theorem State.place_lanes (c : PlaceContent) (q : Nat) : (s.place c q).lanes = s.lanes := rfl
@[simp] theorem State.place_faults (c : PlaceContent) (q : Nat) : (s.place c q).faults = s.faults := rfl
@[simp] theorem State.place_scrub (c : PlaceContent) (q : Nat) : (s.place c q).scrub = s.scrub := rfl
@[simp] theorem State.place_upsets (c : PlaceContent) (q : Nat) : (s.place c q).upsets = s.upsets := rfl
@[simp] theorem State.place_laneOut (c : PlaceContent) (q : Nat) : (s.place c q).laneOut = s.laneOut := rfl
@[simp] theorem State.place_linkOut (c : PlaceContent) (q : Nat) : (s.place c q).linkOut = s.linkOut := rfl
@[simp] theorem State.place_pending (c : PlaceContent) (q : Nat) : (s.place c q).pending = s.pending := rfl

@[simp] theorem State.startSending_engine : (s.startSending).engine = s.engine := rfl
@[simp] theorem State.startSending_arbiter : (s.startSending).arbiter = s.arbiter := rfl
@[simp] theorem State.startSending_patrons : (s.startSending).patrons = s.patrons := rfl
@[simp] theorem State.startSending_loans : (s.startSending).loans = s.loans := rfl
@[simp] theorem State.startSending_titles : (s.startSending).titles = s.titles := rfl
@[simp] theorem State.startSending_pool : (s.startSending).pool = s.pool := rfl
@[simp] theorem State.startSending_calendar : (s.startSending).calendar = s.calendar := rfl
@[simp] theorem State.startSending_schedule : (s.startSending).schedule = s.schedule := rfl
@[simp] theorem State.startSending_sweep : (s.startSending).sweep = s.sweep := rfl
@[simp] theorem State.startSending_tags : (s.startSending).tags = s.tags := rfl
@[simp] theorem State.startSending_tagLine : (s.startSending).tagLine = s.tagLine := rfl
@[simp] theorem State.startSending_lanes : (s.startSending).lanes = s.lanes := rfl
@[simp] theorem State.startSending_link : (s.startSending).link = { s.link with sending := s.link.up && !s.link.outbound.isEmpty } := rfl
@[simp] theorem State.startSending_faults : (s.startSending).faults = s.faults := rfl
@[simp] theorem State.startSending_scrub : (s.startSending).scrub = s.scrub := rfl
@[simp] theorem State.startSending_upsets : (s.startSending).upsets = s.upsets := rfl
@[simp] theorem State.startSending_laneOut : (s.startSending).laneOut = s.laneOut := rfl
@[simp] theorem State.startSending_linkOut : (s.startSending).linkOut = s.linkOut := rfl
@[simp] theorem State.startSending_pending : (s.startSending).pending = s.pending := rfl

@[simp] theorem State.settlePlace_engine : (s.settlePlace).engine = s.engine := rfl
@[simp] theorem State.settlePlace_arbiter : (s.settlePlace).arbiter = s.arbiter := rfl
@[simp] theorem State.settlePlace_patrons : (s.settlePlace).patrons = s.patrons := rfl
@[simp] theorem State.settlePlace_loans : (s.settlePlace).loans = s.loans := rfl
@[simp] theorem State.settlePlace_titles : (s.settlePlace).titles = s.titles := rfl
@[simp] theorem State.settlePlace_pool : (s.settlePlace).pool = s.pool := rfl
@[simp] theorem State.settlePlace_calendar : (s.settlePlace).calendar = s.calendar := rfl
@[simp] theorem State.settlePlace_schedule : (s.settlePlace).schedule = s.schedule := rfl
@[simp] theorem State.settlePlace_sweep : (s.settlePlace).sweep = s.sweep := rfl
@[simp] theorem State.settlePlace_tags : (s.settlePlace).tags = s.tags := rfl
@[simp] theorem State.settlePlace_tagLine : (s.settlePlace).tagLine = s.tagLine := rfl
@[simp] theorem State.settlePlace_lanes : (s.settlePlace).lanes = s.lanes := rfl
@[simp] theorem State.settlePlace_link : (s.settlePlace).link = { s.link with inbound := settleHead s.link.inbound } := rfl
@[simp] theorem State.settlePlace_faults : (s.settlePlace).faults = s.faults := rfl
@[simp] theorem State.settlePlace_scrub : (s.settlePlace).scrub = s.scrub := rfl
@[simp] theorem State.settlePlace_upsets : (s.settlePlace).upsets = s.upsets := rfl
@[simp] theorem State.settlePlace_laneOut : (s.settlePlace).laneOut = s.laneOut := rfl
@[simp] theorem State.settlePlace_linkOut : (s.settlePlace).linkOut = s.linkOut := rfl
@[simp] theorem State.settlePlace_pending : (s.settlePlace).pending = s.pending := rfl

end Sys2Proof.Machine
end

