-- ==== Sys2Proof/Laws/Frames.lean ====
section
/-! SUPPORT. What the shared operations leave alone: the tables, through everything that posts, logs, speaks on a lane,
searches or completes. -/

namespace Sys2Proof.Machine

variable (s : State)

@[simp] theorem State.setLane_tables (l : Lane) (u : LaneUnit) : (s.setLane l u).tables = s.tables := rfl
@[simp] theorem State.mapOp_tables (f : Op → Op) : (s.mapOp f).tables = s.tables := rfl
@[simp] theorem State.setOutbound_tables (q : List Notice) : (s.setOutbound q).tables = s.tables := rfl
@[simp] theorem State.append_tables (n : Notice) : (s.append n).tables = s.tables := rfl
@[simp] theorem State.send_tables (l : Lane) (w : LaneWord) : (s.send l w).tables = s.tables := rfl
@[simp] theorem State.startSending_tables : s.startSending.tables = s.tables := rfl
@[simp] theorem State.settlePlace_tables : s.settlePlace.tables = s.tables := rfl

/-! ## Posts and faults -/

@[simp] theorem State.post_tables (n : Notice) : (s.post n).tables = s.tables := by
  unfold State.post
  repeat' split
  all_goals simp

@[simp] theorem State.postIfRoom_tables (n : Notice) : (s.postIfRoom n).tables = s.tables := by
  unfold State.postIfRoom
  repeat' split
  all_goals simp

@[simp] theorem State.postBalance_tables (slot : Nat) : (s.postBalance slot).tables = s.tables := by
  unfold State.postBalance
  repeat' split
  all_goals simp

@[simp] theorem State.logFault_tables (c : FaultClass) (src : Source) (ctx : Context) :
    (s.logFault c src ctx).tables = s.tables := by
  unfold State.logFault
  simp only
  repeat' split
  all_goals rfl

@[simp] theorem State.postOwedFault_tables : s.postOwedFault.tables = s.tables := by
  unfold State.postOwedFault
  repeat' split
  all_goals rfl

@[simp] theorem State.announce_tables (l : Lane) : (s.announce l).tables = s.tables := by
  unfold State.announce
  simp only
  repeat' split
  all_goals rfl

@[simp] theorem State.announceByOp_tables (l : Lane) : (s.announceByOp l).tables = s.tables := by
  unfold State.announceByOp State.setOwed
  simp

@[simp] theorem State.postOwedLaneState_tables (l : Lane) : (s.postOwedLaneState l).tables = s.tables := by
  unfold State.postOwedLaneState
  split <;> simp

@[simp] theorem State.logLineCheck_tables (l : Lane) (st : Option Station) (c : Option ReqCode) :
    (s.logLineCheck l st c).tables = s.tables := by
  unfold State.logLineCheck
  simp

/-! ## The lanes -/

@[simp] theorem State.sendAwaited_tables (l : Lane) (w : LaneWord) : (s.sendAwaited l w).tables = s.tables := rfl
@[simp] theorem State.sendFinal_tables (l : Lane) (ex : Exchange) (f : Final) (c : Option ReqCode) (i : Nat) :
    (s.sendFinal l ex f c i).tables = s.tables := rfl
@[simp] theorem State.setStep_tables (l : Lane) (ex : Exchange) (st : ExchangeStep) :
    (s.setStep l ex st).tables = s.tables := rfl

@[simp] theorem State.sendAnswer_tables (l : Lane) (ex : Exchange) (a : Answer) :
    (s.sendAnswer l ex a).tables = s.tables := by
  unfold State.sendAnswer
  split <;> simp

@[simp] theorem State.openExchange_tables (l : Lane) (st : Station) : (s.openExchange l st).tables = s.tables := by
  unfold State.openExchange
  simp only
  split <;> simp

@[simp] theorem State.useIdleLine_tables (l : Lane) : (s.useIdleLine l).tables = s.tables := by
  unfold State.useIdleLine
  simp only
  repeat' split
  all_goals simp

@[simp] theorem State.takeAnswer_tables (l : Lane) (ex : Exchange) (a : Answer) (g : Bool) :
    (s.takeAnswer l ex a g).tables = s.tables := by
  unfold State.takeAnswer
  split <;> simp

@[simp] theorem State.handAnswer_tables (o : Origin) (a : Answer) : (s.handAnswer o a).tables = s.tables := by
  unfold State.handAnswer
  simp only
  repeat' split
  all_goals simp

@[simp] theorem State.handNotice_tables (o : Origin) (n : StationNotice) : (s.handNotice o n).tables = s.tables := by
  unfold State.handNotice
  simp only
  split <;> simp

@[simp] theorem State.handNotices_tables (ns : List (Origin × StationNotice)) :
    (s.handNotices ns).tables = s.tables := by
  unfold State.handNotices
  induction ns generalizing s with
  | nil => rfl
  | cons n ns ih => simp [List.foldl_cons, ih]

@[simp] theorem State.endExchange_tables (l : Lane) : (s.endExchange l).tables = s.tables := by
  unfold State.endExchange
  simp only
  split <;> simp

@[simp] theorem State.answerHeldCall_tables (l : Lane) : (s.answerHeldCall l).tables = s.tables := by
  unfold State.answerHeldCall
  simp only
  split <;> simp

@[simp] theorem State.closingAccepted_tables (l : Lane) : (s.closingAccepted l).tables = s.tables := by
  unfold State.closingAccepted
  simp only
  repeat' split
  all_goals simp

@[simp] theorem State.repeatClosing_tables (l : Lane) (st : Station) : (s.repeatClosing l st).tables = s.tables := by
  unfold State.repeatClosing
  simp

@[simp] theorem State.submit_tables (l : Lane) (ex : Exchange) : (s.submit l ex).tables = s.tables := by
  unfold State.submit
  simp

@[simp] theorem State.endOffer_tables (l : Lane) (o : Offering) (f : List StationNotice → List StationNotice) :
    (s.endOffer l o f).tables = s.tables := by
  unfold State.endOffer
  simp

/-! ## The arbiter -/

@[simp] theorem State.markGranted_tables (p : Nat) : (s.markGranted p).tables = s.tables := by
  unfold State.markGranted
  split
  · dsimp only
    split <;> simp
  · rfl

@[simp] theorem State.grant_tables (p : Nat) (k : OpKind) : (s.grant p k).tables = s.tables := by
  have h := s.markGranted_tables p
  unfold State.grant
  simpa [State.tables] using h

@[simp] theorem State.serviceLimited_tables (p : Nat) : (s.serviceLimited p).tables = s.tables := by
  unfold State.serviceLimited
  split
  · dsimp only
    split <;> simp
  · rfl

@[simp] theorem State.searchOver_tables (ps : List Nat) : (s.searchOver ps).tables = s.tables := by
  induction ps generalizing s with
  | nil => rfl
  | cons p ps ih =>
    simp only [State.searchOver]
    repeat' split
    all_goals simp [ih]

@[simp] theorem State.search_tables : s.search.tables = s.tables := by
  unfold State.search
  split <;> simp

/-! ## The link's CONFIRMs and completion -/

@[simp] theorem State.confirmMarker_tables : s.confirmMarker.tables = s.tables := by
  unfold State.confirmMarker
  repeat' split
  all_goals rfl

@[simp] theorem State.confirmOverrun_tables : s.confirmOverrun.tables = s.tables := by
  unfold State.confirmOverrun
  repeat' split
  all_goals rfl

@[simp] theorem State.moveSideList_tables : s.moveSideList.tables = s.tables := by
  unfold State.moveSideList
  repeat' split
  all_goals rfl

@[simp] theorem State.claim_tables (c : Claim) : (s.claim c).tables = s.tables := by
  cases c <;> simp [State.claim]

@[simp] theorem State.claimAll_tables (cs : List Claim) : (s.claimAll cs).tables = s.tables := by
  unfold State.claimAll
  induction cs generalizing s with
  | nil => rfl
  | cons c cs ih => simp [List.foldl_cons, ih]

@[simp] theorem State.routeAnswer_tables (op : Op) : (s.routeAnswer op).tables = s.tables := by
  unfold State.routeAnswer
  split <;> simp

@[simp] theorem State.leaveQueue_tables (op : Op) : (s.leaveQueue op).tables = s.tables := by
  unfold State.leaveQueue
  split <;> rfl

/-- Completion changes no table. -/
@[simp] theorem State.finishOp_tables (op : Op) (cs : List Claim) : (s.finishOp op cs).tables = s.tables := by
  unfold State.finishOp
  simp only
  split
  · exact s.leaveQueue_tables op
  · rw [State.search_tables, State.claimAll_tables]
    exact (by simp : (((s.leaveQueue op).routeAnswer op).handNotices op.handed).tables = s.tables)

@[simp] theorem State.complete_tables (cs : List Claim) : (s.complete cs).tables = s.tables := by
  unfold State.complete
  repeat' split
  all_goals first | rfl | simp

/-- An operation's work alone changes the tables: its completion, the search and the link do not. -/
theorem State.perform_tables (mine : OpKind → Bool) (work : Op → State → State) (x : Crossing) (op : Op)
    (hb : s.engine = .busy op) (hm : mine op.kind = true) :
    (s.perform mine work x).tables = (work op { s with upsets := s.upsets ++ x.flips }).tables := by
  simp [State.perform, hb, hm]

/-- With no reset due, a command's own effect is all that changes the tables. -/
theorem State.command_eq (f : State → State) (h : s.settled) : State.command f s = .next (f s).startSending := by
  unfold State.settled at h
  simp [State.command, State.takeDueReset, h]

end Sys2Proof.Machine
end

