-- ==== Sys2Proof/Laws/Lanes.lean ====
section
/-! SUPPORT. What the operations on one lane do: the lane that is set reads back, the others stay, and a word that is
sent is the last one out. -/

namespace Sys2Proof.Machine

theorem vector_get {α : Type} {n : Nat} (v : Vector α n) (i : Fin n) : v.get i = v[i.val] := rfl

@[simp] theorem State.lane_setLane (s : State) (l : Lane) (u : LaneUnit) : (s.setLane l u).lane l = u := by
  simp [State.setLane, State.lane, vector_get]

theorem State.lane_setLane_ne (s : State) {l k : Lane} (u : LaneUnit) (h : k ≠ l) :
    (s.setLane l u).lane k = s.lane k := by
  have : l.val ≠ k.val := fun e => h (Fin.ext e.symm)
  simp [State.setLane, State.lane, vector_get, this]

@[simp] theorem State.logFault_lane (s : State) (c : FaultClass) (src : Source) (ctx : Context) (l : Lane) :
    (s.logFault c src ctx).lane l = s.lane l := by
  simp only [State.logFault, State.lane]
  split
  · rfl
  · split <;> rfl

/-! ## OnlyLane -/

theorem OnlyLane.refl (s : State) (l : Lane) : OnlyLane s s l (s.lane l) [] :=
  ⟨rfl, fun _ _ => rfl, by simp, rfl⟩

theorem OnlyLane.setLane (s : State) (l : Lane) (u : LaneUnit) : OnlyLane s (s.setLane l u) l u [] :=
  ⟨State.lane_setLane _ _ _, fun _ h => State.lane_setLane_ne _ _ h, by simp [State.setLane], rfl⟩

theorem OnlyLane.set {s v : State} {l : Lane} {u : LaneUnit} {ws : List LaneWord} (h : OnlyLane s v l u ws)
    (u' : LaneUnit) : OnlyLane s (v.setLane l u') l u' ws :=
  ⟨State.lane_setLane _ _ _, fun k hk => (State.lane_setLane_ne _ _ hk).trans (h.others k hk), h.sent, h.rest⟩

theorem OnlyLane.send {s v : State} {l : Lane} {u : LaneUnit} {ws : List LaneWord} (h : OnlyLane s v l u ws)
    (w : LaneWord) : OnlyLane s (v.send l w) l u (ws ++ [w]) :=
  ⟨h.lane, h.others, by simp [State.send, h.sent], h.rest⟩

/-- A word that awaits its answer starts the reply timer. -/
theorem OnlyLane.sendAwaited {s v : State} {l : Lane} {u : LaneUnit} {ws : List LaneWord} (h : OnlyLane s v l u ws)
    (w : LaneWord) : OnlyLane s (v.sendAwaited l w) l { u with timer := .reply } (ws ++ [w]) := by
  unfold State.sendAwaited
  rw [h.lane]
  exact (h.set _).send w

/-- The FINAL of an exchange closes it. -/
theorem closes_sendFinal (s : State) (l : Lane) (ex : Exchange) (f : Final) (code : Option ReqCode) (index : Nat) :
    Closes s (s.sendFinal l ex f code index) l ex f code index := by
  have e : ({ s.lane l with exchange := some { ex with step := .closing f } } : LaneUnit).noteFinal ex.station f code
      index = { (s.lane l).noteFinal ex.station f code index with exchange := some { ex with step := .closing f } } := by
    cases f <;> rfl
  unfold State.sendFinal State.sendAwaited
  rw [State.lane_setLane, e]
  exact ((OnlyLane.setLane _ _ _).set _).send _

/-- A QUIESCING lane in WORKING that owes no ACCEPT answers its lowest held call (R161). -/
theorem OnlyLane.answerHeldCall {s v : State} {l : Lane} {u : LaneUnit} {ws : List LaneWord} (h : OnlyLane s v l u ws)
    {ex : Exchange} {k : WorkPhase} {first : Station} (quiescing : u.life = .quiescing) (open_ : u.exchange = some ex)
    (working : ex.step = .working k) (quiet : u.closingCall = none) (held : StationSet.lowest u.held = some first) :
    OnlyLane s (v.answerHeldCall l) l (u.closingTo u.held first) (ws ++ [.final first (.check .laneClosing)]) := by
  obtain ⟨station, step, code, count, fields⟩ := ex
  simp only at working
  subst working
  have sent := (h.set (({ u with held := StationSet.remove u.held first, closingCall := some first } : LaneUnit).noteFinal
    first (.check .laneClosing) none 0)).sendAwaited (.final first (.check .laneClosing))
  obtain ⟨life, gen, roll, exchange, set, offer, owed, timer, call, reason, carrier, stations⟩ := u
  simp only at quiescing open_ quiet held
  subst quiescing open_ quiet
  unfold State.answerHeldCall
  simp only [h.lane, held]
  exact sent

/-- With an exchange open, ACCEPT-OFFER and DEFER are words like any other. -/
theorem State.offerWord_open {s : State} {l : Lane} {ex : Exchange} (h : (s.lane l).exchange = some ex) (st : Station)
    (pick : Offer → Station → Option Offering) (take : Offering → State) :
    s.offerWord l st pick take = s.stationWord l st fun ex => s.outOfPlace l ex := by
  unfold State.offerWord
  rw [h]
  cases (s.lane l).life <;> rfl

/-- A station that may speak is heard in its exchange. -/
theorem Speaks.place {s : State} {l : Lane} {ex : Exchange} (h : Speaks s l ex) :
    (s.lane l).wordPlace ex.station = .inExchange ex := by
  simp [LaneUnit.wordPlace, h.attached, h.open_, h.speaker]

end Sys2Proof.Machine
end

