-- ==== Sys2Proof/Laws/Completion.lean ====
section
/-! SUPPORT. Posting and completion: what a post puts into the outbound queue, what completion leaves there, and that
the lane that waits for an operation's answer begins to send it. -/

namespace Sys2Proof.Machine

variable (s : State)

/-! ## What the lanes and the search leave of the link -/

@[simp] theorem State.sendAnswer_link (l : Lane) (ex : Exchange) (a : Answer) : (s.sendAnswer l ex a).link = s.link := by
  unfold State.sendAnswer
  split <;> rfl

@[simp] theorem State.openExchange_link (l : Lane) (st : Station) : (s.openExchange l st).link = s.link := by
  unfold State.openExchange
  simp only
  split <;> rfl

@[simp] theorem State.useIdleLine_link (l : Lane) : (s.useIdleLine l).link = s.link := by
  unfold State.useIdleLine
  simp only
  repeat' split
  all_goals simp [State.sendAwaited, State.send]

@[simp] theorem State.takeAnswer_link (l : Lane) (ex : Exchange) (a : Answer) (g : Bool) :
    (s.takeAnswer l ex a g).link = s.link := by
  unfold State.takeAnswer
  split
  · rfl
  · simp

@[simp] theorem State.handAnswer_link (o : Origin) (a : Answer) : (s.handAnswer o a).link = s.link := by
  unfold State.handAnswer
  simp only
  repeat' split
  all_goals simp

@[simp] theorem State.handNotice_link (o : Origin) (n : StationNotice) : (s.handNotice o n).link = s.link := by
  unfold State.handNotice
  simp only
  split <;> simp

@[simp] theorem State.handNotices_link (ns : List (Origin × StationNotice)) : (s.handNotices ns).link = s.link := by
  unfold State.handNotices
  induction ns generalizing s with
  | nil => rfl
  | cons n ns ih => simp [List.foldl_cons, ih]

@[simp] theorem State.routeAnswer_link (op : Op) : (s.routeAnswer op).link = s.link := by
  unfold State.routeAnswer
  split <;> simp

@[simp] theorem State.leaveQueue_outbound (op : Op) : (s.leaveQueue op).link.outbound = s.link.outbound := by
  unfold State.leaveQueue
  split <;> rfl

@[simp] theorem State.markGranted_link (p : Nat) : (s.markGranted p).link = s.link := by
  unfold State.markGranted
  split
  · dsimp only
    split <;> rfl
  · rfl

@[simp] theorem State.serviceLimited_link (p : Nat) : (s.serviceLimited p).link = s.link := by
  unfold State.serviceLimited
  split
  · dsimp only
    split <;> simp
  · rfl

@[simp] theorem State.searchOver_link (ps : List Nat) : (s.searchOver ps).link = s.link := by
  induction ps generalizing s with
  | nil => rfl
  | cons p ps ih =>
    simp only [State.searchOver]
    repeat' split
    all_goals simp [ih, State.grant]

@[simp] theorem State.search_link : s.search.link = s.link := by
  unfold State.search
  split <;> simp

/-! ## What claims and completion leave in the outbound queue -/

/-- The one kind of notice that a waiter's post may update in place. -/
def Notice.isLaneState : Notice → Bool
  | .laneState .. => true
  | _ => false

theorem coalesceIn_mem {new n : Notice} {q r : List Notice} (h : coalesceIn new q = some r) (hn : n ∈ q)
    (hs : new.sameSubject n = false) : n ∈ r := by
  induction q generalizing r with
  | nil => cases hn
  | cons old rest ih =>
    simp only [coalesceIn] at h
    split at h
    · rename_i hsub
      cases h
      rcases List.mem_cons.mp hn with rfl | hn
      · simp [hs] at hsub
      · exact List.mem_cons_of_mem _ hn
    · obtain ⟨r', hr, rfl⟩ := Option.map_eq_some_iff.mp h
      rcases List.mem_cons.mp hn with rfl | hn
      · exact List.mem_cons_self
      · exact List.mem_cons_of_mem _ (ih hr hn)

theorem Link.coalesce_mem {k : Link} {new n : Notice} {r : List Notice} (h : k.coalesce new = some r)
    (hn : n ∈ k.outbound) (hs : new.sameSubject n = false) : n ∈ r := by
  unfold Link.coalesce at h
  split at h
  · cases hq : k.outbound with
    | nil => simp [hq] at hn
    | cons head rest =>
      rw [hq] at h hn
      obtain ⟨r', hr, rfl⟩ := Option.map_eq_some_iff.mp h
      rcases List.mem_cons.mp hn with rfl | hn
      · exact List.mem_cons_self
      · exact List.mem_cons_of_mem _ (coalesceIn_mem hr hn hs)
  · exact coalesceIn_mem h hn hs

/-- A notice that finds no unsent entry for its subject does not coalesce (R181). -/
theorem Link.coalesce_none {k : Link} {n : Notice} (h : ∀ m ∈ k.unsent, n.sameSubject m = false) : k.coalesce n = none := by
  have key : ∀ q : List Notice, (∀ m ∈ q, n.sameSubject m = false) → coalesceIn n q = none := by
    intro q
    induction q with
    | nil => intro _; rfl
    | cons a q ih => intro hq; simp [coalesceIn, hq a (by simp), ih fun m hm => hq m (by simp [hm])]
  unfold Link.coalesce Link.unsent at *
  split
  · split
    · rfl
    · simp_all
  · simp_all

/-- A notice takes the place of the first unsent entry for its subject (R181). -/
theorem Link.coalesce_at {k : Link} {n old : Notice} {before after : List Notice}
    (h : k.outbound = before ++ old :: after) (hb : k.sending = true → before ≠ [])
    (hm : ∀ m ∈ (if k.sending then before.tail else before), n.sameSubject m = false)
    (ho : n.sameSubject old = true) : k.coalesce n = some (before ++ n :: after) := by
  have key : ∀ q : List Notice, (∀ m ∈ q, n.sameSubject m = false) →
      coalesceIn n (q ++ old :: after) = some (q ++ n :: after) := by
    intro q
    induction q with
    | nil => intro _; simp [coalesceIn, ho]
    | cons a q ih => intro hq; simp [coalesceIn, hq a (by simp), ih fun m hm => hq m (by simp [hm])]
  unfold Link.coalesce
  split <;> rename_i hs
  · cases before with
    | nil => simp_all
    | cons b bs =>
      simp only [h, List.cons_append]
      rw [key bs (by simpa [hs] using hm), Option.map_some]
  · rw [h, key before (by simpa [hs] using hm)]

/-- What the next waiting post does: it coalesces, or takes an entry where there is room, or waits on (R8, R181). -/
theorem State.placeWaiting_cases (op : Op) (n : Notice) :
    (∃ q, s.link.coalesce n = some q ∧ s.placeWaiting op n = some (s.setOutbound q)) ∨
      s.link.coalesce n = none ∧
        (s.link.outbound.length + op.reservation < 128 ∧ s.placeWaiting op n = some (s.append n) ∨
          128 ≤ s.link.outbound.length + op.reservation ∧ s.placeWaiting op n = none) := by
  unfold State.placeWaiting
  cases h : s.link.coalesce n with
  | some q => exact .inl ⟨q, rfl, rfl⟩
  | none =>
    refine .inr ⟨rfl, ?_⟩
    by_cases hr : s.link.outbound.length + op.reservation < 128
    · exact .inl ⟨hr, if_pos hr⟩
    · exact .inr ⟨Nat.le_of_not_lt hr, if_neg hr⟩

/-- A merged notice stands in the queue. -/
theorem Link.coalesce_self {k : Link} {new : Notice} {r : List Notice} (h : k.coalesce new = some r) : new ∈ r := by
  have key : ∀ q r, coalesceIn new q = some r → new ∈ r := by
    intro q
    induction q with
    | nil => intro r h; cases h
    | cons old rest ih =>
      intro r h
      simp only [coalesceIn] at h
      split at h
      · cases h
        exact List.mem_cons_self
      · obtain ⟨r', hr, rfl⟩ := Option.map_eq_some_iff.mp h
        exact List.mem_cons_of_mem _ (ih _ hr)
  unfold Link.coalesce at h
  split at h
  · cases hq : k.outbound with
    | nil => rw [hq] at h; cases h
    | cons head rest =>
      rw [hq] at h
      obtain ⟨r', hr, rfl⟩ := Option.map_eq_some_iff.mp h
      exact List.mem_cons_of_mem _ (key _ _ hr)
  · exact key _ _ h

theorem State.claim_mem {n : Notice} (c : Claim) (hn : n ∈ s.link.outbound) (hl : n.isLaneState = false) :
    n ∈ (s.claim c).link.outbound := by
  cases c with
  | fault =>
    simp only [State.claim, State.postOwedFault]
    repeat' split
    all_goals simp [State.append, State.setOutbound, hn]
  | laneState l =>
    simp only [State.claim, State.postOwedLaneState, State.announce]
    repeat' split
    · rename_i q h
      refine Link.coalesce_mem h hn ?_
      cases n <;> simp_all [Notice.sameSubject, LaneUnit.stateNotice, Notice.isLaneState]
    all_goals simp [State.append, State.setOutbound, State.setOwed, State.setLane, hn]
  | overrun =>
    simp only [State.claim, State.confirmOverrun]
    repeat' split
    all_goals simp [State.append, State.setOutbound, hn]
  | sideList =>
    simp only [State.claim, State.moveSideList]
    repeat' split
    all_goals simp [State.append, State.setOutbound, hn]
  | marker =>
    simp only [State.claim, State.confirmMarker]
    repeat' split
    all_goals simp [State.append, State.setOutbound, State.settlePlace, hn]

theorem State.claimAll_mem {n : Notice} (cs : List Claim) (hn : n ∈ s.link.outbound) (hl : n.isLaneState = false) :
    n ∈ (s.claimAll cs).link.outbound := by
  unfold State.claimAll
  induction cs generalizing s with
  | nil => exact hn
  | cons c cs ih => exact ih (s.claim c) (s.claim_mem c hn hl)

/-- A notice of the operation is still there after its completion. -/
theorem State.finishOp_mem {n : Notice} (op : Op) (cs : List Claim) (hn : n ∈ s.link.outbound)
    (hl : n.isLaneState = false) : n ∈ (s.finishOp op cs).link.outbound := by
  unfold State.finishOp
  simp only
  split
  · simpa using hn
  · rw [State.search_link]
    refine State.claimAll_mem _ _ ?_ hl
    simpa using hn

/-- With no claims, completion leaves the outbound queue as it is. -/
theorem State.finishOp_outbound (op : Op) : (s.finishOp op []).link.outbound = s.link.outbound := by
  unfold State.finishOp
  simp only
  split
  · simp
  · rw [State.search_link]
    simp [State.claimAll]

/-! ## Posting against a reservation (R1, R3) -/

/-- The engine performs an operation that still has k entries reserved and waits for none. -/
def State.hasRoom (s : State) (k : Nat) : Prop :=
  ∃ op, s.engine = .busy op ∧ op.waiting = [] ∧ k ≤ op.reservation

/-- A post against the reservation stands in the queue and uses at most one entry of it. -/
theorem State.post_room {s : State} {k : Nat} (h : s.hasRoom (k + 1)) (n : Notice) :
    n ∈ (s.post n).link.outbound ∧ (s.post n).hasRoom k := by
  obtain ⟨op, he, hw, hr⟩ := h
  unfold State.post
  split
  · rename_i q hq
    exact ⟨Link.coalesce_self hq, op, he, hw, by omega⟩
  · have hp : 0 < op.reservation := by omega
    simp only [he, hw, hp, ne_eq, not_true_eq_false, ↓reduceIte]
    refine ⟨by simp [State.append, State.setOutbound, State.mapOp], { op with reservation := op.reservation - 1 }, ?_, hw,
      by simp only; omega⟩
    simp [State.append, State.setOutbound, State.mapOp, Engine.mapOp, he]

/-- A post of a notice that never coalesces, against the reservation: it is the last of the queue, one reserved entry is
used, and nothing else changes. -/
theorem State.post_reserved {s : State} {op : Op} {n : Notice} (he : s.engine = .busy op) (hw : op.waiting = [])
    (hr : 1 ≤ op.reservation) (hn : ∀ m, n.sameSubject m = false) :
    s.post n = { s with
      engine := .busy { op with reservation := op.reservation - 1 }
      link := { s.link with outbound := s.link.outbound ++ [n] } } := by
  have hp : 0 < op.reservation := hr
  simp only [State.post, Link.coalesce_none fun m _ => hn m, he, hw, hp, ne_eq, not_true_eq_false, ↓reduceIte,
    State.append, State.setOutbound, State.mapOp, Engine.mapOp]

/-- A post keeps every notice that is not of its own subject. -/
theorem State.post_mem {n m : Notice} (hm : m ∈ s.link.outbound) (hs : n.sameSubject m = false) :
    m ∈ (s.post n).link.outbound := by
  unfold State.post
  split
  · rename_i q hq
    exact Link.coalesce_mem hq hm hs
  · repeat' split
    all_goals simp [State.append, State.setOutbound, State.mapOp, hm]

/-! ## The answer reaches its lane (R10, R166) -/

/-- An exchange that sends results or a FINAL. -/
def Exchange.sends (ex : Exchange) : Bool :=
  match ex.step with
  | .results _ _ _ => true
  | .closing _ => true
  | _ => false

theorem Exchange.answered_sends (ex : Exchange) (a : Answer) : (ex.answered a).sends = true := by
  unfold Exchange.answered
  split <;> rfl

theorem State.setLane_exchange {l k : Lane} {u : LaneUnit} {ex : Exchange} (h : (s.lane l).exchange = some ex)
    (hu : k = l → u.exchange = some ex) : ((s.setLane k u).lane l).exchange = some ex := by
  by_cases hk : k = l
  · subst hk
    rw [State.lane_setLane]
    exact hu rfl
  · rw [State.lane_setLane_ne _ _ (Ne.symm hk)]
    exact h

theorem State.send_lane (l k : Lane) (w : LaneWord) : (s.send l w).lane k = s.lane k := rfl

theorem LaneUnit.noteFinal_exchange (u : LaneUnit) (st : Station) (f : Final) (c : Option ReqCode) (i : Nat) :
    (u.noteFinal st f c i).exchange = u.exchange := by
  unfold LaneUnit.noteFinal
  split <;> rfl

/-- A word that a lane with no exchange sends leaves the other lanes' exchanges. -/
theorem State.useIdleLine_exchange {l k : Lane} {ex : Exchange} (h : (s.lane l).exchange = some ex) :
    ((s.useIdleLine k).lane l).exchange = some ex := by
  by_cases hk : k = l
  · subst hk
    simp [State.useIdleLine, LaneUnit.isIdle, h]
  · have e : ∀ (v : State) (u : LaneUnit), v.lane l = s.lane l → (v.setLane k u).lane l = s.lane l := fun v u hv =>
      (State.lane_setLane_ne _ _ (Ne.symm hk)).trans hv
    have : (s.useIdleLine k).lane l = s.lane l := by
      unfold State.useIdleLine
      simp only
      repeat' split
      · unfold State.openExchange
        simp only
        split
        · simp only [State.sendAwaited, State.send_lane, State.setStep]
          exact e _ _ (e _ _ (e _ _ rfl))
        · simp only [State.sendFinal, State.sendAwaited, State.send_lane]
          exact e _ _ (e _ _ (e _ _ rfl))
      · simp only [State.sendAwaited, State.send_lane]
        exact e _ _ (e _ _ rfl)
      · rfl
      · rfl
    rw [this]
    exact h

theorem State.handNotice_exchange {l : Lane} {ex : Exchange} (h : (s.lane l).exchange = some ex) (o : Origin)
    (n : StationNotice) : ((s.handNotice o n).lane l).exchange = some ex := by
  unfold State.handNotice
  simp only
  split
  · refine State.useIdleLine_exchange _ (State.setLane_exchange _ h ?_)
    intro hk
    subst hk
    exact h
  · exact h

theorem State.handNotices_exchange {l : Lane} {ex : Exchange} (h : (s.lane l).exchange = some ex)
    (ns : List (Origin × StationNotice)) : ((s.handNotices ns).lane l).exchange = some ex := by
  unfold State.handNotices
  induction ns generalizing s with
  | nil => exact h
  | cons n ns ih => exact ih _ (s.handNotice_exchange h _ _)

theorem State.claim_exchange {l : Lane} {ex : Exchange} (h : (s.lane l).exchange = some ex) (c : Claim) :
    ((s.claim c).lane l).exchange = some ex := by
  cases c with
  | laneState k =>
    simp only [State.claim, State.postOwedLaneState, State.announce, State.setOwed]
    repeat' split
    · exact State.setLane_exchange _ h (by intro hk; subst hk; exact h)
    · exact State.setLane_exchange _ h (by intro hk; subst hk; exact h)
    · exact State.setLane_exchange _ h (by intro hk; subst hk; exact h)
    · exact h
  | fault =>
    simp only [State.claim, State.postOwedFault]
    repeat' split
    all_goals exact h
  | overrun =>
    simp only [State.claim, State.confirmOverrun]
    repeat' split
    all_goals exact h
  | sideList =>
    simp only [State.claim, State.moveSideList]
    repeat' split
    all_goals exact h
  | marker =>
    simp only [State.claim, State.confirmMarker]
    repeat' split
    all_goals exact h

theorem State.claimAll_exchange {l : Lane} {ex : Exchange} (h : (s.lane l).exchange = some ex) (cs : List Claim) :
    ((s.claimAll cs).lane l).exchange = some ex := by
  unfold State.claimAll
  induction cs generalizing s with
  | nil => exact h
  | cons c cs ih => exact ih _ (s.claim_exchange h c)

/-- A lane that sends has no request at its position, so a search leaves its exchange. -/
theorem State.requestAt_sends {l : Lane} {ex : Exchange} (h : (s.lane l).exchange = some ex) (hs : ex.sends = true) :
    s.requestAt l.val = none := by
  have h' : (s.lanes.get l).exchange = some ex := h
  have hl : l.val < 16 := l.isLt
  simp only [State.requestAt, hl, ↓reduceDIte, LaneUnit.request]
  rw [h']
  unfold Exchange.sends at hs
  cases hst : ex.step <;> simp_all

theorem State.takeAnswer_exchange_ne {l k : Lane} {ex e : Exchange} (h : (s.lane l).exchange = some ex) (hk : k ≠ l)
    (a : Answer) (g : Bool) : ((s.takeAnswer k e a g).lane l).exchange = some ex := by
  have hne : ∀ (v : State) (u : LaneUnit), (v.lane l).exchange = some ex → ((v.setLane k u).lane l).exchange = some ex :=
    fun v u hv => State.setLane_exchange _ hv (fun e => absurd e hk)
  unfold State.takeAnswer
  split
  · exact hne _ _ h
  · unfold State.sendAnswer
    split
    · exact hne _ _ (hne _ _ h)
    · exact hne _ _ (hne _ _ h)

theorem State.searchOver_exchange {l : Lane} {ex : Exchange} (ps : List Nat) (h : (s.lane l).exchange = some ex)
    (hs : ex.sends = true) : ((s.searchOver ps).lane l).exchange = some ex := by
  induction ps generalizing s with
  | nil => exact h
  | cons p ps ih =>
    simp only [State.searchOver]
    split
    · exact ih _ h
    · rename_i kind hp
      have hpl : p ≠ l.val := by
        intro e
        rw [e, s.requestAt_sends h hs] at hp
        cases hp
      split
      · show ((s.markGranted p).lane l).exchange = some ex
        unfold State.markGranted
        split
        · rename_i h16
          dsimp only
          split
          · exact State.setLane_exchange _ h (fun e => absurd (congrArg Fin.val e) hpl)
          · exact h
        · exact h
      · split
        · refine ih _ ?_
          unfold State.serviceLimited
          split
          · dsimp only
            split
            · exact State.takeAnswer_exchange_ne _ h (fun e => hpl (congrArg Fin.val e)) _ _
            · exact h
          · exact h
        · exact ih _ h

theorem State.search_exchange {l : Lane} {ex : Exchange} (h : (s.lane l).exchange = some ex) (hs : ex.sends = true) :
    (s.search.lane l).exchange = some ex := by
  unfold State.search
  split
  · exact State.searchOver_exchange _ _ h hs
  · exact h

/-- The lane takes an answer when no LANE_CLOSING final is in its way. -/
theorem State.sendAnswer_exchange (l : Lane) (ex : Exchange) (a : Answer) :
    ((s.sendAnswer l ex a).lane l).exchange = some (ex.answered a) := by
  cases hf : a.fields with
  | nil =>
    simp only [State.sendAnswer, Exchange.answered, hf, State.sendFinal, State.sendAwaited, State.send_lane,
      State.lane_setLane]
    exact LaneUnit.noteFinal_exchange _ _ _ _ _
  | cons v rest =>
    simp only [State.sendAnswer, Exchange.answered, hf, State.setStep, State.sendAwaited, State.send_lane,
      State.lane_setLane]

/-- Completion hands the answer to the lane that waits for it, which begins to send it. -/
theorem State.complete_answers {op op' : Op} {o : Origin} {ex : Exchange} {a : Answer} (cs : List Claim)
    (hb : s.engine = .busy op') (hw : op'.waiting = []) (hr : op'.resetOwed = false) (ha : op'.answer = some a)
    (ho : op'.origin = op.origin) (h : AwaitedBy s op o ex) :
    ((s.complete cs).lane o.lane).exchange = some (ex.answered a) := by
  unfold State.complete
  simp only [hb, hw, List.isEmpty_nil, ↓reduceIte]
  unfold State.finishOp
  simp only [hr, Bool.false_eq_true, ↓reduceIte]
  refine State.search_exchange _ (State.claimAll_exchange _ ?_ _) (Exchange.answered_sends _ _)
  show (((((s.leaveQueue op').routeAnswer op').handNotices op'.handed)).lane o.lane).exchange = some (ex.answered a)
  refine State.handNotices_exchange _ ?_ _
  have hl : (s.leaveQueue op').lane o.lane = s.lane o.lane := by
    unfold State.leaveQueue
    split <;> rfl
  have hx : (s.leaveQueue op').routeAnswer op' = (s.leaveQueue op').handAnswer o a := by
    simp [State.routeAnswer, ho, h.origin, ha]
  rw [hx]
  simp only [State.handAnswer, hl, h.working, h.granted, h.sameGen, h.sameSt, and_self, ↓reduceIte, State.takeAnswer,
    h.quiet]
  exact State.sendAnswer_exchange _ _ _ _

end Sys2Proof.Machine
end

