-- ==== Sys2Proof/Laws/Memory.lean ====
section
/-! SUPPORT. Checked reads of a memory without bit errors change nothing. -/

namespace Sys2Proof.Machine

variable {s : State}

/-- A check that finds no error standing answers no, and brings the errors to come one access nearer. -/
theorem State.check_none {r : RecordId} (h : standing r s.upsets = none) :
    s.check r = (false, { s with upsets := passWhere (fun q => decide (q = r)) s.upsets }) := by
  simp [State.check, h]

theorem State.check_clean (h : s.upsets = []) (r : RecordId) : s.check r = (false, s) := by
  rw [State.check_none (by simp [h, standing])]
  cases s
  simp_all

theorem State.readBy_clean (h : s.upsets = []) (fuel : Nat) (r : RecordId) : s.readBy fuel r = s := by
  cases fuel with
  | zero => rfl
  | succ n => simp [State.readBy, State.check_clean h]

theorem State.readRecord_clean (h : s.upsets = []) (r : RecordId) : s.readRecord r = s := State.readBy_clean h _ r

theorem State.readPatron_clean (h : s.upsets = []) (n : Nat) : s.readPatron n = s := s.readRecord_clean h _
theorem State.readLoan_clean (h : s.upsets = []) (n : Nat) : s.readLoan n = s := s.readRecord_clean h _
theorem State.readTitle_clean (h : s.upsets = []) (n : Nat) : s.readTitle n = s := s.readRecord_clean h _
theorem State.readPool_clean (h : s.upsets = []) (n : Nat) : s.readPool n = s := s.readRecord_clean h _

theorem State.readTag_clean (h : s.upsets = []) (n : Nat) : s.readTag n = s := by
  unfold State.readTag
  rw [State.readRecord_clean h, State.readRecord_clean h]

theorem State.upsetSlots_clean (h : s.upsets = []) (t : Table) : s.upsetSlots t = [] := by
  simp [State.upsetSlots, h]

theorem State.searchFrom_clean (h : s.upsets = []) (t : Table) (start : Nat) (found : State → Option Nat) :
    s.searchFrom t start found = s := by
  rw [State.searchFrom, State.upsetSlots_clean h, List.filter_nil, List.foldl_nil]

theorem State.searchPlaces_clean (h : s.upsets = []) (t : Table) (found : State → Option Nat) :
    s.searchPlaces t found = s := State.searchFrom_clean h _ _ _

theorem State.slotsFrom_clean (h : s.upsets = []) (t : Table) (occupied : List Nat) (cursor : Nat) :
    s.slotsFrom t occupied cursor = occupied.filter fun n => cursor ≤ n := by
  rw [State.slotsFrom, State.upsetSlots_clean h, List.foldr_nil]

theorem State.lookUpPatron_clean (h : s.upsets = []) (id : Nat) : s.lookUpPatron id = s := by
  simp only [State.lookUpPatron, State.searchPlaces_clean h]
  split
  · exact State.readPatron_clean h _
  · rfl

theorem State.lookUpCopy_clean (h : s.upsets = []) (id : Nat) : s.lookUpCopy id = s := by
  simp only [State.lookUpCopy, State.searchPlaces_clean h]
  split
  · exact State.readLoan_clean h _
  · rfl

theorem State.lookUpTitle_clean (h : s.upsets = []) (id : Nat) : s.lookUpTitle id = s := by
  simp only [State.lookUpTitle, State.searchPlaces_clean h]
  split
  · exact State.readTitle_clean h _
  · rfl

theorem State.readFreePatron_clean (h : s.upsets = []) : s.readFreePatron = s := State.searchPlaces_clean h _ _
theorem State.readFreeLoan_clean (h : s.upsets = []) : s.readFreeLoan = s := State.searchPlaces_clean h _ _
theorem State.readFreeTitle_clean (h : s.upsets = []) : s.readFreeTitle = s := State.searchPlaces_clean h _ _
theorem State.readFreePool_clean (h : s.upsets = []) : s.readFreePool = s := State.searchPlaces_clean h _ _

theorem State.readQueue_clean (h : s.upsets = []) (q : List QueueItem) : s.readQueue q = s := by
  unfold State.readQueue
  induction q with
  | nil => rfl
  | cons i q ih => rw [List.foldl_cons, State.readPool_clean h, ih]

theorem State.readQueueOf_clean (h : s.upsets = []) (n : Nat) : s.readQueueOf n = s := by
  unfold State.readQueueOf
  split
  · exact State.readQueue_clean h _
  · rfl

theorem State.readQueueById_clean (h : s.upsets = []) (id : Nat) : s.readQueueById id = s := by
  unfold State.readQueueById
  split
  · exact State.readQueue_clean h _
  · rfl

theorem State.readTitleQueue_clean (h : s.upsets = []) (id : Nat) : s.readTitleQueue id = s := by
  unfold State.readTitleQueue
  rw [State.lookUpTitle_clean h, State.readQueueById_clean h]

theorem State.readOwner_clean (h : s.upsets = []) (n : Nat) : s.readOwner n = s := by
  unfold State.readOwner
  split
  · split
    · rfl
    · exact State.readRecord_clean h _
  · rfl

theorem State.drain_clean (h : s.upsets = []) (n : Nat) : s.drain n = s.drainRead n := by
  rw [State.drain, State.readQueueOf_clean h]

theorem State.scanTable_clean (h : s.upsets = []) (t : Table) : s.scanTable t = s := by
  rw [State.scanTable, State.scanBy, State.upsetSlots_clean h, List.foldl_nil]

theorem State.scanTags_clean (h : s.upsets = []) : s.scanTags = s := by
  rw [State.scanTags, State.scanTable_clean h, State.scanTable_clean h]

theorem State.readFreeTagFrom_clean (h : s.upsets = []) :
    ∀ fuel start, State.readFreeTagFrom fuel start s = s
  | 0, _ => rfl
  | fuel + 1, start => by
    simp only [State.readFreeTagFrom, State.searchFrom_clean h, State.readRecord_clean h,
      State.readFreeTagFrom_clean h fuel, ite_self]
    split <;> rfl

theorem State.readFreeTag_clean (h : s.upsets = []) : s.readFreeTag = s := State.readFreeTagFrom_clean h _ _

theorem State.readForSlot_clean (h : s.upsets = []) : s.readForSlot = s := by
  simp only [State.readForSlot, State.readFreePatron_clean h, State.scanTable_clean h, State.scanTags_clean h, ite_self]

theorem State.readForEntry_clean (h : s.upsets = []) (n : Nat) : s.readForEntry n = s := by
  simp only [State.readForEntry, State.readQueueOf_clean h, State.readFreePool_clean h, ite_self]
  split <;> rfl

theorem State.readToClose_clean (h : s.upsets = []) : s.readToClose = s := by
  simp only [State.readToClose, State.scanTable_clean h, ite_self]

theorem State.readTagField_clean (h : s.upsets = []) (t : TagField) : s.readTagField t = s := by
  unfold State.readTagField
  split
  · exact State.readTag_clean h _
  · rfl

theorem State.readTagId_clean (h : s.upsets = []) (t : TagId) : s.readTagId t = s := by
  unfold State.readTagId
  split
  · exact State.readTag_clean h _
  · rfl

theorem State.readFetchTag_clean (h : s.upsets = []) (t : Nat) : s.readFetchTag t = s := by
  unfold State.readFetchTag
  split
  · exact State.readTagId_clean h _
  · rfl

/-! ## The catch-up of a load -/

/-- A load that names a RESIDENT patron acts on the tables that any operation serving that patron meets. -/
theorem State.caughtUp_resident {id slot : Nat} (h : s.findPatron id = some slot) (hr : (s.patronAt slot).isSome = true) :
    s.caughtUp id = s.served slot := by
  simp [State.caughtUp, State.served, h, hr]

/-- A load that names no RESIDENT patron runs no catch-up. -/
theorem State.caughtUp_other {id : Nat} (h : ∀ slot, s.findPatron id = some slot → s.patronAt slot = none) :
    s.caughtUp id = s := by
  unfold State.caughtUp
  split
  · rename_i slot hs
    simp [h slot hs]
  · rfl

end Sys2Proof.Machine
end

