-- ==== Sys2Proof/Laws/Table.lean ====
section
/-! SUPPORT. The sparse tables: a read after a write, and that every write keeps the canonical form. -/

namespace Sys2Proof.Machine

variable {α β : Type}

/-- The canonical form is that the slots rise strictly. -/
theorem Tbl.wf_iff_pairwise (t : Tbl α) : Tbl.wf t = true ↔ (t.map Prod.fst).Pairwise (· < ·) := by
  induction t with
  | nil => simp [Tbl.wf]
  | cons e t ih =>
    cases t with
    | nil => simp [Tbl.wf]
    | cons f t =>
      obtain ⟨k, v⟩ := e
      obtain ⟨l, w⟩ := f
      simp only [Tbl.wf, Bool.and_eq_true, decide_eq_true_eq, ih, List.map_cons, List.pairwise_cons, List.mem_cons]
      constructor
      · rintro ⟨hkl, hl, ht⟩
        refine ⟨?_, hl, ht⟩
        rintro a (rfl | ha)
        · exact hkl
        · exact Nat.lt_trans hkl (hl a ha)
      · rintro ⟨hk, hl, ht⟩
        exact ⟨hk l (Or.inl rfl), hl, ht⟩

theorem Tbl.mem_keys_store (t : Tbl α) (n : Nat) (v : α) (k : Nat) (h : k ∈ (Tbl.store t n v).map Prod.fst) :
    k = n ∨ k ∈ t.map Prod.fst := by
  induction t with
  | nil => simpa [Tbl.store] using h
  | cons e t ih =>
    obtain ⟨l, w⟩ := e
    simp only [Tbl.store] at h
    split at h
    · simpa using h
    · split at h
      · rename_i hn
        simp at h
        rcases h with h | h
        · exact Or.inl h
        · exact Or.inr (by simp [h])
      · simp only [List.map_cons, List.mem_cons] at h ⊢
        rcases h with h | h
        · exact Or.inr (Or.inl h)
        · rcases ih h with h | h
          · exact Or.inl h
          · exact Or.inr (Or.inr h)

theorem Tbl.wf_store (t : Tbl α) (n : Nat) (v : α) (h : Tbl.wf t = true) : Tbl.wf (Tbl.store t n v) = true := by
  rw [Tbl.wf_iff_pairwise] at h ⊢
  induction t with
  | nil => simp [Tbl.store]
  | cons e t ih =>
    obtain ⟨k, w⟩ := e
    simp only [List.map_cons, List.pairwise_cons] at h
    simp only [Tbl.store]
    split
    · rename_i hn
      simp only [List.map_cons, List.pairwise_cons, List.mem_cons]
      refine ⟨?_, h.1, h.2⟩
      rintro a (rfl | ha)
      · exact hn
      · exact Nat.lt_trans hn (h.1 a ha)
    · split
      · rename_i hn
        simp only [List.map_cons, List.pairwise_cons]
        exact ⟨fun a ha => hn ▸ h.1 a ha, h.2⟩
      · rename_i hlt hne
        simp only [List.map_cons, List.pairwise_cons]
        refine ⟨fun a ha => ?_, ih h.2⟩
        rcases Tbl.mem_keys_store t n v a ha with rfl | ha
        · omega
        · exact h.1 a ha

theorem Tbl.wf_filter (t : Tbl α) (p : Nat × α → Bool) (h : Tbl.wf t = true) : Tbl.wf (t.filter p) = true := by
  rw [Tbl.wf_iff_pairwise] at h ⊢
  exact h.sublist ((List.filter_sublist (l := t) (p := p)).map Prod.fst)

theorem Tbl.wf_release (t : Tbl α) (n : Nat) (h : Tbl.wf t = true) : Tbl.wf (Tbl.release t n) = true :=
  Tbl.wf_filter t _ h

/-- A change of the contents of each slot keeps the slots. -/
theorem Tbl.wf_mapSlots (t : Tbl α) (f : Nat × α → β) (h : Tbl.wf t = true) :
    Tbl.wf (t.map fun e => (e.1, f e)) = true := by
  rw [Tbl.wf_iff_pairwise] at h ⊢
  simpa [Function.comp_def] using h

/-- A change that drops some slots and rewrites others in place. -/
theorem Tbl.wf_filterMapSlots (t : Tbl α) (f : Nat × α → Option (Nat × α)) (hf : ∀ e g, f e = some g → g.1 = e.1)
    (h : Tbl.wf t = true) : Tbl.wf (t.filterMap f) = true := by
  rw [Tbl.wf_iff_pairwise] at h ⊢
  induction t with
  | nil => simp
  | cons e t ih =>
    simp only [List.map_cons, List.pairwise_cons] at h
    cases hfe : f e with
    | none => simpa [List.filterMap_cons, hfe] using ih h.2
    | some g =>
      simp only [List.filterMap_cons, hfe, List.map_cons, List.pairwise_cons]
      refine ⟨fun a ha => ?_, ih h.2⟩
      obtain ⟨y, hy, rfl⟩ := List.mem_map.mp ha
      obtain ⟨x, hx, hxy⟩ := List.mem_filterMap.mp hy
      rw [hf e g hfe, hf x y hxy]
      exact h.1 x.1 (List.mem_map.mpr ⟨x, hx, rfl⟩)

@[simp] theorem Tbl.lookup_store_same (t : Tbl α) (n : Nat) (v : α) : Tbl.lookup (Tbl.store t n v) n = some v := by
  induction t with
  | nil => simp [Tbl.store, Tbl.lookup]
  | cons e t ih =>
    obtain ⟨k, w⟩ := e
    simp only [Tbl.store]
    split
    · simp [Tbl.lookup]
    · split
      · simp [Tbl.lookup]
      · rename_i hne
        simp [Tbl.lookup, Ne.symm hne, ih]

theorem Tbl.lookup_store_ne (t : Tbl α) (n m : Nat) (v : α) (h : m ≠ n) :
    Tbl.lookup (Tbl.store t n v) m = Tbl.lookup t m := by
  induction t with
  | nil => simp [Tbl.store, Tbl.lookup, Ne.symm h]
  | cons e t ih =>
    obtain ⟨k, w⟩ := e
    simp only [Tbl.store]
    split
    · simp [Tbl.lookup, Ne.symm h]
    · split
      · rename_i _ hk
        subst hk
        simp [Tbl.lookup, Ne.symm h]
      · simp [Tbl.lookup, ih]

@[simp] theorem Tbl.lookup_release_same (t : Tbl α) (n : Nat) : Tbl.lookup (Tbl.release t n) n = none := by
  induction t with
  | nil => rfl
  | cons e t ih =>
    obtain ⟨k, w⟩ := e
    by_cases h : k = n
    · simpa [Tbl.release, List.filter_cons, h] using ih
    · simpa [Tbl.release, List.filter_cons, h, Tbl.lookup] using ih

theorem Tbl.lookup_release_ne (t : Tbl α) (n m : Nat) (h : m ≠ n) :
    Tbl.lookup (Tbl.release t n) m = Tbl.lookup t m := by
  induction t with
  | nil => rfl
  | cons e t ih =>
    obtain ⟨k, w⟩ := e
    by_cases hk : k = n
    · subst hk
      simpa [Tbl.release, List.filter_cons, Tbl.lookup, Ne.symm h] using ih
    · by_cases hm : k = m
      · subst hm
        simp [Tbl.release, hk, Tbl.lookup]
      · simpa [Tbl.release, List.filter_cons, hk, hm, Tbl.lookup] using ih

/-- A table that fills every slot of a range reads so. -/
theorem Tbl.lookup_range (f : Nat → α) (a n m : Nat) (h : a ≤ m ∧ m < a + n) :
    Tbl.lookup ((List.range' a n).map fun k => (k, f k)) m = some (f m) := by
  induction n generalizing a with
  | zero => omega
  | succ n ih =>
    rw [List.range'_succ, List.map_cons, Tbl.lookup]
    split
    · rename_i ha
      rw [ha]
    · exact ih (a + 1) (by omega)

theorem Tbl.wf_range (f : Nat → α) (a n : Nat) : Tbl.wf ((List.range' a n).map fun k => (k, f k)) = true := by
  rw [Tbl.wf_iff_pairwise, List.map_map]
  simpa [Function.comp_def] using List.pairwise_lt_range' (s := a) (n := n)

end Sys2Proof.Machine
end

