-- ==== Sys2Proof/Laws/Conditions.lean ====
section
/-! SUPPORT. The conditions that the statements spell out, against those that the meanings compute: the calendar's window,
the checks of a renewal, the station limit, the arbiter's positions and the room for other blocks; and what an announcement
and a completion do. -/

namespace Sys2Proof.Machine

/-! ## The calendar's window (R36, R41) -/

theorem Tbl.mem_of_lookup {α : Type} {t : Tbl α} {n : Nat} {v : α} (h : Tbl.lookup t n = some v) : (n, v) ∈ t := by
  induction t with
  | nil => cases h
  | cons e t ih =>
    obtain ⟨k, w⟩ := e
    simp only [Tbl.lookup] at h
    split at h
    · rename_i hk
      cases h
      simp [hk]
    · exact List.mem_cons_of_mem _ (ih h)

/-- A day outside the window has no mark. -/
theorem Calendar.withinWindow.unmarked {c : Calendar} (h : c.withinWindow) {d : Nat}
    (hd : d + 31 < c.closeDay ∨ c.closeDay + 64 < d ∨ 65534 < d) : Tbl.lookup c.marks d = none := by
  cases hl : Tbl.lookup c.marks d with
  | none => rfl
  | some m =>
    have := h _ (Tbl.mem_of_lookup hl)
    simp only at this
    omega

theorem Calendar.inWindow_iff (c : Calendar) (d : Nat) :
    c.inWindow d = true ↔ c.closeDay ≤ d + 31 ∧ d ≤ c.closeDay + 64 ∧ d ≤ 65534 := by
  unfold Calendar.inWindow Config.windowBehind Config.windowAhead Config.lastDay
  rw [Bool.and_eq_true, Bool.and_eq_true, decide_eq_true_eq, decide_eq_true_eq, decide_eq_true_eq, and_assoc]

/-- A DAY_CLOSE leaves marks of the new window only. -/
theorem Calendar.advance_withinWindow (c : Calendar) (day : Nat) : (c.advance day).withinWindow := by
  intro e he
  exact (Calendar.inWindow_iff _ _).mp (List.mem_filter.mp he).2

theorem Tbl.mem_store {α : Type} {t : Tbl α} {n : Nat} {v : α} {e : Nat × α} (h : e ∈ Tbl.store t n v) :
    e = (n, v) ∨ e ∈ t := by
  induction t with
  | nil => exact .inl (List.mem_singleton.mp h)
  | cons f t ih =>
    obtain ⟨k, w⟩ := f
    simp only [Tbl.store] at h
    split at h
    · simpa using h
    · split at h
      · rcases List.mem_cons.mp h with h | h
        · exact .inl h
        · exact .inr (List.mem_cons_of_mem _ h)
      · rcases List.mem_cons.mp h with h | h
        · exact .inr (by simp [h])
        · exact (ih h).imp id (List.mem_cons_of_mem _)

/-- A CALENDAR sets marks of the window only. -/
theorem Calendar.setMarks_withinWindow {c : Calendar} (h : c.withinWindow) (day : Nat) (ms : List Mark) :
    (c.setMarks day ms).1.withinWindow := by
  induction ms generalizing c day with
  | nil => exact h
  | cons m ms ih =>
    simp only [Calendar.setMarks]
    split
    · rename_i hw
      refine ih (fun e he => ?_) _
      rcases Tbl.mem_store he with rfl | he
      · exact (Calendar.inWindow_iff _ _).mp hw
      · exact h e he
    · exact ih h _

/-! ## The checks of a renewal (R73, R74), and the station limit (R154) -/

theorem State.isHeld_iff (s : State) (title : Nat) : s.isHeld title = true ↔ s.holdsUp title := by
  unfold State.isHeld State.holdsUp State.titleAt
  cases s.findTitle title with
  | none => simp
  | some n =>
    cases h : Tbl.lookup s.titles n with
    | none => simp [h]
    | some r =>
      cases r <;> simp [h]
      omega

theorem State.renewalDay_eq (s : State) (l : Loan) : s.renewalDay l = s.placesDue l := rfl

theorem State.mayPark_iff (s : State) (o : Origin) :
    s.mayPark o = true ↔ (s.stationAt o).stack.length + (s.stationAt o).parked < 2 := by
  simp [State.mayPark, State.stationAt, StationState.sum, Config.parkedLimit, Nat.add_comm]

/-! ## The arbiter's positions (R4) -/

@[simp] theorem State.requestAt_lane (s : State) (l : Lane) : s.requestAt l.val = (s.lane l).request := by
  simp [State.requestAt, State.lane]

@[simp] theorem State.requestAt_link (s : State) : s.requestAt 16 = s.link.request := rfl

@[simp] theorem State.requestAt_sweep (s : State) : s.requestAt 17 = s.sweep.request := rfl

@[simp] theorem State.requestAt_tags (s : State) : s.requestAt 18 = s.tagLine.head?.map .tagExpiry := rfl

/-! ## Room for other blocks (R3, R8), and announcements (R159) -/

theorem State.roomForOthers_pos (s : State) :
    0 < s.roomForOthers ↔
      (∀ op, s.engine ≠ .waitingRoom op) ∧ (∀ op, s.engine = .busy op → op.waiting = []) ∧
        s.link.outbound.length + s.engine.reservation < 128 := by
  unfold State.roomForOthers State.freeEntries
  cases h : s.engine with
  | free => simp [Config.outboundEntries]
  | busy op => by_cases hw : op.waiting = [] <;> simp [hw, Config.outboundEntries]
  | waitingRoom op => simp

/-- An announcement updates an unsent LANE_STATE of its lane, takes an entry where there is room, or is owed. -/
theorem State.announce_cases (s : State) (l : Lane) :
    (∃ q, s.link.coalesce ((s.lane l).stateNotice l) = some q ∧ s.announce l = (s.setOutbound q).setOwed l false) ∨
      s.link.coalesce ((s.lane l).stateNotice l) = none ∧
        (0 < s.roomForOthers ∧ s.announce l = (s.append ((s.lane l).stateNotice l)).setOwed l false ∨
          s.roomForOthers = 0 ∧ s.announce l = s.setOwed l true) := by
  unfold State.announce
  dsimp only
  cases h : s.link.coalesce ((s.lane l).stateNotice l) with
  | some q => exact .inl ⟨q, rfl, rfl⟩
  | none =>
    refine .inr ⟨rfl, ?_⟩
    by_cases hr : 0 < s.roomForOthers
    · exact .inl ⟨hr, if_pos hr⟩
    · exact .inr ⟨Nat.eq_zero_of_not_pos hr, if_neg hr⟩

/-- Owing a LANE_STATE, or having posted it, changes that mark of the lane only. -/
theorem OnlyLane.setOwed (s : State) (l : Lane) (b : Bool) :
    OnlyLane s (s.setOwed l b) l { s.lane l with stateOwed := b } [] := OnlyLane.setLane _ _ _

/-! ## Completion (R10, R11) -/

/-- What a lane does with an answer or a notice leaves everything but the lanes. -/
def SameButLanes (s t : State) : Prop := { t with lanes := s.lanes, laneOut := s.laneOut } = s

theorem SameButLanes.refl (s : State) : SameButLanes s s := rfl

theorem SameButLanes.setLane {s t : State} (h : SameButLanes s t) (l : Lane) (u : LaneUnit) :
    SameButLanes s (t.setLane l u) := h

theorem SameButLanes.send {s t : State} (h : SameButLanes s t) (l : Lane) (w : LaneWord) : SameButLanes s (t.send l w) := h

theorem SameButLanes.sendAwaited {s t : State} (h : SameButLanes s t) (l : Lane) (w : LaneWord) :
    SameButLanes s (t.sendAwaited l w) := h

theorem SameButLanes.sendFinal {s t : State} (h : SameButLanes s t) (l : Lane) (ex : Exchange) (f : Final)
    (code : Option ReqCode) (index : Nat) : SameButLanes s (t.sendFinal l ex f code index) := h

theorem SameButLanes.setStep {s t : State} (h : SameButLanes s t) (l : Lane) (ex : Exchange) (step : ExchangeStep) :
    SameButLanes s (t.setStep l ex step) := h

theorem SameButLanes.sendAnswer {s t : State} (h : SameButLanes s t) (l : Lane) (ex : Exchange) (a : Answer) :
    SameButLanes s (t.sendAnswer l ex a) := by
  unfold State.sendAnswer
  split <;> exact h

theorem SameButLanes.openExchange {s t : State} (h : SameButLanes s t) (l : Lane) (st : Station) :
    SameButLanes s (t.openExchange l st) := by
  unfold State.openExchange
  dsimp only
  split <;> exact h

theorem SameButLanes.useIdleLine {s t : State} (h : SameButLanes s t) (l : Lane) : SameButLanes s (t.useIdleLine l) := by
  unfold State.useIdleLine
  dsimp only
  split
  · split
    · exact (h.setLane _ _).openExchange _ _
    · split <;> exact h
  · exact h

theorem SameButLanes.handNotice {s t : State} (h : SameButLanes s t) (o : Origin) (n : StationNotice) :
    SameButLanes s (t.handNotice o n) := by
  unfold State.handNotice
  dsimp only
  split
  · exact (h.setLane _ _).useIdleLine _
  · exact h

theorem SameButLanes.handNotices {s t : State} (h : SameButLanes s t) (ns : List (Origin × StationNotice)) :
    SameButLanes s (t.handNotices ns) := by
  unfold State.handNotices
  induction ns generalizing t with
  | nil => exact h
  | cons n ns ih => exact ih (h.handNotice _ _)

theorem SameButLanes.routeAnswer {s t : State} (h : SameButLanes s t) (op : Op) : SameButLanes s (t.routeAnswer op) := by
  unfold State.routeAnswer
  split
  · unfold State.handAnswer
    dsimp only
    split
    · split
      · unfold State.takeAnswer
        split
        · exact h
        · exact h.sendAnswer _ _ _
      · exact h
    · exact h
  · exact h

/-- A performed message leaves the inbound queue as the statement on completion says. -/
theorem State.leaveQueue_inbound (s : State) (op : Op) : (s.leaveQueue op).link.inbound = op.kind.leaves s.link.inbound := by
  have settle : ∀ kind m q, settleHead q = (OpKind.message kind m).leaves q := by
    intro kind m q
    cases q <;> rfl
  unfold State.leaveQueue
  split
  · rename_i h
    rw [h]
    exact settle _ _ _
  · rename_i h
    rw [h]
    exact settle _ _ _
  · rename_i h
    cases hk : op.kind with
    | message kind m => exact absurd hk (h kind m)
    | _ => rfl

theorem State.leaveQueue_arbiter (s : State) (op : Op) :
    (s.leaveQueue op).arbiter =
      { s.arbiter with restartPending := s.arbiter.restartPending || op.kind.isRestart } := by
  unfold State.leaveQueue
  split
  · rename_i h
    simp [h, OpKind.isRestart]
  · rename_i hn h
    rw [h]
    rename_i kind m
    cases m <;> first | exact (hn rfl).elim | simp [OpKind.isRestart, State.settlePlace]
  · rename_i h
    cases hk : op.kind with
    | message kind m => exact absurd hk (h kind m)
    | _ => simp [OpKind.isRestart]

/-- The completion of an operation whose work is done: w is the state that the work left from s. -/
theorem Completes.of_complete {s w : State} {op done : Op} (claims : List Claim) (hs : s.settled)
    (hb : w.engine = .busy done) (hw : done.waiting = []) (hk : done.kind = op.kind) (hr : done.resetOwed = op.resetOwed)
    (hi : w.link.inbound = s.link.inbound) (ha : w.arbiter = s.arbiter) :
    ∃ v, Completes s v (w.complete claims).startSending op claims := by
  have hdue : s.arbiter.resetDue = false := hs
  unfold State.complete
  simp only [hb, hw, List.isEmpty_nil, ↓reduceIte]
  unfold State.finishOp
  cases ho : op.resetOwed with
  | true =>
    simp only [hr, ho, ↓reduceIte]
    refine ⟨_, ⟨rfl, ?_, ?_, by simp [ho]; rfl⟩⟩
    · rw [State.leaveQueue_inbound, hk, hi]
    · simp [State.leaveQueue_arbiter, hk, ha, ho]
  | false =>
    simp only [hr, ho, Bool.false_eq_true, ↓reduceIte]
    have same : SameButLanes (w.leaveQueue done) (((w.leaveQueue done).routeAnswer done).handNotices done.handed) :=
      ((SameButLanes.refl _).routeAnswer _).handNotices _
    refine ⟨{ ((w.leaveQueue done).routeAnswer done).handNotices done.handed with engine := .free },
      ⟨rfl, ?_, ?_, by simp [ho]⟩⟩
    · have := congrArg (fun x : State => x.link.inbound) same
      exact this.trans (by rw [State.leaveQueue_inbound, hk, hi])
    · have := congrArg State.arbiter same
      refine Eq.trans this ?_
      rw [State.leaveQueue_arbiter, hk, ha, ho, ← hdue]

end Sys2Proof.Machine
end

