-- ==== Sys2Proof/Laws/Holds.lean ====
section
/-! SUPPORT. What the operations on hold queues do in a memory without bit errors, within an operation that still has
entries reserved: the trapping of an entry, and a copy put on the shelf (R94). -/

namespace Sys2Proof.Machine

variable {s : State}

/-- A write of a pool slot changes that slot only. -/
theorem State.setPool_clean (h : s.upsets = []) (n : Nat) (r : PoolRec) :
    s.setPool n r = { s with pool := Tbl.store s.pool n r } := by
  simp only [State.setPool, h, passWhere, List.filterMap_nil]

/-- A change of a RESIDENT title changes that record only. -/
theorem State.mapTitle_clean (h : s.upsets = []) {n : Nat} {t : Title} (ht : s.titleAt n = some t) (f : Title → Title) :
    s.mapTitle n f = { s with titles := Tbl.store s.titles n (.resident (f t)) } := by
  simp only [State.mapTitle, ht, State.setTitle, h, passWhere, List.filterMap_nil]

/-- An entry trapped: it is READY with the copy and the deadline, the title's counts follow, TRAPPED is the last of the
queue, one reserved entry is used, and nothing else changes. -/
theorem State.trap_clean (h : s.upsets = []) {n : Nat} {t : Title} (ht : s.titleAt n = some t) {op : Op}
    (he : s.engine = .busy op) (hw : op.waiting = []) (hr : 1 ≤ op.reservation) (title : Nat) (x : QueueItem × Hold)
    (copy ret : Option Nat) :
    s.trap n title x copy ret = { s with
      pool := Tbl.store s.pool x.1.slot (.entry { x.2 with state := .ready s.pickupDeadline copy })
      titles := Tbl.store s.titles n (.resident { t with waiting := t.waiting - 1, ready := t.ready + 1 })
      engine := .busy { op with reservation := op.reservation - 1, traps := op.traps + 1 }
      link := { s.link with
        outbound := s.link.outbound ++ [.trapped title x.2.patron x.2.branch s.pickupDeadline copy ret] } } := by
  have h1 (p : Tbl PoolRec) : ({ s with pool := p } : State).upsets = [] := h
  have h2 (p : Tbl PoolRec) : ({ s with pool := p } : State).titleAt n = some t := ht
  unfold State.trap
  simp only [State.setPool_clean h, State.mapTitle_clean (h1 _) (h2 _)]
  rw [State.post_reserved (op := op)]
  · rfl
  · exact he
  · exact hw
  · exact hr
  · exact fun _ => rfl

/-- A COUNT_CLAMP changes the Fault Log, and may put its FAULT at the end of the queue. -/
theorem State.logCountClamp_cases (s : State) (title : Nat) :
    ∃ logged : List Notice, (∀ m ∈ logged, ∃ f k, m = .fault f k) ∧
      s.logCountClamp title = { s with
        faults := (s.logCountClamp title).faults, link := { s.link with outbound := s.link.outbound ++ logged } } := by
  unfold State.logCountClamp State.logFault
  dsimp only
  split
  · exact ⟨[], by simp, by simp⟩
  · split
    · exact ⟨[_], by simp, rfl⟩
    · exact ⟨[], by simp, by simp⟩

/-- A copy put on the shelf: the count rises, or stays at 255 with a COUNT_CLAMP that may post its FAULT first;
COPY_RELEASED with the count is the last of the queue, one reserved entry is used, and nothing else changes. -/
theorem State.shelve_clean (h : s.upsets = []) {n : Nat} {t : Title} (ht : s.titleAt n = some t) {op : Op}
    (he : s.engine = .busy op) (hw : op.waiting = []) (hr : 1 ≤ op.reservation) (copy ret : Option Nat) :
    ∃ logged : List Notice, (∀ m ∈ logged, ∃ f k, m = .fault f k) ∧ (t.shelf < 255 → logged = []) ∧
      s.shelve n t copy ret = { s with
        titles := (s.shelve n t copy ret).titles
        faults := (s.shelve n t copy ret).faults
        engine := .busy { op with reservation := op.reservation - 1 }
        link := { s.link with
          outbound := s.link.outbound ++ logged ++
            [.copyReleased t.id copy ret (if 255 ≤ t.shelf then t.shelf else t.shelf + 1)] } } := by
  unfold State.shelve
  by_cases hs : 255 ≤ t.shelf
  · obtain ⟨logged, hl, hc⟩ := s.logCountClamp_cases t.id
    refine ⟨logged, hl, fun hn => absurd hs (by omega), ?_⟩
    simp only [hs, ↓reduceIte]
    rw [hc, State.post_reserved (op := op)]
    · exact he
    · exact hw
    · exact hr
    · exact fun _ => rfl
  · refine ⟨[], by simp, fun _ => rfl, ?_⟩
    simp only [hs, ↓reduceIte]
    rw [State.mapTitle_clean h ht, State.post_reserved (op := op)]
    · simp
    · exact he
    · exact hw
    · exact hr
    · exact fun _ => rfl

end Sys2Proof.Machine
end

