-- ==== Sys2Proof/Laws/Sweep.lean ====
section
/-! SUPPORT. What a LOANS step passes over: the loan slots that lost their copy id leave every loan list and the table
(R132, R186). -/

namespace Sys2Proof.Machine

variable {s : State}

/-- The state without these loan slots, in the table and in every RESIDENT loan list. -/
def State.forgetLoans (s : State) (gone : List Nat) : State :=
  { s with
    loans := gone.foldl Tbl.release s.loans
    patrons := s.patrons.map fun e => (e.1, gone.foldl (fun r n => r.withoutLoan n) e.2) }

@[simp] theorem State.forgetLoans_upsets (gone : List Nat) : (s.forgetLoans gone).upsets = s.upsets := rfl
@[simp] theorem State.forgetLoans_sweep (gone : List Nat) : (s.forgetLoans gone).sweep = s.sweep := rfl
@[simp] theorem State.forgetLoans_titles (gone : List Nat) : (s.forgetLoans gone).titles = s.titles := rfl
@[simp] theorem State.forgetLoans_calendar (gone : List Nat) : (s.forgetLoans gone).calendar = s.calendar := rfl
@[simp] theorem State.forgetLoans_schedule (gone : List Nat) : (s.forgetLoans gone).schedule = s.schedule := rfl

/-- A list search of a memory without errors, and the slot freed after it. -/
theorem State.listSearch_free (h : s.upsets = []) (n : Nat) : (s.listSearch n).freeLoan n = s.forgetLoans [n] := by
  simp only [State.listSearch, State.scanTable_clean h, State.putPatrons, State.freeLoan, State.forgetLoans, h, passWhere,
    List.filterMap_nil, List.foldl_cons, List.foldl_nil]

theorem State.forgetLoans_cons (n : Nat) (gone : List Nat) :
    (s.forgetLoans [n]).forgetLoans gone = s.forgetLoans (n :: gone) := by
  simp [State.forgetLoans, Function.comp_def]

theorem Tbl.lookup_foldl_release {α : Type} (gone : List Nat) (t : Tbl α) (k : Nat) :
    Tbl.lookup (gone.foldl Tbl.release t) k = if k ∈ gone then none else Tbl.lookup t k := by
  induction gone generalizing t with
  | nil => simp
  | cons n gone ih =>
    rw [List.foldl_cons, ih]
    by_cases hk : k = n
    · subst hk
      simp
    · simp [hk, Tbl.lookup_release_ne _ _ _ hk]

theorem State.forgetLoans_loan (gone : List Nat) (k : Nat) :
    Tbl.lookup (s.forgetLoans gone).loans k = if k ∈ gone then none else Tbl.lookup s.loans k :=
  Tbl.lookup_foldl_release _ _ _

theorem Tbl.lookup_mapSlots {α β : Type} (t : Tbl α) (f : α → β) (k : Nat) :
    Tbl.lookup (t.map fun e => (e.1, f e.2)) k = (Tbl.lookup t k).map f := by
  induction t with
  | nil => rfl
  | cons e t ih =>
    simp only [List.map_cons, Tbl.lookup]
    split
    · rfl
    · exact ih

theorem State.forgetLoans_patron (gone : List Nat) (k : Nat) :
    Tbl.lookup (s.forgetLoans gone).patrons k =
      (Tbl.lookup s.patrons k).map fun r => gone.foldl (fun r n => r.withoutLoan n) r :=
  Tbl.lookup_mapSlots s.patrons (fun r : PatronRec => gone.foldl (fun (r : PatronRec) n => r.withoutLoan n) r) k

/-- A record that loses several slots from its list. -/
theorem PatronRec.foldl_withoutLoan (gone : List Nat) (r : PatronRec) :
    gone.foldl (fun r n => r.withoutLoan n) r = r.losing gone.contains := by
  induction gone generalizing r with
  | nil => cases r <;> simp [PatronRec.losing]
  | cons n gone ih =>
    rw [List.foldl_cons, ih]
    cases r with
    | resident p =>
      have step : ∀ k : Nat, (!gone.contains k && (k != n)) = !(n :: gone).contains k := by
        intro k
        rw [List.contains_cons, Bool.not_or, Bool.and_comm]
        rfl
      simp only [PatronRec.losing, PatronRec.withoutLoan, List.filter_filter, step]
    | _ => rfl

/-- The slots of a list that lost their copy id. -/
def State.lostLoans (s : State) (ns : List Nat) : List Nat :=
  ns.filter fun n => decide (Tbl.lookup s.loans n = some (.damaged 0))

/-- What a LOANS step passes over and stops at, in a memory without bit errors. -/
theorem State.nextLoan_clean (h : s.upsets = []) (before : List Nat) (hd : before.Nodup)
    (hn : ∀ n ∈ before, s.loanAt n = none) :
    State.nextLoan before s = (s.forgetLoans (s.lostLoans before), none) ∧
      ∀ n after l, n ∉ before → s.loanAt n = some l →
        State.nextLoan (before ++ n :: after) s = (s.forgetLoans (s.lostLoans before), some n) := by
  induction before generalizing s with
  | nil =>
    have e : s.forgetLoans [] = s := by simp [State.forgetLoans]
    refine ⟨by simp [State.nextLoan, State.lostLoans, e], fun n after l _ hl => ?_⟩
    have hl' : Tbl.lookup s.loans n = some (.active l) := by
      unfold State.loanAt at hl
      split at hl
      · cases hl
        assumption
      · cases hl
    simp [State.nextLoan, State.readRecord_clean h, hl', State.lostLoans, e]
  | cons m before ih =>
    obtain ⟨hm, hd⟩ := List.nodup_cons.mp hd
    have inactive : ∀ n ∈ before, s.loanAt n = none := fun n h' => hn n (List.mem_cons_of_mem _ h')
    cases e : Tbl.lookup s.loans m with
    | none =>
      have p : s.lostLoans (m :: before) = s.lostLoans before := by simp [State.lostLoans, e]
      rw [p]
      refine ⟨?_, fun n after l hb hl => ?_⟩
      · simpa [State.nextLoan, State.readRecord_clean h, e] using (ih h hd inactive).1
      · simpa [State.nextLoan, State.readRecord_clean h, e] using
          (ih h hd inactive).2 n after l (fun h' => hb (List.mem_cons_of_mem _ h')) hl
    | some r =>
      cases r with
      | active l => simpa [State.loanAt, e] using hn m List.mem_cons_self
      | damaged copy =>
        by_cases hc : copy = 0
        · subst hc
          have look : ∀ k, k ≠ m → Tbl.lookup (s.forgetLoans [m]).loans k = Tbl.lookup s.loans k := by
            intro k hk
            rw [State.forgetLoans_loan]
            simp [hk]
          have same : ∀ k, k ≠ m → (s.forgetLoans [m]).loanAt k = s.loanAt k := by
            intro k hk
            simp [State.loanAt, look k hk]
          have lost : (s.forgetLoans [m]).lostLoans before = s.lostLoans before := by
            unfold State.lostLoans
            refine List.filter_congr fun k hk => ?_
            rw [look k (fun h' => hm (h' ▸ hk))]
          have p : s.lostLoans (m :: before) = m :: s.lostLoans before := by simp [State.lostLoans, e]
          have now := ih (s := s.forgetLoans [m]) h hd fun n h' =>
            (same n (fun h'' => hm (h'' ▸ h'))).trans (inactive n h')
          rw [lost, State.forgetLoans_cons, ← p] at now
          refine ⟨?_, fun n after l hb hl => ?_⟩
          · simpa [State.nextLoan, State.readRecord_clean h, e, State.listSearch_free h] using now.1
          · have hne : n ≠ m := fun h' => hb (h' ▸ List.mem_cons_self)
            simpa [State.nextLoan, State.readRecord_clean h, e, State.listSearch_free h] using
              now.2 n after l (fun h' => hb (List.mem_cons_of_mem _ h')) ((same n hne).trans hl)
        · have p : s.lostLoans (m :: before) = s.lostLoans before := by simp [State.lostLoans, e, hc]
          rw [p]
          refine ⟨?_, fun n after l hb hl => ?_⟩
          · simpa [State.nextLoan, State.readRecord_clean h, e, hc] using (ih h hd inactive).1
          · simpa [State.nextLoan, State.readRecord_clean h, e, hc] using
              (ih h hd inactive).2 n after l (fun h' => hb (List.mem_cons_of_mem _ h')) hl

end Sys2Proof.Machine
end

