-- ==== Sys2Proof/Tests/Slice0.lean ====
section
/-! SUPPORT. Our own tests: what WellFormed refuses, the checks and words of chapter 13, worked examples of the manual,
and for each statement with hypotheses a state and operands that meet them. -/

namespace Sys2Proof.Tests

open Sys2Proof Sys2Proof.Machine

/- One theorem after the other: the kernel's evaluations wait for one another, and each waiting one keeps a thread. -/
set_option Elab.async false

/-! ## WellFormed refuses -/

theorem test_wf_payload_too_long : (Instr.inboundFrame 13 (List.replicate 256 0) 0).wf = false := by decide +kernel

theorem test_wf_no_deadline : (Instr.tagDeadline []).wf = false := by decide +kernel

theorem test_wf_same_deadline_twice : (Instr.tagDeadline [3, 3]).wf = false := by decide +kernel

theorem test_wf_patron_slot_out_of_range :
    (Instr.account ⟨[⟨⟨.patron, 8192⟩, 0, true⟩], []⟩).wf = false := by decide +kernel

theorem test_wf_scrub_tag_out_of_range : (Instr.scrubRead [⟨⟨.tagMap, 32⟩, 0, false⟩]).wf = false := by decide +kernel

theorem test_wf_accepts : (Instr.tagDeadline [3, 5]).wf = true ∧ (Instr.payCash .quiet).wf = true := by decide +kernel

/-! ## Chapter 13: checks, words and frames -/

/-- The standard check value of the R193 generator over the nine bytes "123456789". -/
theorem test_frame_crc :
    ([0x31, 0x32, 0x33, 0x34, 0x35, 0x36, 0x37, 0x38, 0x39] : List Byte).foldl crc16Byte 0xFFFF#16 = 0x29B1#16 := by
  decide +kernel

/-- CALL (type 1) from station 2: byte 0 is 000001 10. -/
theorem test_word_call :
    decodeWord 5 ([0x06, 0, 0, 0, 0, 0, 0, 0, 0, 0, 0, 0] ++
      [wordCheck [0x06, 0, 0, 0, 0, 0, 0, 0, 0, 0, 0, 0]]) = .call 5 2 := by decide +kernel

/-- FIELD (type 6) from station 1, code AMOUNT, index 2, value A = 0x000001F4. -/
theorem test_word_field :
    decodeWord 0 ([0x19, 6, 2, 0, 0, 0, 1, 0xF4, 0, 0, 0, 0] ++
      [wordCheck [0x19, 6, 2, 0, 0, 0, 1, 0xF4, 0, 0, 0, 0]]) = .field 0 1 6 2 500 := by decide +kernel

/-- A word whose check does not agree. -/
theorem test_word_fails :
    decodeWord 5 [0x06, 0, 0, 0, 0, 0, 0, 0, 0, 0, 0, 0, 1 + wordCheck [0x06, 0, 0, 0, 0, 0, 0, 0, 0, 0, 0, 0]] =
      .wordCheckFailure 5 .failed := by decide +kernel

/-- An IDENTIFY (type 15) that passes its check is a word no station sends, whatever its station field. -/
theorem test_word_identify :
    decodeWord 5 ([0x3E, 0, 0, 0, 0, 0, 0, 0, 0, 0, 0, 0] ++
      [wordCheck [0x3E, 0, 0, 0, 0, 0, 0, 0, 0, 0, 0, 0]]) = .wordCheckFailure 5 .identify := by decide +kernel

/-- DAY_CLOSE is kind 6 with a two-byte day, most significant byte first. -/
theorem test_parse_day_close : parseMessage 6 [0x01, 0x02] = some (.dayClose 258) := by decide +kernel

/-- A length the kind does not allow. -/
theorem test_parse_bad_length : parseMessage 6 [0x01] = none := by decide +kernel

/-- The receiver passes over bytes before the start marker and takes the frame's parts. -/
theorem test_receive : framesOf [0x00, 0x7E, 13, 0, 0xAB, 0xCD] = [.inboundFrame 13 [] 0xABCD#16] := by decide +kernel

/-! ## The manual's figures -/

/-- R56's table. -/
theorem test_daily_charge :
    dailyCharge 25 50 2 = 25 ∧ dailyCharge 25 50 1 = 13 ∧ dailyCharge 3 50 1 = 2 ∧ dailyCharge 1 49 1 = 0 ∧
      dailyCharge 1 50 1 = 1 ∧ dailyCharge 7 100 2 = 14 ∧ dailyCharge 40 0 2 = 0 ∧ dailyCharge 500 200 2 = 2000 := by
  decide +kernel

/-- R43 steps 1 and 4: every window day from the base on is CLOSED. -/
theorem test_open_day :
    Calendar.openDay ⟨65500, []⟩ 65540 = 65534 ∧
      Calendar.openDay ⟨10, [(12, .closed), (13, .closed), (14, .open_)]⟩ 12 = 14 := by decide +kernel

/-- R61: the balance stops at the ceiling and is never lowered. -/
theorem test_ceiling : addToBalance 999990 25 = 999999 ∧ addToBalance 100 0 = 100 := by decide +kernel

/-- R5: the search begins at the pointer and wraps past TAGS to lane 0. -/
theorem test_rotation : (rotation 17).take 4 = [17, 18, 0, 1] := by decide +kernel

/-! ## A small library -/

/-- Patron 77 in slot 3, with loan slot 4 and a hold on title 9; patron 78 waits behind. -/
def patron77 : Patron := ⟨77, 1, 500, 100, false, [4], [9], 0⟩

def loan4 : Loan := ⟨900, 8, 3, 0, 10, 0, 0, 0, 0⟩

def title9 : Title := ⟨9, 0, [⟨5, 77⟩, ⟨6, 78⟩], 2, 0⟩

def hold5 : Hold := ⟨77, 9, 1, 0, .waiting⟩

def library (p : Patron) (l : Loan) (t : Title) (h : Hold) : State :=
  { State.reset with
    patrons := [(3, .resident p)], loans := [(4, .active l), (7, .active ⟨901, 8, 2, 0, 10, 0, 0, 0, 0⟩)],
    titles := [(2, .resident t), (3, .resident ⟨11, 1, [], 0, 0⟩)],
    pool := [(5, .entry h), (6, .entry ⟨78, 9, 1, 0, .waiting⟩)] }

/-- The engine holding an operation from station 1 of lane 2. -/
def opOf (k : OpKind) (r : Nat) : Op := ⟨0, k, some ⟨2, 1, 0⟩, r, false, [], none, [], 0⟩

def hold (s : State) (k : OpKind) (r : Nat) : State := { s with engine := .busy (opOf k r) }

def common : State := library patron77 loan4 title9 hold5

def served77 : Patron := { patron77 with lastDay := 1 }

theorem granted_common (k : OpKind) (r : Nat) : Granted (hold common k r) (opOf k r) .quiet :=
  ⟨rfl, rfl, rfl, rfl, rfl, (by intro h; cases h), ⟨rfl, rfl, rfl, rfl, rfl, nofun⟩⟩

theorem serves_common (code : ReqCode) (rest : List Nat) (r : Nat) :
    Serves (hold common (.request code (77 :: rest)) r) (opOf (.request code (77 :: rest)) r) .quiet code (77 :: rest) 3
      ((hold common (.request code (77 :: rest)) r).served 3) served77 :=
  ⟨granted_common _ _, rfl, rfl, rfl, rfl, rfl⟩

theorem names_common (m : Message) (r : Nat) :
    Names (hold common (.message m.kind m) r) (opOf (.message m.kind m) r) .quiet m 77 3
      ((hold common (.message m.kind m) r).served 3) served77 :=
  ⟨⟨granted_common _ _, rfl⟩, rfl, rfl, rfl, rfl⟩

theorem performs_common (m : Message) (r : Nat) :
    Performs (hold common (.message m.kind m) r) (opOf (.message m.kind m) r) .quiet m := ⟨granted_common _ _, rfl⟩

/-! ## Witnesses: serving a patron -/

theorem witness_step : ({ State.reset with pending := [.linkUp] } : State).pending = .linkUp :: [] := rfl

theorem witness_step_empty : State.reset.pending = [] := rfl

/-- A state in the middle of an operation that meets every condition, and steps. -/
def midway : State := { hold common (.request .account [77]) 0 with pending := [.account .quiet] }

theorem witness_KeptByStep :
    midway.canonical ∧ midway.withinRoom ∧ midway.sweepAgrees ∧ midway.lineAgrees ∧ midway.lanesAgree ∧
      ∃ t, step midway = .next t :=
  ⟨⟨rfl, rfl, rfl, rfl, rfl, nofun⟩,
    ⟨by decide +kernel, by decide +kernel, by decide +kernel, (fun h => by cases h), .nil⟩,
    ⟨⟨rfl, rfl, rfl, rfl⟩, nofun, nofun⟩,
    ⟨by decide +kernel, by decide +kernel, by decide +kernel⟩,
    (by decide +kernel : ∀ l : Lane, (midway.lane l).isAttached = false → (midway.lane l).exchange = none ∧
      (midway.lane l).held = 0 ∧ (midway.lane l).offer = .none ∧ (midway.lane l).closingCall = none),
    _, rfl⟩

theorem witness_CreditsKept :
    midway.canonical ∧ midway.creditsAgree ∧ ∀ c rest, midway.pending = c :: rest → c.flips = [] := by
  refine ⟨⟨rfl, rfl, rfl, rfl, rfl, nofun⟩, ⟨rfl, ?_, by decide +kernel, ?_⟩, ?_⟩
  · intro n id h
    simp only [midway, hold, common, library, Tbl.lookup] at h
    split at h <;> cases h
  · intro n p h
    obtain rfl : patron77 = p := by
      simp only [State.patronAt, midway, hold, common, library, Tbl.lookup] at h
      by_cases hn : 3 = n
      · simpa [hn] using h
      · simp [hn] at h
    decide
  · intro c rest h
    cases h
    rfl

theorem witness_LaneAndLinkCommandsLeaveTables : State.reset.settled ∧ ∃ t, exec (.call 0 1) State.reset = .next t :=
  ⟨rfl, _, rfl⟩

theorem witness_CatchUp :
    common.upsets = [] ∧ common.patronAt 3 = some patron77 ∧
      ∀ n ∈ patron77.loans, ∀ l, common.loanAt n = some l → l.patronSlot = 3 := by
  refine ⟨rfl, rfl, ?_⟩
  intro n hn l hl
  obtain rfl : n = 4 := by simpa [patron77] using hn
  cases hl
  rfl

/-- Every patron request, from a patron the library does not hold. -/
theorem witness_AbsentPatron (code : ReqCode) (h : code.namesPatron) :
    let s := hold common (.request code [99]) 1
    code.namesPatron ∧ Granted s (opOf (.request code [99]) 1) .quiet ∧ s.findPatron 99 = none ∧
      s.freeTag = some 0 ∧ s.slotForPatron = some 0 :=
  ⟨h, granted_common _ _, rfl, (by decide +kernel : State.reset.freeTag = some 0), rfl⟩

/-- Every number out: no FREE tag. -/
def busy : State :=
  { common with tags := Vector.replicate 32 ⟨.outstanding, 1, false, some ⟨.patronFetch, 91, 0, none, none, 20⟩, 1⟩ }

/-- A library of 8,192 records, the n-th a given one. -/
def crowded (f : Nat → PatronRec) : State := { State.reset with patrons := (List.range' 0 8192).map fun n => (n, f n) }

theorem crowded_at (f : Nat → PatronRec) (n : Nat) (h : n < 8192) : Tbl.lookup (crowded f).patrons n = some (f n) :=
  Tbl.lookup_range f 0 8192 n ⟨Nat.zero_le n, by omega⟩

theorem crowded_full (f : Nat → PatronRec) : (crowded f).canonical ∧ (crowded f).patronsFull :=
  ⟨⟨Tbl.wf_range f 0 8192, rfl, rfl, rfl, rfl, nofun⟩, fun n h => by rw [crowded_at f n h]; exact Option.some_ne_none _⟩

theorem granted_crowded (f : Nat → PatronRec) (k : OpKind) (r : Nat) : Granted (hold (crowded f) k r) (opOf k r) .quiet :=
  ⟨rfl, rfl, rfl, rfl, rfl, (by intro h; cases h), (crowded_full f).1⟩

theorem crowded_absent : (crowded fun n => .damaged (n + 1)).findPatron 9999 = none := by
  unfold State.findPatron Tbl.findSlot
  rw [if_neg (by decide), List.find?_eq_none.mpr]
  · rfl
  · intro e he
    obtain ⟨n, hn, rfl⟩ := List.mem_map.mp he
    have : n < 8192 := by
      have := List.mem_range'_1.mp hn
      omega
    simp only [PatronRec.id, beq_iff_eq]
    omega

theorem crowded_no_slot : (crowded fun n => .damaged (n + 1)).slotForPatron = none := by decide +kernel

/-- No FREE tag, and 8,192 DAMAGED records with a FREE one. -/
theorem witness_FetchRefused (code : ReqCode) :
    let k : OpKind := .request code [9999]
    (Granted (hold busy k 1) (opOf k 1) .quiet ∧ busy.findPatron 9999 = none ∧ busy.freeTag = none) ∧
      let s := crowded fun n => .damaged (n + 1)
      Granted (hold s k 1) (opOf k 1) .quiet ∧ s.findPatron 9999 = none ∧ s.freeTag ≠ none ∧ s.slotForPatron = none :=
  ⟨⟨⟨rfl, rfl, rfl, rfl, rfl, (by intro h; cases h), ⟨rfl, rfl, rfl, rfl, rfl, nofun⟩⟩, rfl,
      (by decide +kernel : busy.freeTag = none)⟩,
    granted_crowded _ _ _, crowded_absent, (by decide +kernel : State.reset.freeTag ≠ none), crowded_no_slot⟩

/-- The holds an ACCOUNT lists: first in the queue, behind another, suspended, READY, DAMAGED, and gone. -/
theorem witness_Account :
    let with5 (st : HoldState) := library patron77 loan4 title9 { hold5 with state := st }
    common.residentTitle 9 = some title9 ∧ title9.itemOf 77 = some ⟨5, 77⟩ ∧ common.holdAt 5 = some hold5 ∧
      title9.queue = [] ++ ⟨5, 77⟩ :: [⟨6, 78⟩] ∧ title9.itemOf 78 = some ⟨6, 78⟩ ∧
      title9.queue = [⟨5, 77⟩] ++ ⟨6, 78⟩ :: [] ∧ common.listEntry 78 9 = (.waiting, 2, 0) ∧
      (with5 (.suspended 40)).listEntry 77 9 = (.suspended, 1, 40) ∧
      (with5 (.ready 9 none)).listEntry 77 9 = (.ready, 0, 9) ∧ (common.setPool 5 .damaged).holdAt 5 = none ∧
      title9.itemOf 79 = none ∧ common.residentTitle 50 = none := by decide +kernel

/-- Records of one day: UNKNOWN ones, and quiet ones, of which slot 0 is the lowest. A free slot stands before them in
`common`. -/
theorem witness_Eviction :
    let quiet (n : Nat) : Patron := ⟨n + 1, 0, 0, 0, false, [], [], 5⟩
    (crowded fun n => .unknown (n + 1) 5).patronsFull ∧
      Tbl.lookup (crowded fun n => .unknown (n + 1) 5).patrons 0 = some (.unknown 1 5) ∧
      (crowded fun n => .resident (quiet n)).patronsFull ∧
      (crowded fun n => .resident (quiet n)).quietAt 0 (quiet 0) ∧ (crowded fun n => .damaged (n + 1)).patronsFull ∧
      common.canonical ∧ Tbl.lookup common.patrons 0 = none := by
  intro quiet
  refine ⟨(crowded_full _).2, crowded_at _ 0 (by decide), (crowded_full _).2,
    ⟨?_, rfl, rfl, rfl, rfl, ?_⟩, (crowded_full _).2, ⟨rfl, rfl, rfl, rfl, rfl, nofun⟩, rfl⟩
  · unfold State.patronAt
    rw [crowded_at _ 0 (by decide)]
  · intro q hq
    rw [show (crowded fun n => .resident (quiet n)).questions = [] from (by decide +kernel : State.reset.questions = [])]
      at hq
    cases hq

def strangers : State :=
  { State.reset with patrons := [(0, .fetching 91 0 ⟨0, 1⟩), (1, .unknown 92 0), (2, .damaged 93)] }

theorem granted_strangers (k : OpKind) (r : Nat) : Granted (hold strangers k r) (opOf k r) .quiet :=
  ⟨rfl, rfl, rfl, rfl, rfl, (by intro h; cases h), ⟨rfl, rfl, rfl, rfl, rfl, nofun⟩⟩

theorem witness_UnservedPatron :
    (strangers.findPatron 91 = some 0 ∧ PatronRec.refusal (.fetching 91 0 ⟨0, 1⟩) = some .retry) ∧
      (strangers.findPatron 92 = some 1 ∧ PatronRec.refusal (.unknown 92 0) = some .unknownPatron) ∧
      (strangers.findPatron 93 = some 2 ∧ PatronRec.refusal (.damaged 93) = some .damaged) := by decide +kernel

/-- The four messages name the patrons of `strangers` too, and one that nobody is. -/
theorem witness_NamedPatron (m : Message) (r : Nat) :
    Performs (hold strangers (.message m.kind m) r) (opOf (.message m.kind m) r) .quiet m ∧
      (Message.waive 91 0).names 91 .waive ∧ (Message.holdCancel 92 0).names 92 .holdCancel ∧
      (Message.holdPlace 93 1 63 none).names 93 .holdPlace ∧
      (Message.loanOpen 1 1 94 7 65534 0 none).names 94 .loanOpen ∧ strangers.findPatron 94 = none :=
  ⟨⟨granted_strangers _ _, rfl⟩, .inr (.inl ⟨_, rfl, rfl⟩), .inr (.inr (.inr ⟨_, rfl, rfl⟩)),
    .inr (.inr (.inl ⟨_, _, _, rfl, by decide, by decide, by decide, rfl⟩)),
    .inl ⟨_, _, _, _, _, _, rfl, by decide +kernel, rfl⟩, by decide +kernel⟩

/-- `Answers` speaks of requests whose lane still waits; here is one. -/
theorem witness_AwaitedBy :
    ∃ s : State, ∃ ex, AwaitedBy s (opOf (.request .detail []) 0) ⟨2, 1, 0⟩ ex :=
  ⟨State.reset.setLane 2 { (.powerOn : LaneUnit) with
      life := .active, roll := 15, exchange := some ⟨1, .working .granted, some .detail, 0, []⟩ },
    _, ⟨rfl, rfl, rfl, rfl, rfl, rfl, rfl⟩⟩

/-! ## Witnesses: renewals and payments -/

theorem witness_Renew :
    let u := (hold common (.request .renew [77, 900]) 2).served 3
    u.findCopy 900 = some 4 ∧ 4 ∈ served77.loans ∧ u.loanAt 4 = some loan4 ∧ u.mayRenew served77 loan4 :=
  ⟨by decide +kernel, by decide, by decide +kernel, rfl, by decide +kernel, by decide +kernel, nofun, by decide +kernel⟩

/-- A library whose patron, loan and thresholds make one check fail. -/
def failing (threshold : Nat) (l : Loan) : State :=
  { library patron77 l title9 hold5 with
    schedule := { Schedule.powerOn with categories := Vector.replicate 8 ⟨100, threshold, 10⟩ } }

def refusesWith (s : State) (copy n : Nat) (l : Loan) (blocked : Bool) : Bool :=
  let u := (hold s (.request .renew [77, copy]) 2).served 3
  decide (u.findCopy copy = some n) && decide (u.loanAt n = some l) &&
    decide (u.patronAt 3 = some { served77 with blocked := blocked })

/-- NOT_FOUND without an index entry and outside the list, DAMAGED, BLOCKED, RENEW_LIMIT, TOO_LATE, HELD and NO_GAIN, each
at the edge of its check. -/
theorem witness_RenewRefuses :
    (common.served 3).findCopy 5 = none ∧
      (((common.setLoan 4 (.damaged 900)).served 3).findCopy 900 = some 4 ∧ 4 ∈ served77.loans ∧
        Tbl.lookup ((common.setLoan 4 (.damaged 900)).served 3).loans 4 = some (.damaged 900)) ∧
      (refusesWith common 901 7 ⟨901, 8, 2, 0, 10, 0, 0, 0, 0⟩ false = true ∧ 7 ∉ served77.loans) ∧
      refusesWith (failing 500 loan4) 900 4 loan4 true = true ∧
      (refusesWith (failing 501 { loan4 with used := 2 }) 900 4 { loan4 with used := 2 } false = true) ∧
      (refusesWith (failing 0 { loan4 with overdue := 1 }) 900 4 { loan4 with overdue := 1 } false = true) ∧
      (refusesWith (failing 0 { loan4 with title := 9 }) 900 4 { loan4 with title := 9 } false = true ∧
        (failing 0 loan4).findTitle 9 = some 2 ∧ (failing 0 loan4).titleAt 2 = some title9 ∧ 1 ≤ title9.waiting) ∧
      (refusesWith (failing 0 { loan4 with due := 15 }) 900 4 { loan4 with due := 15 } false = true ∧
        (failing 0 loan4).placesDue { loan4 with due := 15 } = 15) := by decide +kernel

/-- The rows of R73's table: no record, RESIDENT without a WAITING entry, FETCHING, and DAMAGED. -/
theorem witness_HoldsUp :
    ¬ common.holdsUp 8 ∧ ¬ common.holdsUp 11 ∧ ¬ (common.setTitle 0 (.fetching 8 ⟨0, 1⟩)).holdsUp 8 ∧
      (common.setTitle 0 (.damaged 8)).holdsUp 8 ∧ common.holdsUp 9 := by
  refine ⟨nofun, ?_, ?_, ⟨0, by decide +kernel, .inr ⟨8, by decide +kernel⟩⟩,
    ⟨2, by decide +kernel, .inl ⟨title9, by decide +kernel, by decide⟩⟩⟩
  · rintro ⟨k, hk, h⟩
    obtain rfl : 3 = k := Option.some.inj ((by decide +kernel : common.findTitle 11 = some 3).symm.trans hk)
    rcases h with ⟨tt, ht, hw⟩ | ⟨i, hi⟩
    · cases ht
      exact absurd hw (by decide)
    · cases hi
  · rintro ⟨k, hk, h⟩
    obtain rfl : 0 = k := Option.some.inj
      ((by decide +kernel : (common.setTitle 0 (.fetching 8 ⟨0, 1⟩)).findTitle 8 = some 0).symm.trans hk)
    rcases h with ⟨tt, ht, -⟩ | ⟨i, hi⟩
    · cases ht
    · cases hi

theorem witness_RenewAll :
    served77.loans.length + 1 ≤ (opOf (.request .renewAll [77]) 2).reservation ∧ served77.loans.Nodup ∧
      served77.loans[0]? = some 4 := by decide +kernel

theorem witness_PayCash (amount : Nat) :
    Serves (hold common (.request .payCash [77, amount]) 1) (opOf (.request .payCash [77, amount]) 1) .quiet .payCash
      [77, amount] 3 ((hold common (.request .payCash [77, amount]) 1).served 3) served77 := serves_common _ _ _

def linked : State := { common with link := { common.link with up := true } }

theorem witness_PayCard :
    let s := hold linked (.request .payCard [77, 400, 5]) 2
    let u := s.served 3
    Serves s (opOf (.request .payCard [77, 400, 5]) 2) .quiet .payCard [77, 400, 5] 3 u served77 ∧ u.link.up = true ∧
      served77.balance - served77.pending = 400 ∧ (u.stationAt ⟨2, 1, 0⟩).stack.length + (u.stationAt ⟨2, 1, 0⟩).parked < 2 ∧ u.freeTag = some 0 :=
  ⟨⟨⟨rfl, rfl, rfl, rfl, rfl, (by intro h; cases h), ⟨rfl, rfl, rfl, rfl, rfl, nofun⟩⟩, rfl, rfl, rfl, rfl, rfl⟩,
    by decide +kernel⟩

/-- The refusals of R116 in order, each past the check before it. -/
theorem witness_PayCardRefused :
    let u := common.served 3
    let spent := { served77 with balance := 100 }
    let stacked := linked.setLane 2 (({ (.powerOn : LaneUnit) with life := .active, roll := 15 } : LaneUnit).mapStation 1
      fun y => { y with parked := 2 })
    u.link.up = false ∧ linked.link.up = true ∧ spent.balance - spent.pending = 0 ∧
      served77.balance - served77.pending ≠ 0 ∧ stacked.link.up = true ∧
      2 ≤ (stacked.stationAt ⟨2, 1, 0⟩).stack.length + (stacked.stationAt ⟨2, 1, 0⟩).parked ∧
      (linked.stationAt ⟨2, 1, 0⟩).stack.length + (linked.stationAt ⟨2, 1, 0⟩).parked < 2 ∧ busy.freeTag = none := by decide +kernel

/-- Lane 2 attached as at the requests of `opOf`, with a notice stacked at station 1. -/
def attended : State :=
  common.setLane 2 (({ (.powerOn : LaneUnit) with life := .active, roll := 15 } : LaneUnit).mapStation 1 fun y =>
    { y with stack := [⟨.cardResult, 77, 100, .ok, 31, false⟩] })

theorem witness_DetailAndPoll :
    Granted (hold attended (.request .poll []) 0) (opOf (.request .poll []) 0) .quiet ∧
      (opOf (.request .poll []) 0).origin = some ⟨2, 1, 0⟩ ∧ (opOf (.request .poll []) 0).handed = [] ∧
      (attended.stationAt ⟨2, 1, 0⟩).stack = ⟨.cardResult, 77, 100, .ok, 31, false⟩ :: [] ∧
      (common.stationAt ⟨2, 1, 0⟩).stack = [] :=
  ⟨⟨rfl, rfl, rfl, rfl, rfl, (by intro h; cases h), ⟨rfl, rfl, rfl, rfl, rfl, nofun⟩⟩, rfl, rfl, by decide +kernel,
    by decide +kernel⟩

/-- A lane attached as at the request, and one that is not. -/
theorem witness_Stands : attended.standsFor ⟨2, 1, 0⟩ ∧ ¬ common.standsFor ⟨2, 1, 0⟩ ∧ ¬ attended.standsFor ⟨2, 1, 1⟩ := by
  unfold State.standsFor
  decide +kernel

/-- A station with a notice stacked and a card payment out, which its parked count covers. -/
def parking : State :=
  { (attended.setLane 2 ((attended.lane 2).mapStation 1 fun y => { y with parked := 1 })).setTag 31
      ⟨.outstanding, 15, false, some ⟨.cardAuth, 77, 100, some ⟨2, 1, 0⟩, none, 20⟩, 15⟩ with
    engine := .busy (opOf (.request .poll []) 0), pending := [.poll .quiet] }

theorem witness_ParkedKept :
    parking.parkedAgree ∧ parking.freshGenerations ∧ parking.parkedAt ⟨2, 1, 0⟩ = 1 ∧ ∃ t, step parking = .next t :=
  ⟨⟨(by decide +kernel : ∀ (l : Lane) (st : Station),
        ((parking.lane l).stations.get st).stack.length + ((parking.lane l).stations.get st).parked ≤ 2 ∧
          ((parking.lane l).isAttached = true →
            parking.parkedAt ⟨l, st, (parking.lane l).gen⟩ + parking.handedTo ⟨l, st, (parking.lane l).gen⟩ ≤
              ((parking.lane l).stations.get st).parked)),
      fun op h => by cases h; rfl⟩,
    (by decide +kernel : ∀ (l : Lane) (st : Station), (parking.lane l).isAttached = false →
      parking.parkedAt ⟨l, st, ((parking.lane l).gen + 1) % 65536⟩ = 0 ∧
        parking.handedTo ⟨l, st, ((parking.lane l).gen + 1) % 65536⟩ = 0),
    by decide +kernel, _, rfl⟩

/-! ## Witnesses: holds -/

theorem witness_Offer :
    common.titleAt 2 = some title9 ∧ common.firstWaiting title9 = some (⟨5, 77⟩, hold5) ∧
      common.titleAt 3 = some ⟨11, 1, [], 0, 0⟩ ∧ common.firstWaiting ⟨11, 1, [], 0, 0⟩ = none ∧
      common.firstWaiting ⟨11, 255, [], 0, 0⟩ = none ∧ (opOf .holdsStep 1).waiting = [] := by decide +kernel

theorem witness_Removal :
    let s := hold common (.message 11 (.holdCancel 77 9)) 4
    s.titleAt 2 = some title9 ∧ s.holdAt 5 = some hold5 ∧ s.findPatron 77 = some 3 ∧ s.patronAt 3 = some patron77 := by
  decide +kernel

/-- A DAMAGED entry, and owners that are DAMAGED and absent. -/
theorem witness_RemovalDamaged :
    (common.setPool 5 .damaged).holdAt 5 = none ∧ common.findPatron 78 = none ∧
      (common.setPatron 3 (.damaged 77)).findPatron 77 = some 3 ∧
      (common.setPatron 3 (.damaged 77)).patronAt 3 = none := by decide +kernel

/-- On the shelf, to wait, and suspended until the first day it may be. -/
theorem witness_Placement :
    let u := (hold common (.request .placeHold [77, 11, 0]) 3).served 3
    u.mayHold served77 11 ∧ u.findTitle 11 = some 3 ∧
      u.titleAt 3 = some ⟨11, 1, [], 0, 0⟩ ∧ Tbl.firstFree u.pool 8192 = some 0 ∧
      (∀ d, [2][0]? = some d → u.today < d) := by
  refine ⟨⟨rfl, by decide, ?_, by decide⟩, by decide +kernel, by decide +kernel, by decide +kernel, ?_⟩
  · intro k hk l hl
    obtain rfl : k = 4 := by simpa [served77, patron77] using hk
    cases hl
    decide
  · intro d hd
    cases hd
    decide +kernel

theorem witness_PlacementOnAnAbsentTitle :
    let u := (hold common (.request .placeHold [77, 50, 63]) 3).served 3
    u.findTitle 50 = none ∧ (u.stationAt ⟨2, 1, 0⟩).stack.length + (u.stationAt ⟨2, 1, 0⟩).parked < 2 ∧ u.freeTag = some 0 ∧ Tbl.firstFree u.titles 2048 = some 0 := by
  decide +kernel

theorem witness_Cancellation :
    let u := (hold common (.request .cancelHold [77, 9]) 3).served 3
    9 ∈ served77.holds ∧ u.findTitle 9 = some 2 ∧ u.titleAt 2 = some title9 ∧ title9.itemOf 77 = some ⟨5, 77⟩ ∧
      u.holdAt 5 = some hold5 := by decide +kernel

/-- The READY copy of a cancelled entry meets a WAITING entry behind it, or none. -/
theorem witness_CancelledCopy :
    let ready := { hold5 with state := .ready 9 (some 900) }
    let v := (library patron77 loan4 { title9 with waiting := 1, ready := 1 } ready).removeEntry 2 9 ⟨5, 77⟩ .cancelled
    let left : Title := ⟨9, 0, [⟨6, 78⟩], 1, 0⟩
    v.titleAt 2 = some left ∧ v.firstWaiting left = some (⟨6, 78⟩, ⟨78, 9, 1, 0, .waiting⟩) ∧
      (v.freePool 6).firstWaiting left = none := by decide +kernel

/-- Checks 1 to 3 of R100: a title not in the list, and listed ones without a record, FETCHING, DAMAGED, without the
patron's entry, and with a DAMAGED one. -/
theorem witness_RefusesEntry :
    let u := common.served 3
    let list (title : Nat) : Patron := { served77 with holds := [title] }
    let other : Title := { title9 with queue := [⟨6, 78⟩] }
    u.refusesEntry served77 11 .notFound ∧ u.refusesEntry (list 50) 50 .notFound ∧
      (u.setTitle 0 (.fetching 12 ⟨0, 1⟩)).refusesEntry (list 12) 12 .notFound ∧
      (u.setTitle 1 (.damaged 13)).refusesEntry (list 13) 13 .damaged ∧
      (u.setTitle 2 (.resident other)).refusesEntry served77 9 .notFound ∧
      (u.setPool 5 .damaged).refusesEntry served77 9 .damaged :=
  ⟨.inl ⟨by decide, rfl⟩, .inr ⟨by decide, .inl ⟨by decide +kernel, rfl⟩⟩,
    .inr ⟨by decide, .inr ⟨0, by decide +kernel, .inl ⟨⟨12, ⟨0, 1⟩, by decide +kernel⟩, rfl⟩⟩⟩,
    .inr ⟨by decide, .inr ⟨1, by decide +kernel, .inr (.inl ⟨⟨13, by decide +kernel⟩, rfl⟩)⟩⟩,
    .inr ⟨by decide, .inr ⟨2, by decide +kernel, .inr (.inr ⟨{ title9 with queue := [⟨6, 78⟩] }, by decide +kernel,
      .inl ⟨by decide +kernel, rfl⟩⟩)⟩⟩,
    .inr ⟨by decide, .inr ⟨2, by decide +kernel, .inr (.inr ⟨title9, by decide +kernel,
      .inr ⟨⟨5, 77⟩, by decide +kernel, by decide +kernel, rfl⟩⟩)⟩⟩⟩

theorem witness_Suspension :
    let ready := { hold5 with state := .ready 9 none }
    let s := library patron77 loan4 title9 ready
    hold5.isReady = false ∧ ready.isReady = true ∧ s.holdAt 5 = some ready ∧ common.today < 2 ∧
      1 ≤ common.today := by decide +kernel

/-- A suspended entry behind an empty shelf, and one with a copy on the shelf. -/
theorem witness_Resumption :
    let suspended := { hold5 with state := .suspended 40 }
    let empty := library patron77 loan4 { title9 with waiting := 1 } suspended
    let stocked := library patron77 loan4 { title9 with waiting := 1, shelf := 1 } suspended
    empty.holdAt 5 = some suspended ∧ (empty.titleAt 2).map Title.shelf = some 0 ∧
      (stocked.titleAt 2).map Title.shelf = some 1 ∧ stocked.findTitle 9 = some 2 := by decide +kernel

/-! ## Witnesses: messages -/

/-- Every message is performed from some state with its entries reserved. -/
theorem witness_Performs (m : Message) :
    ∃ s op, Performs s op .quiet m ∧ 4 ≤ op.reservation ∧ Crossing.quiet.claims = [] :=
  ⟨_, _, performs_common m 4, Nat.le_refl 4, rfl⟩

/-- Marks on the first and the last day of the window of day 100, and at the end of the day range. -/
theorem witness_WithinWindow :
    (⟨100, [(69, .closed), (164, .open_)]⟩ : Calendar).withinWindow ∧
      (⟨65534, [(65503, .closed), (65534, .open_)]⟩ : Calendar).withinWindow := by
  unfold Calendar.withinWindow
  decide

/-- Stale at C itself, the next day, and a day past the last. -/
theorem witness_DayClose :
    min 0 65534 ≤ common.calendar.closeDay ∧ common.calendar.closeDay < min 1 65534 ∧ 65534 < 65535 := by decide +kernel

theorem witness_Calendar :
    (∃ v ∈ [0, 2], 1 < v) ∧ (∀ v ∈ List.replicate 64 1, v ≤ 1) ∧ (List.replicate 64 1).length = 64 ∧
      common.calendar.inWindow 64 = true ∧ common.calendar.inWindow 65 = false := by decide +kernel

theorem witness_Schedule :
    [min 501 500, min 8 7, min 0 50000, max 1 (min 0 90), min 16 15, min 31 30, min 16 15] = [500, 7, 0, 1, 15, 30, 15] ∧
      [max 1 (min 0 14), max 5 (min 61 60)] = [1, 60] := by decide

/-- Each refused form, one above its range or of a count one short. -/
theorem witness_ScheduleRefused :
    2 < 3 ∧ (1 < 2 ∧ 7 < 8) ∧ 1 ≠ 0 ∧ (List.replicate 6 0).length ≠ 7 ∧ [0, 0].length ≠ 3 ∧ [0].length ≠ 2 := by decide

/-- Without the pickup flag, and with it for a READY entry. -/
theorem witness_LoanOpen :
    let ready := { hold5 with state := .ready 9 none }
    let s := hold (library patron77 loan4 title9 ready) (.message 1 (.loanOpen 5 9 77 7 65534 1 none)) 4
    loanFieldsOk 5 9 77 7 65534 none = true ∧ s.findCopy 5 = none ∧ Tbl.firstFree s.loans 16384 = some 0 ∧
      s.findTitle 9 = some 2 ∧ s.titleAt 2 = some title9 ∧ title9.itemOf 77 = some ⟨5, 77⟩ ∧ s.holdAt 5 = some ready ∧
      ready.isReady = true ∧ s.residentTitle 8 = none ∧ hold5.isReady = false ∧
      loanFieldsOk 5 9 77 8 65534 none = false := by decide +kernel

/-- A DAMAGED slot of the copy, overwritten by the restore form; a full list; a copy on loan; no FREE slot. -/
theorem witness_LoanOpenRestore :
    let s := common.setLoan 4 (.damaged 900)
    loanFieldsOk 900 8 77 0 10 (some ⟨15, 255, 65535, 50000⟩) = true ∧ s.findCopy 900 = some 4 ∧
      Tbl.lookup s.loans 4 = some (.damaged 900) ∧ 4 ∈ patron77.loans ∧ s.calendar.closeDay < 65535 ∧
      64 ≤ (List.range 64).length ∧ 64 ∉ List.range 64 ∧ common.findCopy 900 = some 4 ∧
      common.loanAt 4 = some loan4 := by decide +kernel

theorem witness_Return :
    common.findCopy 5 = none ∧ common.findCopy 900 = some 4 ∧ common.loanAt 4 = some loan4 ∧
      common.patronAt loan4.patronSlot = some patron77 ∧ loan4.charged ≤ common.calendar.closeDay ∧
      common.residentTitle 8 = none ∧ common.residentTitle 9 = some title9 := by decide +kernel

/-- The loan of a DAMAGED slot, and one of a DAMAGED patron. -/
theorem witness_ReturnDamaged :
    let s := (common.setLoan 7 (.damaged 901)).setPatron 3 (.damaged 77)
    s.findCopy 901 = some 7 ∧ Tbl.lookup s.loans 7 = some (.damaged 901) ∧ s.findCopy 900 = some 4 ∧
      s.loanAt 4 = some loan4 ∧ Tbl.lookup s.patrons loan4.patronSlot = some (.damaged 77) := by decide +kernel

/-- Every patron is UNKNOWN, FETCHING under number 0, DAMAGED, RESIDENT or absent. -/
theorem witness_PatronLoad :
    let asked := strangers.setTag 0 ⟨.outstanding, 1, false, some ⟨.patronFetch, 91, 0, none, none, 20⟩, 1⟩
    common.loadBase ⟨false, 0, 0⟩ .patronFetch 77 = some common ∧ common.loadBase ⟨true, 1, 0⟩ .patronFetch 77 = none ∧
      asked.loadBase ⟨true, 1, 0⟩ .patronFetch 91 = some (asked.retireTag 0) ∧ common.findPatron 99 = none ∧
      common.slotForPatron = some 0 ∧ common.findPatron 77 = some 3 ∧ (common.patronAt 3).isSome = true ∧
      Tbl.lookup strangers.patrons 0 = some (.fetching 91 0 ⟨0, 1⟩) ∧
      Tbl.lookup strangers.patrons 1 = some (.unknown 92 0) ∧ Tbl.lookup strangers.patrons 2 = some (.damaged 93) := by
  decide +kernel

/-- A load that blocks its patron, with room for the BALANCE and with none; and a category change that moves the flag. -/
theorem witness_LoadBalance :
    let s := hold (failing 500 loan4) (.message 3 (.patronLoad ⟨false, 0, 0⟩ 99 1 1 600)) 4
    let full : State := { s with link := { s.link with outbound := List.replicate 124 (.renewed 1 1 1 1) } }
    let n : Notice := .balance 99 600 0 true
    (s.schedule.category 1).threshold = 500 ∧ 0 < s.roomForOthers ∧ full.roomForOthers = 0 ∧ full.link.coalesce n = none ∧
      ((s.catchUp 3).patronAt 3).map Patron.blocked = some true ∧
      ((hold common (.message 3 (.patronLoad ⟨false, 0, 0⟩ 77 1 2 0)) 4).schedule.category 2).threshold = 0 ∧
      n ∈ (s.newResident 0 99 1 600).1.link.outbound := by decide +kernel

/-- Title 50 is absent, 9 RESIDENT, 12 FETCHING under number 0 with a placement of patron 77 parked on it, 13 DAMAGED
with an entry of patron 77 in the pool. -/
def loading : State :=
  (((common.setTitle 0 (.fetching 12 ⟨0, 1⟩)).setTitle 1 (.damaged 13)).setPool 7 (.entry ⟨77, 13, 1, 0, .waiting⟩)).setTag 0
    ⟨.outstanding, 1, false, some ⟨.titleFetch, 12, 0, some ⟨2, 1, 0⟩, some ⟨77, 1, none⟩, 20⟩, 1⟩

theorem witness_TitleLoad :
    loading.loadBase ⟨false, 0, 0⟩ .titleFetch 9 = some loading ∧ loading.loadBase ⟨true, 2, 0⟩ .titleFetch 12 = none ∧
      loading.loadBase ⟨true, 1, 0⟩ .titleFetch 12 = some (loading.retireTag 0) ∧
      loading.loadQuestions (loading.retireTag 0) ⟨true, 1, 0⟩ 12 =
        [(⟨.titleFetch, 12, 0, some ⟨2, 1, 0⟩, some ⟨77, 1, none⟩, 20⟩, 0)] ∧
      loading.findTitle 50 = none ∧ Tbl.firstFree loading.titles 2048 = some 4 ∧ loading.findTitle 9 = some 2 ∧
      loading.titleAt 2 = some title9 ∧ loading.findTitle 12 = some 0 ∧ loading.findTitle 13 = some 1 ∧
      Tbl.lookup loading.titles 1 = some (.damaged 13) := by decide +kernel

/-- The restoration of title 13 with one copy on the shelf: the entry takes the place in its patron's list and the
copy. -/
theorem test_restore_title :
    let w := (hold loading (.message 4 (.titleLoad ⟨false, 0, 0⟩ 13 1 1)) 4).restoreTitle 1 13 1
    w.titleAt 1 = some ⟨13, 0, [⟨7, 77⟩], 0, 1⟩ ∧ (w.patronAt 3).map Patron.holds = some [9, 13] := by decide +kernel

/-- In the restoration of title 13, the entry of patron 77 stays, and that of a patron without a record leaves. -/
theorem witness_RestoreTitle :
    let s := (hold loading (.message 4 (.titleLoad ⟨false, 0, 0⟩ 13 1 0)) 4).setPool 8 (.entry ⟨79, 13, 1, 0, .waiting⟩)
    let w := s.restoreTitle 1 13 0
    s.entriesOf 13 = [(7, ⟨77, 13, 1, 0, .waiting⟩), (8, ⟨79, 13, 1, 0, .waiting⟩)] ∧ s.findPatron 77 = some 3 ∧
      (s.patronAt 3).map (fun p => p.holds.length) = some 1 ∧ s.findPatron 79 = none ∧ Tbl.lookup w.pool 8 = none ∧
      w.titleAt 1 = some ⟨13, 0, [⟨7, 77⟩], 1, 0⟩ ∧ .holdChange 13 79 .lost 0 ∈ w.link.outbound := by decide +kernel

/-- A card payment of 100 cents out under number 31, generation 15. -/
def authorising : State :=
  common.setTag 31 ⟨.outstanding, 15, false, some ⟨.cardAuth, 77, 100, some ⟨2, 1, 0⟩, none, 20⟩, 15⟩

theorem granted_authorising (k : OpKind) (r : Nat) : Granted (hold authorising k r) (opOf k r) .quiet :=
  ⟨rfl, rfl, rfl, rfl, rfl, (by intro h; cases h), ⟨rfl, rfl, rfl, rfl, rfl, nofun⟩⟩

theorem witness_AuthResult :
    let s := hold authorising (.message 5 (.authResult ⟨true, 15, 31⟩ 100)) 4
    s.matchTag ⟨true, 15, 31⟩ .cardAuth none = some ⟨.cardAuth, 77, 100, some ⟨2, 1, 0⟩, none, 20⟩ ∧
      s.findPatron 77 = some 3 ∧ ((s.retireTag 31).served 3).patronAt 3 = some served77 ∧
      s.matchTag ⟨true, 14, 31⟩ .cardAuth none = none := by decide +kernel

/-- The payer's record DAMAGED, and gone. -/
theorem witness_AuthLost :
    (authorising.setPatron 3 (.damaged 77)).findPatron 77 = some 3 ∧
      (authorising.setPatron 3 (.damaged 77)).patronAt 3 = none ∧ (authorising.freePatron 3).findPatron 77 = none := by
  decide +kernel

theorem witness_Waive (amount : Nat) :
    let m := Message.waive 77 amount
    Names (hold common (.message m.kind m) 4) (opOf (.message m.kind m) 4) .quiet m 77 3
      ((hold common (.message m.kind m) 4).served 3) served77 := names_common _ _

theorem witness_HoldPlace :
    let s := hold common (.message 10 (.holdPlace 77 11 63 none)) 4
    let f := s.setTitle 0 (.fetching 12 ⟨0, 0⟩)
    11 ∉ served77.holds ∧ 12 ∉ served77.holds ∧ (s.served 3).findTitle 50 = none ∧ (s.served 3).findTitle 11 = some 3 ∧
      (f.served 3).findTitle 12 = some 0 ∧ Tbl.lookup (f.served 3).titles 0 = some (.fetching 12 ⟨0, 0⟩) := by
  decide +kernel

/-- The checks of R89 in order: a blocked patron, a title held, a title on loan, a full hold list, a DAMAGED title, a full
queue, a day that has come; and a placement that passes checks 1 to 4. -/
theorem witness_RefusesHold :
    let u := common.served 3
    let full : Title := ⟨11, 0, List.replicate 255 ⟨5, 77⟩, 0, 0⟩
    u.refusesHold { served77 with blocked := true } 9 none none .blocked ∧ u.refusesHold served77 9 none none .duplicate ∧
      u.refusesHold served77 8 none none .onLoan ∧
      u.refusesHold { served77 with holds := List.range' 20 10 } 11 none none .holdLimit ∧
      u.refusesHold served77 11 (some (.damaged 11)) none .damaged ∧
      u.refusesHold served77 11 (some (.resident full)) none .queueFull ∧
      u.refusesHold served77 11 (some (.resident ⟨11, 1, [], 0, 0⟩)) (some 1) .badField ∧ u.mayHold served77 50 := by
  intro u full
  have free : ∀ title, title ≠ 8 → ∀ k ∈ patron77.loans, ∀ l, u.loanAt k = some l → l.title ≠ title := by
    intro title h k hk l hl
    obtain rfl : k = 4 := by simpa [patron77] using hk
    cases hl
    exact h.symm
  have may : ∀ title, title ≠ 8 → title ≠ 9 → u.mayHold served77 title := fun title h8 h9 =>
    ⟨rfl, by simpa [served77, patron77] using h9, free title h8, by decide +kernel⟩
  have eleven := may 11 (by decide) (by decide)
  refine ⟨.inl ⟨rfl, rfl⟩, .inr (.inl ⟨rfl, .inl ⟨by decide, rfl⟩⟩),
    .inr (.inl ⟨rfl, .inr ⟨by decide, .inl ⟨⟨4, by decide, loan4, rfl, rfl⟩, rfl⟩⟩⟩),
    .inr (.inl ⟨rfl, .inr ⟨by decide, .inr ⟨free 11 (by decide), by decide +kernel, rfl⟩⟩⟩),
    .inr (.inr ⟨eleven, .inl ⟨⟨11, rfl⟩, rfl⟩⟩), .inr (.inr ⟨eleven, .inr ⟨full, rfl, .inl ⟨by decide +kernel, rfl⟩⟩⟩),
    .inr (.inr ⟨eleven, .inr ⟨_, rfl, .inr ⟨by decide, .inr ⟨by decide +kernel, ⟨1, rfl, by decide +kernel⟩, rfl⟩⟩⟩⟩),
    may 50 (by decide) (by decide)⟩

/-- The refusals of R91, each past the check before it, and a pool without a FREE slot. -/
theorem witness_ParkRefused :
    let full : State := { common with
      titles := (List.range' 0 2048).map fun n => (n, .damaged 0), pool := (List.range' 0 8192).map fun n => (n, .damaged) }
    let parked := attended.setLane 2 ((attended.lane 2).mapStation 1 fun y => { y with parked := 1 })
    2 ≤ (parked.stationAt ⟨2, 1, 0⟩).stack.length + (parked.stationAt ⟨2, 1, 0⟩).parked ∧
      (attended.stationAt ⟨2, 1, 0⟩).stack.length + (attended.stationAt ⟨2, 1, 0⟩).parked < 2 ∧ 1 ≤ common.today ∧ common.today < 2 ∧
      busy.freeTag = none ∧ common.freeTag ≠ none ∧ Tbl.firstFree full.titles 2048 = none ∧
      Tbl.firstFree full.pool 8192 = none := by decide +kernel

/-- A placement that completes for patron 77, and for the patrons of `strangers`. -/
theorem witness_CompleteParked :
    common.upsets = [] ∧ common.findPatron 77 = some 3 ∧ (common.patronAt 3).isSome = true ∧
      (common.touchDay 3).patronAt 3 = some served77 ∧ (common.touchDay 3).titleAt 3 = some ⟨11, 1, [], 0, 0⟩ ∧
      Tbl.firstFree (common.touchDay 3).pool 8192 = some 0 ∧ strangers.upsets = [] ∧ strangers.findPatron 91 = some 0 ∧
      strangers.findPatron 92 = some 1 ∧ strangers.findPatron 93 = some 2 ∧ strangers.findPatron 94 = none := by
  decide +kernel

/-! ## Witnesses: the link and the Fault Log -/

/-- Lane 2 ACTIVE with stations 0 to 3, with an exchange of station 1 at a step. -/
def speaking (step : ExchangeStep) (code : Option ReqCode) : State :=
  State.reset.setLane 2 { (.powerOn : LaneUnit) with
    life := .active, roll := 15, exchange := some ⟨1, step, code, 2, []⟩, timer := .reply }

def up : State := { State.reset with link := { State.reset.link with up := true } }

theorem witness_LinkState : State.reset.settled ∧ State.reset.link.up = false ∧ up.settled ∧ up.link.up = true :=
  ⟨rfl, rfl, rfl, rfl⟩

/-- The drop of the line over a BALANCE being sent, with a younger one of the same patron behind it (R181). -/
theorem test_drop_merges :
    mergeHead [.balance 77 5 0 false, .renewed 1 1 1 1, .balance 77 6 0 false] =
      [.balance 77 6 0 false, .renewed 1 1 1 1] := by decide +kernel

/-- A full queue, a frame that fails, one that passes. -/
theorem witness_InboundFrame :
    let p : Place := ⟨.marker 0 .badMessage, 0, 4294967294, 0, false, false⟩
    (List.replicate 63 p ++ [p]).length = 64 ∧ up.link.inbound.length < 64 ∧ frameCheck 13 [] ≠ 0 ∧
      parseMessage 13 [] = some .statusRead ∧ parseMessage 0 [] = none := by decide +kernel

theorem witness_LinkConfirms :
    let head : Place := ⟨.marker 0 .frameError, 4, 1, 5, false, false⟩
    let s : State := { up with link := { up.link with inbound := [head] } }
    let d : State := { up with link := { up.link with inbound := [{ head with confirmed := true }] } }
    let full : State := { d with link := { d.link with outbound := List.replicate 128 (.renewed 1 1 1 1) } }
    let listed : State := { up with link := { up.link with sideList := [5] } }
    0 < s.roomForOthers ∧ 0 < d.roomForOthers ∧ full.roomForOthers = 0 ∧ 0 < listed.roomForOthers ∧
      s.arbiter.restartPending = false := by decide +kernel

/-- What the nineteen positions present, and what silences LINK: an overrun CONFIRM in the side list, a place that only
drains, and a marker. -/
theorem witness_Positions :
    let message : Place := ⟨.message 13 .statusRead, 4, 1, 5, false, false⟩
    let head (p : Place) : State := { up with link := { up.link with inbound := [p] } }
    let listed : State := { head message with link := { (head message).link with sideList := [5] } }
    (speaking (.working .atArbiter) (some .payCash)).requestAt 2 = some (.request .payCash []) ∧
      (head message).requestAt 16 = some (.message 13 .statusRead) ∧ listed.requestAt 16 = none ∧
      (head { message with confirmed := true }).requestAt 16 = none ∧
      (head { message with content := .marker 13 .frameError }).requestAt 16 = none ∧
      ({ up with sweep := { up.sweep with state := .holds } } : State).requestAt 17 = some .holdsStep ∧
      ({ up with tagLine := [31, 0] } : State).requestAt 18 = some (.tagExpiry 31) := by decide +kernel

/-- Operations that complete: a message whose place leaves the inbound queue, one whose place drains, one with a warm reset
owed, and a lane request whose lane still waits; and one that enters WAITING_ROOM. -/
theorem witness_Completion :
    let at1 (op : Op) (p : Place) : State := { up with engine := .busy op, link := { up.link with inbound := [p] } }
    let place : Place := ⟨.message 15 .faultClear, 4, 0, 0, false, false⟩
    let op := opOf (.message 15 .faultClear) 4
    let closes (s : State) (q : List Place) (due : Bool) := ∃ t, exec (.faultClear .quiet) s = .next t ∧
      t.engine = .free ∧ t.link.inbound = q ∧ t.arbiter.resetDue = due
    closes (at1 op place) [] false ∧
      closes (at1 op { place with tally := 1 }) [{ place with tally := 1, confirmed := true }] false ∧
      closes (at1 { op with resetOwed := true } place) [] true ∧
      (let s : State := { speaking (.working .granted) (some .detail) with engine := .busy (opOf (.request .detail []) 0) }
       ∃ t, exec (.detail .quiet) s = .next t ∧ t.engine = .free ∧ t.laneOut.length = 1) ∧
      (let s := at1 { op with reservation := 0 } place
       let full : State := { s with link := { s.link with outbound := List.replicate 128 (.renewed 1 1 1 1) } }
       (match exec (.faultClear .quiet) full with
        | .next ⟨.waitingRoom _, _, _, _, _, _, _, _, _, _, _, _, k, _, _, _, _, _, _⟩ => decide (k.inbound = [place])
        | _ => false) = true) :=
  ⟨⟨_, rfl, rfl, rfl, rfl⟩, ⟨_, rfl, rfl, rfl, rfl⟩, ⟨_, rfl, rfl, rfl, rfl⟩, ⟨_, rfl, by decide +kernel, by decide +kernel⟩,
    by decide +kernel⟩

/-- A request that the search reaches: granted with room, and refused without room while the link is DOWN. -/
theorem witness_Search :
    let s := common.setLane 2 { (.powerOn : LaneUnit) with
      life := .active, roll := 15, exchange := some ⟨1, .working .atArbiter, some .payCash, 2, [77, 5]⟩ }
    let full : State := { s with link := { s.link with outbound := List.replicate 128 (.renewed 1 1 1 1) } }
    s.engine = .free ∧ s.requestAt 2 = some (.request .payCash [77, 5]) ∧
      s.noticeNeed (.request .payCash [77, 5]) = 1 ∧ (∀ p ∈ [0, 1], s.requestAt p = none) ∧
      (List.range 19).map (fun i => (s.arbiter.pointer + i) % 19) = [0, 1] ++ 2 :: (List.range 16).map (· + 3) ∧
      full.link.up = false ∧ (full.lane 2).closingCall = none ∧ 128 - full.link.outbound.length < 1 := by decide +kernel

/-- Patron 77 with one loan and title 9 with two WAITING entries, and an absent patron and title. -/
theorem witness_NoticeNeed :
    common.findPatron 77 = some 3 ∧ common.patronAt 3 = some patron77 ∧ common.findPatron 99 = none ∧
      common.findTitle 9 = some 2 ∧ common.titleAt 2 = some title9 ∧ common.findTitle 50 = none ∧
      common.noticeNeed (.message 4 (.titleLoad ⟨false, 0, 0⟩ 9 1 65535)) = 4 ∧
      common.noticeNeed (.request .renewAll [77]) = 2 := by decide +kernel

theorem witness_EntrySent :
    let s : State := { up with link := { up.link with sending := true, outbound := [.confirm 0 16 .ok []] } }
    s.settled ∧ s.link.sending = true ∧ s.link.outbound = .confirm 0 16 .ok [] :: [] := ⟨rfl, rfl, rfl⟩

theorem witness_WaitingRoom :
    let op := { opOf (.message 4 (.titleLoad ⟨false, 0, 0⟩ 9 1 255)) 0 with waiting := [.renewed 1 1 1 1] }
    let s : State := { up with engine := .waitingRoom op }
    let full : State := { s with link := { s.link with outbound := List.replicate 128 (.renewed 1 1 1 1) } }
    s.settled ∧ s.engine = .waitingRoom op ∧ s.link.outbound.length + op.reservation < 128 ∧
      128 ≤ full.link.outbound.length + op.reservation := ⟨rfl, rfl, by decide +kernel, by decide +kernel⟩

/-- A waiting BALANCE behind an unsent one of its patron, which is not the entry being sent. -/
theorem witness_WaitingCoalesces :
    let n : Notice := .balance 77 5 0 false
    let op := { opOf (.tagExpiry 0) 0 with waiting := [n] }
    let s : State := { up with
      engine := .waitingRoom op
      link := { up.link with sending := true, outbound := [.balance 77 1 0 false, .balance 77 2 0 false] } }
    s.settled ∧ s.link.outbound = [.balance 77 1 0 false] ++ .balance 77 2 0 false :: [] ∧
      n.sameSubject (.balance 77 2 0 false) = true ∧ (∀ m ∈ up.link.unsent, n.sameSubject m = false) ∧
      ∃ t, exec (.waitingRoomPost []) s = .next t ∧
        t.link.outbound = [.balance 77 1 0 false, .balance 77 5 0 false] :=
  ⟨rfl, rfl, rfl, by decide +kernel, _, rfl, rfl⟩

def faulty : State :=
  { up with faults := { up.faults with first := some ⟨.staleReply, .engine, .empty⟩, owed := true, reported := false } }

theorem witness_FaultsAndOwed :
    faulty.faults.owed = true ∧ faulty.faults.first = some ⟨.staleReply, .engine, .empty⟩ ∧ 0 < faulty.roomForOthers ∧
      State.reset.faults.first = none := by decide +kernel

theorem witness_OwedLaneState :
    let s := up.setLane 3 { (.powerOn : LaneUnit) with stateOwed := true }
    let full : State := { s with link := { s.link with outbound := List.replicate 128 (.renewed 1 1 1 1) } }
    (s.lane 3).stateOwed = true ∧ s.link.coalesce ((s.lane 3).stateNotice 3) = none ∧ 0 < s.roomForOthers ∧
      full.link.coalesce ((full.lane 3).stateNotice 3) = none ∧ full.roomForOthers = 0 := by decide +kernel

/-! ## Witnesses: resets and the scrubber -/

theorem witness_WarmReset :
    let s : State := { common with arbiter := ⟨4, true, true⟩ }
    s.arbiter.resetDue = true ∧ s.canonical ∧ s.sweep.state = .idle ∧
      ({ s with sweep := { s.sweep with state := .holds } } : State).sweep.state ≠ .idle :=
  ⟨rfl, ⟨rfl, rfl, rfl, rfl, rfl, nofun⟩, rfl, nofun⟩

theorem witness_Scrub :
    let s : State := { common with scrub := 3 }
    s.settled ∧ s.upsets = [] ∧ s.engine = .free ∧ s.isDamaged (scrubTarget s.scrub) = false ∧ s.scrub < 8192 ∧
      s.patronAt s.scrub = some patron77 := ⟨rfl, rfl, rfl, by decide +kernel, by decide, rfl⟩

/-- A FREE slot and an occupied one of each table, a pool slot that a queue names, and a tag that is out. -/
theorem witness_ScrubDamage :
    common.canonical ∧ scrubTarget 0 = ⟨.patron, 0⟩ ∧ Tbl.lookup common.patrons 0 = none ∧
      scrubTarget 8192 = ⟨.loan, 0⟩ ∧ Tbl.lookup common.loans 0 = none ∧ scrubTarget 8196 = ⟨.loan, 4⟩ ∧
      common.loanAt 4 = some loan4 ∧ scrubTarget 24578 = ⟨.title, 2⟩ ∧ scrubTarget 26629 = ⟨.pool, 5⟩ ∧
      common.titleAt 2 = some title9 ∧ (∃ i ∈ title9.queue, i.slot = 5) ∧ scrubTarget 34815 = ⟨.pool, 8191⟩ ∧
      (∀ i ∈ title9.queue, i.slot ≠ 8191) ∧ scrubTarget 34847 = ⟨.tag, 31⟩ ∧
      (common.setTag 31 ⟨.outstanding, 15, false, none, 15⟩).canonical ∧ (common.tags.get 31).state = .free ∧
      Tbl.lookup (common.setTitle 0 (.damaged 55)).titles 0 = some (.damaged 55) :=
  ⟨⟨rfl, rfl, rfl, rfl, rfl, nofun⟩, by decide +kernel, rfl, by decide +kernel, rfl, by decide +kernel, rfl, by decide +kernel,
    by decide +kernel, rfl, by decide, by decide +kernel, by decide, by decide +kernel, ⟨rfl, rfl, rfl, rfl, rfl, nofun⟩,
    by decide +kernel, rfl⟩

/-- A record of each table that has an index. -/
theorem witness_Unreadable :
    (∀ code, (hold common (.request code [77]) 0).findPatron 77 = some 3) ∧ (common.patronAt 3).isSome = true ∧
      (scrubTarget 3 = ⟨.patron, 3⟩ ∧ indexTable .patron = some .patronIndex ∧ common.isDamaged ⟨.patron, 3⟩ = false) ∧
      (scrubTarget 8196 = ⟨.loan, 4⟩ ∧ indexTable .loan = some .copyIndex ∧ common.isDamaged ⟨.loan, 4⟩ = false) ∧
      (scrubTarget 24578 = ⟨.title, 2⟩ ∧ indexTable .title = some .titleIndex ∧ common.isDamaged ⟨.title, 2⟩ = false) ∧
      (scrubTarget 34816 = ⟨.tag, 0⟩ ∧ indexTable .tag = some .tagMap ∧ common.isDamaged ⟨.tag, 0⟩ = false) :=
  ⟨fun _ => rfl, rfl, by decide +kernel⟩

/-- Patron slot 3 and its place unreadable: the holds of patron 77 give the id back, and then those of nobody. -/
theorem test_patron_id_recovered :
    common.unplacedId Hold.patron [] = some 77 ∧ common.unplacedId Hold.patron [77, 78] = none ∧
      common.loanNames 3 = true ∧ common.loanNames 5 = false := by decide +kernel

/-- An allocation whose read of tag record 0 loses the number goes on to number 1, whose map entry it corrects. -/
theorem test_allocation_goes_on :
    let s : State := { State.reset with upsets := [⟨⟨.tag, 0⟩, 0, true⟩, ⟨⟨.tagMap, 0⟩, 1, true⟩, ⟨⟨.tagMap, 1⟩, 0, false⟩] }
    s.readFreeTag.freeTag = some 1 ∧ s.readFreeTag.upsets = [] ∧ s.readFreeTag.faults.corrected = 1 ∧
      (s.readFreeTag.tags.get 0).state = .damaged := by decide +kernel

/-- Title 13 is lost with its place while the titles are read for the only entry that names it, itself unreadable: no
readable entry carries the id, and both slots are FREE (R186). -/
theorem test_lost_entry_gives_no_id :
    let s : State := { State.reset with
      titles := [(1, .resident ⟨13, 0, [⟨7, 77⟩], 1, 0⟩)], pool := [(7, .entry ⟨77, 13, 1, 0, .waiting⟩)]
      upsets := [⟨⟨.pool, 7⟩, 0, true⟩, ⟨⟨.title, 1⟩, 0, true⟩, ⟨⟨.titleIndex, 1⟩, 0, true⟩] }
    (s.readPool 7).titles = [] ∧ (s.readPool 7).pool = [] ∧ (s.readPool 7).upsets = [] := by decide +kernel

/-! ## Witnesses: the sweep and the tags -/

/-- A DAMAGED loan slot without an id stands before the loan of a patron and in its list; then the patron is gone. -/
theorem witness_LoansStepForgets :
    let s := (library { patron77 with loans := [1, 4] } loan4 title9 hold5).setLoan 1 (.damaged 0)
    Tbl.lookup s.loans 1 = some (.damaged 0) ∧ (∀ m, m < 4 → s.loanAt m = none) ∧ s.loanAt 4 = some loan4 ∧
      (s.patronAt loan4.patronSlot).isSome = true ∧ (s.freePatron 3).patronAt loan4.patronSlot = none := by decide +kernel

/-- The step takes that slot out of the table and of the list, and evaluates the loan behind it. -/
theorem test_loans_step_forgets :
    let t := ((library { patron77 with loans := [1, 4] } loan4 title9 hold5).setLoan 1 (.damaged 0)).loansStepWork
    Tbl.lookup t.loans 1 = none ∧ (t.patronAt 3).map Patron.loans = some [4] ∧ t.sweep.cursor = 5 := by decide +kernel

/-- A lookup reads the index places up to the slot it finds, and all of them when it finds none (R185). -/
theorem test_search_reads_places :
    let single (n : Nat) : Flip := ⟨⟨.patronIndex, n⟩, 0, false⟩
    let s : State := { common with upsets := [single 1, single 3, single 9] }
    (s.lookUpPatron 77).upsets = [single 9] ∧ (s.lookUpPatron 77).faults.corrected = 2 ∧
      (s.lookUpPatron 99).upsets = [] ∧ s.readFreePatron.upsets = s.upsets := by decide +kernel

/-- A loan at C, one behind it, and none left. -/
theorem witness_LoansStep :
    let s : State := { common with sweep := { common.sweep with state := .loans } }
    let next : State := { s with calendar := ⟨1, []⟩ }
    (∀ m, m < 4 → s.loanAt m = none) ∧ s.loanAt 4 = some loan4 ∧ s.patronAt loan4.patronSlot = some patron77 ∧
      loan4.charged = s.calendar.closeDay ∧ loan4.charged < next.calendar.closeDay ∧ State.reset.loans = [] := by
  decide +kernel

/-- Chapter 04's worked case of five days closed after an outage: the patron's balance, and the loan of title 9. -/
def outage (balance accrued threshold : Nat) : State :=
  { library { patron77 with balance := balance } ⟨900, 9, 3, 2, 1000, 0, 0, 1000, accrued⟩ title9 hold5 with
    calendar := ⟨1005, [(1001, .open_), (1002, .closed), (1003, .open_), (1004, .open_), (1005, .open_)]⟩
    schedule := ⟨Vector.replicate 8 ⟨25, 2, 300, 21, 3, 10, threshold⟩, Vector.replicate 8 ⟨50, 2000, 10⟩, ⟨7, 20⟩⟩ }

/-- Under pressure, without it, at the item cap, and at the ceiling, with the figures the case gives. -/
theorem witness_Evaluation :
    (outage 400 0 1).upsets = [] ∧
      ((outage 400 0 1).evaluate 4).2 = ⟨5, 2, 50, 50, 0⟩ ∧
      (((outage 400 0 0).evaluate 4).1.patronAt 3).map Patron.balance = some 426 ∧
      ((outage 400 290 1).evaluate 4).2 = ⟨5, 2, 10, 10, 0⟩ ∧
      ((outage 999990 0 1).evaluate 4).2 = ⟨5, 2, 50, 9, 41⟩ ∧
      ((outage 999990 0 1).evaluate 4).1.faults.has .balanceCeiling = true ∧
      (((outage 400 0 1).evaluate 4).1.loanAt 4).map Loan.overdue = some 4 := by decide +kernel

/-- The catch-up of that loan: it stands at C with the figures of its walk, and the balance has taken the fine up to the
ceiling. -/
theorem witness_CatchUpEvaluates :
    let s := outage 999990 0 1
    (s.loanAt 4).map Loan.charged = some 1000 ∧ s.calendar.closeDay = 1005 ∧ (s.loanAt 7).map Loan.patronSlot = some 2 ∧
      ((s.catchUp 3).loanAt 4).map (fun l => (l.charged, l.overdue, l.accrued)) = some (1005, 4, 50) ∧
      ((s.catchUp 3).patronAt 3).map Patron.balance = some 999999 := by decide +kernel

/-- A catch-up that charges 50 cents: within a RENEW, and within an ACCOUNT with room, with an unsent BALANCE to update,
and with neither. One that charges nothing is `common`'s. -/
theorem witness_CatchUpBalance :
    let s := hold (outage 400 0 1) (.request .renew [77, 900]) 2
    let a := hold (outage 400 0 1) (.request .account [77]) 0
    let queue (q : List Notice) : State := { a with link := { a.link with outbound := q } }
    let full := queue (List.replicate 128 (.renewed 1 1 1 1))
    let waiting := queue (.balance 77 400 100 false :: List.replicate 127 (.renewed 1 1 1 1))
    let n : Notice := .balance 77 450 100 false
    ((s.catchUp 3).patronAt 3).map Patron.balance = some 450 ∧ s.balanceIsOptional = false ∧
      n ∈ (s.catchUp 3).link.outbound ∧ a.balanceIsOptional = true ∧ 0 < a.roomForOthers ∧
      (a.catchUp 3).faults = a.faults ∧ full.roomForOthers = 0 ∧ full.link.coalesce n = none ∧
      waiting.roomForOthers = 0 ∧ waiting.link.coalesce n ≠ none ∧ (common.catchUp 3).patronAt 3 = some patron77 := by
  decide +kernel

/-- A RETURN whose evaluation charges, and one whose evaluation does not. -/
theorem witness_ReturnBalance :
    let s := outage 400 0 1
    (s.loanAt 4).isSome = true ∧ (s.loanAt 4).map Loan.charged = some 1000 ∧ s.calendar.closeDay = 1005 ∧
      ((s.loanAt 4).bind fun l => (s.patronAt 3).map fun p => (s.walkLoan l p).balanceAdded) = some 50 ∧
      (common.walkLoan loan4 patron77).balanceAdded = 0 := by decide +kernel

theorem witness_HoldsStep :
    (∀ m, m < 2 → common.titleAt m = none) ∧ common.titleAt 2 = some title9 ∧ common.dueChange title9 = none ∧
      common.titleAt 3 = some ⟨11, 1, [], 0, 0⟩ ∧ common.dueChange ⟨11, 1, [], 0, 0⟩ = none := by decide +kernel

/-- A day just come and one just ahead, a deadline at C, and a DAMAGED entry. -/
theorem witness_HoldsStepWork :
    let with5 (st : HoldState) := library patron77 loan4 title9 { hold5 with state := st }
    (with5 (.suspended 1)).dueChange title9 = some (.resume ⟨5, 77⟩ { hold5 with state := .suspended 1 }) ∧
      (with5 (.suspended 2)).dueChange title9 = none ∧
      (with5 (.ready 0 none)).dueChange title9 = some (.expire ⟨5, 77⟩ { hold5 with state := .ready 0 none }) ∧
      (common.setPool 5 .damaged).dueChange title9 = some (.remove ⟨5, 77⟩) := by decide +kernel

/-- The notices of a change, within an operation that has entries reserved: a resumption behind a WAITING entry, with an
empty shelf and with a copy on it; an expiry that traps the next entry, and one that reaches a shelf below 255 and at it; a
removal. -/
theorem witness_HoldsStepNotices :
    let second : Title := { title9 with queue := [⟨6, 78⟩, ⟨5, 77⟩] }
    let suspended : Hold := { hold5 with state := .suspended 1 }
    let ready : Hold := { hold5 with state := .ready 0 none }
    let from' (t : Title) (h : Hold) := hold (library patron77 loan4 t h) .holdsStep 8
    let after (t : Title) (h : Hold) (c : Change) := ((from' t h).makeChange 2 9 c).link.outbound
    let alone (shelf : Nat) : Title := ⟨9, shelf, [⟨5, 77⟩], 0, 1⟩
    (from' second suspended).engine = .busy (opOf .holdsStep 8) ∧ (from' second suspended).upsets = [] ∧
      after second suspended (.resume ⟨5, 77⟩ suspended) = [.holdChange 9 77 .waiting 2] ∧
      after { second with shelf := 1 } suspended (.resume ⟨5, 77⟩ suspended) =
        [.holdChange 9 77 .waiting 2, .trapped 9 77 1 8 none none] ∧
      after title9 ready (.expire ⟨5, 77⟩ ready) =
        [.holdChange 9 77 .expired 0, .trapped 9 78 1 8 none (some 1)] ∧
      after (alone 254) ready (.expire ⟨5, 77⟩ ready) =
        [.holdChange 9 77 .expired 0, .copyReleased 9 none (some 1) 255] ∧
      (after (alone 255) ready (.expire ⟨5, 77⟩ ready)).getLast? = some (.copyReleased 9 none (some 1) 255) ∧
      after title9 hold5 (.remove ⟨5, 77⟩) = [.holdChange 9 77 .lost 0] := by decide +kernel

theorem witness_ClosingStep (r : Nat) :
    Granted (hold strangers .holdsStep r) (opOf .holdsStep r) .quiet ∧
      ∀ n, (hold strangers .holdsStep r).sweep.cursor ≤ n → (hold strangers .holdsStep r).titleAt n = none :=
  ⟨granted_strangers _ _, fun _ _ => rfl⟩

theorem witness_TagExpiry :
    (authorising.tags.get 31).asked = some ⟨.cardAuth, 77, 100, some ⟨2, 1, 0⟩, none, 20⟩ ∧
      authorising.findPatron 77 = some 3 ∧ authorising.patronAt 3 = some patron77 := by decide +kernel

/-- The same number DAMAGED: patron 77's pending credit has no reserve left to stand for. -/
theorem witness_DamagedExpiry :
    let s := authorising.setTag 31 ⟨.damaged, 15, false, none, 15⟩
    (s.tags.get 31).state = .damaged ∧ s.patronAt 3 = some patron77 ∧ patron77.pending ≠ s.reserves 77 ∧
      s.reserves 77 = 0 ∧ Tbl.lookup strangers.patrons 0 = some (.fetching 91 0 ⟨0, 1⟩) := by decide +kernel

/-! ## Witnesses: lanes -/

theorem witness_LaneControl (l : Lane) (action : Nat) :
    let m := Message.laneControl l.val action
    Performs (hold common (.message m.kind m) 4) (opOf (.message m.kind m) 4) .quiet m := performs_common _ _

/-- An announcement that updates an unsent LANE_STATE behind the one being sent, one that takes a free entry, and one that
is owed. -/
theorem witness_Announce :
    let news : Notice := .laneState 3 .detached .carrierLost 0 0
    let other : Notice := .laneState 3 .active .attached 1 15
    let queued (q : List Notice) : State := { up with link := { up.link with sending := true, outbound := q } }
    (queued [other, other]).link.unsent = [] ++ other :: [] ∧
      ((queued [other, other]).announce 3).link.outbound = [other, news] ∧
      ((queued [other]).announce 3).link.outbound = [other, news] ∧
      (((queued (List.replicate 128 (.renewed 1 1 1 1))).announce 3).lane 3).stateOwed = true := by decide +kernel

/-- An ACTIVE lane whose exchange is in WORKING with a station holding, and messages no lane or action answers to. -/
theorem witness_LaneControlClosing :
    let s := State.reset.setLane 2 { (.powerOn : LaneUnit) with
      life := .active, roll := 15, exchange := some ⟨1, .working .granted, some .poll, 0, []⟩, held := 12 }
    (∃ k, (ExchangeStep.working .granted) = .working k) ∧ (s.lane 2).closingCall = none ∧
      StationSet.lowest (s.lane 2).held = some 2 ∧ (opOf (.message 12 (.laneControl 16 0)) 4).answer = none ∧
      (opOf (.message 12 (.laneControl 16 0)) 4).handed = [] ∧ 15 < 16 ∧ 2 < 3 :=
  ⟨⟨_, rfl⟩, by decide +kernel⟩

theorem witness_Speaks (step : ExchangeStep) (code : Option ReqCode) :
    Speaks (speaking step code) 2 ⟨1, step, code, 2, []⟩ := ⟨rfl, rfl, rfl, rfl⟩

/-- The first and the last code and count, an amount at its top and above it. -/
theorem witness_Request :
    reqCodeOf 0 = none ∧ reqCodeOf 1 = some .account ∧ reqCodeOf 11 = some .poll ∧ reqCodeOf 12 = none ∧
      ReqCode.placeHold.allows 3 = true ∧ ReqCode.placeHold.allows 4 = true ∧ ReqCode.placeHold.allows 5 = false ∧
      fieldAccepted .payCash 2 6 999999 = true ∧ fieldAccepted .payCash 2 6 1000000 = false ∧
      fieldAccepted .payCash 2 5 1 = false := by decide +kernel

/-- An idle lane, and one that offers station 1 its notice. -/
theorem witness_CallsAndOffers :
    let u : LaneUnit := { (.powerOn : LaneUnit) with life := .active, roll := 7 }
    let n : StationNotice := ⟨.cardResult, 77, 100, .ok, 31, false⟩
    let offering := { u.mapStation 1 fun y => { y with stack := [n] } with offer := .offered ⟨1, n, false⟩ }
    u.exchange = none ∧ u.offer = .none ∧ StationSet.has u.roll 2 = true ∧ StationSet.has u.roll 3 = false ∧
      (offering.stations.get 1).stack = [] ++ n :: [] ∧ n.deferred = false ∧ offering.offerTo = some (1, n) ∧
      StationSet.lowest u.held = none ∧ StationSet.lowest 12 = some 2 := by decide +kernel

/-- Both answers to an offer whose notice a POLL has taken, and the lanes on which a word is out of place. -/
theorem witness_OffersAndWords :
    let o : Offering := ⟨1, ⟨.cardResult, 77, 100, .ok, 31, false⟩, true⟩
    let u : LaneUnit := { (.powerOn : LaneUnit) with life := .active, roll := 7, offer := .noticeSent o }
    o.taken = true ∧ u.offer = .noticeSent o ∧ u.offer ≠ .none ∧ u.isAttached = true ∧
      (.powerOn : LaneUnit).isAttached = false := by decide +kernel

/-- A LANE_CLOSING final of station 2 while the exchange of station 1 is in WORKING. -/
theorem witness_HaltWhileClosing :
    let s := State.reset.setLane 2 { (.powerOn : LaneUnit) with
      life := .quiescing, roll := 15, exchange := some ⟨1, .working .granted, some .poll, 0, []⟩, closingCall := some 2 }
    s.settled ∧ (s.lane 2).isAttached = true ∧ (s.lane 2).closingCall = some 2 ∧ (3 : Station) ≠ 1 ∧
      (s.lane 2).closingCall ≠ some 3 := ⟨rfl, rfl, rfl, by decide, by decide +kernel⟩

/-- A QUIESCING lane with a call to be held, with a LANE_CLOSING final open and its results kept, with another call held
then, and with none. -/
theorem witness_Quiescing :
    let u : LaneUnit := { (.powerOn : LaneUnit) with
      life := .quiescing, roll := 15, exchange := some ⟨1, .working .granted, some .poll, 0, []⟩ }
    let a : Answer := ⟨[.num 1], .ok⟩
    u.closingCall = none ∧ StationSet.lowest (StationSet.add u.held 3) = some 3 ∧ StationSet.lowest u.held = none ∧
      StationSet.lowest ({ u with held := 12, closingCall := some 0 } : LaneUnit).held = some 2 ∧
      (∀ k, ExchangeStep.called ≠ .working k) ∧ a.fields = .num 1 :: [] ∧
      ExchangeStep.working (.answered a true) = .working (.answered a true) ∧
      (⟨[], .interrupted true⟩ : Answer).fields = [] :=
  ⟨rfl, by decide +kernel, by decide +kernel, by decide +kernel, nofun, rfl, rfl, rfl⟩

/-- A word of each kind that no step but its own awaits. -/
theorem witness_Words (l : Lane) (st : Station) (v : BitVec 32) :
    isWord l st (.call l st) ∧ isWord l st (.defer l st) ∧ isWord l st (.wordCheckFailure l (.outOfPlace st)) ∧
      isWord l st (.req l st 1 1) ∧ isWord l st (.field l st 1 1 v) ∧
      ExchangeStep.called.awaits (.accept l st) = false ∧ ExchangeStep.begun.awaits (.stop l st) = false ∧
      (ExchangeStep.collecting 1).awaits (.accept l st) = false ∧
      (ExchangeStep.results 1 [] .ok).awaits (.req l st 1 1) = false ∧
      (ExchangeStep.closing .ok).awaits (.field l st 1 1 v) = false ∧
      (ExchangeStep.working .granted).awaits (.accept l st) = false :=
  ⟨.inl (by simp), .inl (by simp), .inl (by simp), .inr (.inl ⟨1, 1, rfl⟩), .inr (.inr ⟨1, 1, v, rfl⟩), rfl, rfl, rfl, rfl,
    rfl, rfl⟩

end Sys2Proof.Tests
end

section
/-! PROOF. Every command answers; power-on and the conditions that its state meets (R12). -/

namespace Sys2Proof.Machine

/-- Settles O2: every row of the dispatch is a `.next`. -/
theorem everyCommandAnswersANextState : Obligations.EveryCommandAnswersANextState := by
  intro c s
  cases c <;> exact ⟨_, rfl⟩

/-! ## The tables of equal entries at power-on -/

theorem State.reset_tag (n : Fin 32) : State.reset.tags.get n = .powerOn := by simp [State.reset, vector_get]

theorem State.reset_lane (l : Lane) : State.reset.lane l = .powerOn := by simp [State.reset, State.lane, vector_get]

theorem LaneUnit.powerOn_station (st : Station) : LaneUnit.powerOn.stations.get st = .clear := by
  simp [LaneUnit.powerOn, vector_get]

theorem Schedule.powerOn_class (n : Fin 8) : Schedule.powerOn.classes.get n = .powerOn := by
  simp [Schedule.powerOn, vector_get]

theorem Schedule.powerOn_category (n : Fin 8) : Schedule.powerOn.categories.get n = .powerOn := by
  simp [Schedule.powerOn, vector_get]

theorem State.reset_questions : State.reset.questions = [] := by
  refine List.filterMap_eq_nil_iff.mpr fun t ht => ?_
  obtain rfl : t = .powerOn := List.eq_of_mem_replicate (n := 32) (by simpa [State.reset] using ht)
  rfl

/-- With no mark stored no day counts as closed (R37). -/
theorem Calendar.isClosed_unmarked (closeDay d : Nat) : Calendar.isClosed ⟨closeDay, []⟩ d = false := by
  simp [Calendar.isClosed, Tbl.lookup]

/-- Settles O3: POWER_ON answers the reset state with the waiting commands kept. -/
theorem powerOnSetsEveryField : Obligations.PowerOnSetsEveryField := by
  intro s
  refine ⟨_, rfl, rfl, rfl, rfl, rfl, rfl, rfl, rfl, rfl, fun _ => rfl, Calendar.isClosed_unmarked 0,
    fun n => ⟨Schedule.powerOn_class n, Schedule.powerOn_category n⟩, rfl, rfl, State.reset_tag, rfl, fun l => ?_,
    rfl, rfl, rfl, rfl, rfl, rfl, rfl⟩
  rw [show ({ State.reset with pending := s.pending } : State).lane l = .powerOn from State.reset_lane l]
  exact ⟨rfl, rfl, rfl, rfl, rfl, rfl, rfl, rfl, rfl, rfl, rfl, LaneUnit.powerOn_station⟩

/-- Settles O9: at reset every table, queue and line is empty, the engine FREE, every tag FREE and every lane cleared. -/
theorem resetMeetsTheInvariants : Obligations.ResetMeetsTheInvariants := by
  refine ⟨⟨rfl, rfl, rfl, rfl, rfl, nofun⟩, ⟨by decide, by decide, by decide, nofun, .nil⟩, ⟨⟨rfl, rfl, rfl, rfl⟩, trivial⟩,
    ⟨.nil, nofun, fun n => ?_⟩, fun l _ => ?_, ⟨rfl, nofun, fun n => ?_, nofun⟩, ⟨fun l st => ?_, nofun⟩, fun l st _ => ?_⟩
  · rw [State.reset_tag]
    exact ⟨nofun, nofun⟩
  · rw [State.reset_lane]
    exact ⟨rfl, rfl, rfl, rfl⟩
  · rw [State.reset_tag]
    exact nofun
  · dsimp only
    rw [State.reset_lane, LaneUnit.powerOn_station]
    exact ⟨by decide, nofun⟩
  · exact ⟨by simp only [State.parkedAt, State.reset_questions]; rfl, rfl⟩

end Sys2Proof.Machine
end

section
/-! PROOF. The outbound queue and its unsent entries (R180, R181): two notices of one subject, a merge into an unsent
entry, an entry appended, and the merge after a line drop. -/

namespace Sys2Proof.Machine

/-! ## Notices of one subject -/

/-- What a notice that can be merged is about: a patron or a lane (R181). -/
def Notice.subject : Notice → Option (Nat ⊕ Lane)
  | .balance patron _ _ _ => some (.inl patron)
  | .laneState lane _ _ _ _ => some (.inr lane)
  | _ => none

theorem Notice.sameSubject_iff (a b : Notice) :
    a.sameSubject b = true ↔ a.subject = b.subject ∧ a.subject ≠ none := by
  cases a <;> cases b <;> simp [Notice.sameSubject, Notice.subject]

theorem Notice.sameSubject_comm (a b : Notice) : a.sameSubject b = b.sameSubject a := by
  rw [Bool.eq_iff_iff, Notice.sameSubject_iff, Notice.sameSubject_iff]
  constructor <;> rintro ⟨e, some_⟩ <;> exact ⟨e.symm, e ▸ some_⟩

/-- Notices of one subject agree on what they share a subject with. -/
theorem Notice.sameSubject_congr {a b : Notice} (h : a.sameSubject b = true) (c : Notice) :
    a.sameSubject c = b.sameSubject c := by
  obtain ⟨e, -⟩ := (Notice.sameSubject_iff a b).mp h
  rw [Bool.eq_iff_iff, Notice.sameSubject_iff, Notice.sameSubject_iff, e]

/-! ## Queues with one entry for each subject -/

/-- No two entries of a queue are of one subject (R126, R181). -/
def distinctSubjects (q : List Notice) : Prop := q.Pairwise fun a b => a.sameSubject b = false

/-- A merge keeps the queue's length and its subjects. -/
theorem coalesceIn_subjects {n : Notice} {q r : List Notice} (h : coalesceIn n q = some r) :
    r.length = q.length ∧ ∀ a : Notice, (∀ b ∈ q, a.sameSubject b = false) → ∀ b ∈ r, a.sameSubject b = false := by
  induction q generalizing r with
  | nil => cases h
  | cons old rest ih =>
    simp only [coalesceIn] at h
    split at h
    · rename_i same
      cases h
      refine ⟨rfl, fun a ha b hb => ?_⟩
      rcases List.mem_cons.mp hb with rfl | hb
      · rw [Notice.sameSubject_comm, Notice.sameSubject_congr same, Notice.sameSubject_comm]
        exact ha old List.mem_cons_self
      · exact ha b (List.mem_cons_of_mem _ hb)
    · obtain ⟨r', hr, rfl⟩ := Option.map_eq_some_iff.mp h
      obtain ⟨len, subjects⟩ := ih hr
      refine ⟨by simp [len], fun a ha b hb => ?_⟩
      rcases List.mem_cons.mp hb with rfl | hb
      · exact ha b List.mem_cons_self
      · exact subjects a (fun c hc => ha c (List.mem_cons_of_mem _ hc)) b hb

theorem distinctSubjects.coalesceIn {n : Notice} {q r : List Notice} (hq : distinctSubjects q)
    (h : coalesceIn n q = some r) : distinctSubjects r := by
  unfold distinctSubjects at *
  induction q generalizing r with
  | nil => cases h
  | cons old rest ih =>
    obtain ⟨hold, hrest⟩ := List.pairwise_cons.mp hq
    simp only [Sys2Proof.Machine.coalesceIn] at h
    split at h
    · rename_i same
      cases h
      exact List.pairwise_cons.mpr ⟨fun b hb => (Notice.sameSubject_congr same b).trans (hold b hb), hrest⟩
    · obtain ⟨r', hr, rfl⟩ := Option.map_eq_some_iff.mp h
      exact List.pairwise_cons.mpr ⟨(coalesceIn_subjects hr).2 old hold, ih hrest hr⟩

/-- A notice that finds no entry of its subject leaves the subjects distinct at the end of the queue. -/
theorem distinctSubjects.append {n : Notice} {q : List Notice} (hq : distinctSubjects q)
    (h : ∀ b ∈ q, n.sameSubject b = false) : distinctSubjects (q ++ [n]) := by
  refine List.pairwise_append.mpr ⟨hq, List.pairwise_singleton _ _, fun a ha b hb => ?_⟩
  obtain rfl := List.mem_singleton.mp hb
  rw [Notice.sameSubject_comm]
  exact h a ha

theorem coalesceIn_none {n : Notice} {q : List Notice} (h : coalesceIn n q = none) :
    ∀ b ∈ q, n.sameSubject b = false := by
  induction q with
  | nil => exact fun b hb => absurd hb List.not_mem_nil
  | cons old rest ih =>
    simp only [coalesceIn] at h
    split at h
    · cases h
    · rename_i other
      intro b hb
      rcases List.mem_cons.mp hb with rfl | hb
      · simpa using other
      · exact ih (by simpa using h) b hb

/-- The merge after a line drop: the head counts as unsent again, and a younger notice of its subject takes its place. -/
theorem distinctSubjects.mergeHead {n : Notice} {rest : List Notice} (h : distinctSubjects rest) :
    distinctSubjects (mergeHead (n :: rest)) := by
  simp only [distinctSubjects, Sys2Proof.Machine.mergeHead] at *
  split
  · rename_i y hy
    obtain ⟨same, before, after, rfl, other⟩ := List.find?_eq_some_iff_append.mp hy
    obtain ⟨hbefore, hafter, hacross⟩ := List.pairwise_append.mp h
    obtain ⟨hy, hafter⟩ := List.pairwise_cons.mp hafter
    have others : ∀ b ∈ before, b.sameSubject n = false := fun b hb => by simpa using other b hb
    rw [List.eraseP_append_right _ (by simpa using others), List.eraseP_cons_of_pos (p := fun y : Notice => y.sameSubject n) same]
    refine List.pairwise_cons.mpr ⟨fun b hb => ?_, List.pairwise_append.mpr ⟨hbefore, hafter, fun a ha b hb =>
      hacross a ha b (List.mem_cons_of_mem _ hb)⟩⟩
    rcases List.mem_append.mp hb with hb | hb
    · rw [Notice.sameSubject_comm]
      exact hacross b hb y List.mem_cons_self
    · exact hy b hb
  · rename_i free
    refine List.pairwise_cons.mpr ⟨fun b hb => ?_, h⟩
    rw [Notice.sameSubject_comm]
    simpa using List.find?_eq_none.mp free b hb

theorem mergeHead_length (q : List Notice) : (mergeHead q).length ≤ q.length := by
  unfold mergeHead
  split
  · rfl
  · rename_i n rest
    split
    · rename_i y hy
      have := List.length_eraseP_of_mem (List.mem_of_find?_eq_some hy) (p := fun y : Notice => y.sameSubject n)
        (List.find?_some (p := fun y : Notice => y.sameSubject n) hy)
      simp only [List.length_cons]
      omega
    · rfl

end Sys2Proof.Machine
end

section
/-! PROOF. The room of the link's queues (R3, R176, R178, R180): what keeps the link within it beside a reservation, and
that every post, fault, claim, search and completion does. -/

namespace Sys2Proof.Machine

/-! ## The link beside a reservation -/

/-- The condition of `State.withinRoom` on the link, beside so many reserved entries. -/
def Link.fits (k : Link) (reserved : Nat) : Prop :=
  k.outbound.length + reserved ≤ 128 ∧ k.inbound.length ≤ 64 ∧ k.sideList.length ≤ 8 ∧
    (k.sending = true → k.outbound ≠ [] ∧ k.up = true) ∧ distinctSubjects k.unsent

theorem State.withinRoom_iff (s : State) : s.withinRoom ↔ s.link.fits s.engine.reservation := Iff.rfl

theorem Link.fits.of_le {k : Link} {r r' : Nat} (h : k.fits r) (le : r' ≤ r) : k.fits r' := by
  obtain ⟨room, rest⟩ := h
  exact ⟨by omega, rest⟩

theorem Link.fits.room {k : Link} {r : Nat} (h : k.fits r) : k.outbound.length + r ≤ 128 := h.1

/-- A merge into an unsent entry. -/
theorem Link.fits.coalesce {k : Link} {r : Nat} {n : Notice} {q : List Notice} (h : k.fits r)
    (hq : k.coalesce n = some q) : ({ k with outbound := q } : Link).fits r := by
  obtain ⟨room, inbound, side, sending, distinct⟩ := h
  unfold Link.coalesce at hq
  unfold Link.unsent at distinct
  cases hs : k.sending with
  | false =>
    simp only [hs, Bool.false_eq_true, ↓reduceIte] at hq distinct
    have len := (coalesceIn_subjects hq).1
    exact ⟨by simpa [len] using room, inbound, side, by simp, by simpa [Link.unsent, hs] using distinct.coalesceIn hq⟩
  | true =>
    simp only [hs, ↓reduceIte] at hq distinct
    obtain ⟨-, up⟩ := sending hs
    cases ho : k.outbound with
    | nil => simp [ho] at hq
    | cons head rest =>
      simp only [ho] at hq room distinct
      obtain ⟨rest', hr, rfl⟩ := Option.map_eq_some_iff.mp hq
      have len := (coalesceIn_subjects hr).1
      exact ⟨by simpa [len] using room, inbound, side, fun _ => ⟨List.cons_ne_nil _ _, up⟩,
        by simpa [Link.unsent, hs] using distinctSubjects.coalesceIn distinct hr⟩

/-- A notice that merges with no entry, at the end of a queue with room. -/
theorem Link.fits.append {k : Link} {r r' : Nat} {n : Notice} (h : k.fits r) (hn : k.coalesce n = none)
    (room' : k.outbound.length + 1 + r' ≤ 128) : ({ k with outbound := k.outbound ++ [n] } : Link).fits r' := by
  obtain ⟨-, inbound, side, sending, distinct⟩ := h
  unfold Link.coalesce at hn
  unfold Link.unsent at distinct
  refine ⟨by simpa using room', inbound, side, fun hs => ⟨by simp, (sending hs).2⟩, ?_⟩
  cases hs : k.sending with
  | false =>
    simp only [hs, Bool.false_eq_true, ↓reduceIte] at hn distinct
    simpa [Link.unsent, hs] using distinct.append (coalesceIn_none hn)
  | true =>
    simp only [hs, ↓reduceIte] at hn distinct
    cases ho : k.outbound with
    | nil => exact absurd ho (sending hs).1
    | cons head rest =>
      simp only [ho, Option.map_eq_none_iff] at hn distinct
      simpa [Link.unsent, hs] using distinctSubjects.append distinct (coalesceIn_none hn)

theorem Link.fits.inbound {k : Link} {r : Nat} {q : List Place} (h : k.fits r) (len : q.length ≤ 64) :
    ({ k with inbound := q } : Link).fits r := by
  obtain ⟨room, -, rest⟩ := h
  exact ⟨room, len, rest⟩

theorem Link.fits.sideList {k : Link} {r : Nat} {q : List Nat} (h : k.fits r) (len : q.length ≤ 8) :
    ({ k with sideList := q } : Link).fits r := by
  obtain ⟨room, inbound, -, rest⟩ := h
  exact ⟨room, inbound, len, rest⟩

theorem distinctSubjects.tail {q : List Notice} (h : distinctSubjects q) : distinctSubjects q.tail :=
  h.sublist q.tail_sublist

/-- The head of the queue begins to be sent while the link is UP, and is not unsent then. -/
theorem Link.fits.startSending {k : Link} {r : Nat} (h : k.fits r) :
    ({ k with sending := k.up && !k.outbound.isEmpty } : Link).fits r := by
  obtain ⟨room, inbound, side, sending, distinct⟩ := h
  refine ⟨room, inbound, side, fun hs => by simp_all, ?_⟩
  unfold Link.unsent at *
  cases hk : k.sending with
  | true =>
    obtain ⟨some_, up⟩ := sending hk
    simpa [hk, up, some_] using distinct
  | false =>
    simp only [hk, Bool.false_eq_true, ↓reduceIte] at distinct
    dsimp only
    split
    · exact distinct.tail
    · exact distinct

/-- The entry being sent leaves the queue. -/
theorem Link.fits.sent {k : Link} {r : Nat} {n : Notice} {rest : List Notice} (h : k.fits r)
    (ho : k.outbound = n :: rest) (hs : k.sending = true) :
    ({ k with outbound := rest, sending := false } : Link).fits r := by
  obtain ⟨room, inbound, side, -, distinct⟩ := h
  rw [ho, List.length_cons] at room
  exact ⟨by simp only; omega, inbound, side, nofun, by simpa [Link.unsent, hs, ho] using distinct⟩

/-- The line drops: the entry being sent is unsent again, merged with a younger one of its subject (R181). -/
theorem Link.fits.drop {k : Link} {r : Nat} (h : k.fits r) :
    ({ k with
      up := false, sending := false, outbound := if k.sending then mergeHead k.outbound else k.outbound } : Link).fits r := by
  obtain ⟨room, inbound, side, -, distinct⟩ := h
  unfold Link.unsent at distinct
  cases hs : k.sending with
  | false => exact ⟨by simpa using room, inbound, side, nofun, by simpa [Link.unsent, hs] using distinct⟩
  | true =>
    have len := mergeHead_length k.outbound
    refine ⟨by simp only [↓reduceIte]; omega, inbound, side, nofun, ?_⟩
    cases ho : k.outbound with
    | nil => exact List.Pairwise.nil
    | cons n rest =>
      rw [hs, ho] at distinct
      exact distinctSubjects.mergeHead distinct

/-! ## Updates that leave the link or shorten its queues -/

theorem State.withinRoom.congr {s t : State} (h : s.withinRoom) (link : t.link = s.link)
    (reservation : t.engine.reservation ≤ s.engine.reservation) : t.withinRoom := by
  rw [State.withinRoom_iff] at *
  rw [link]
  exact h.of_le reservation

theorem SameButLanes.eq {s t : State} (h : SameButLanes s t) :
    ({ t with lanes := s.lanes, laneOut := s.laneOut } : State) = s := h

theorem SameButLanes.engine {s t : State} (h : SameButLanes s t) : t.engine = s.engine := (congrArg State.engine h.eq :)
theorem SameButLanes.link {s t : State} (h : SameButLanes s t) : t.link = s.link := (congrArg State.link h.eq :)
theorem SameButLanes.arbiter {s t : State} (h : SameButLanes s t) : t.arbiter = s.arbiter := (congrArg State.arbiter h.eq :)
theorem SameButLanes.tables {s t : State} (h : SameButLanes s t) : t.tables = s.tables := (congrArg State.tables h.eq :)

theorem SameButLanes.trans {s t u : State} (h : SameButLanes s t) (h' : SameButLanes t u) : SameButLanes s u :=
  (congrArg (fun x : State => ({ x with lanes := s.lanes, laneOut := s.laneOut } : State)) h'.eq :).trans h.eq

theorem SameButLanes.withinRoom {s t : State} (h : SameButLanes s t) (room : s.withinRoom) : t.withinRoom :=
  room.congr h.link (by rw [h.engine])

@[simp] theorem Engine.mapOp_reservation (f : Op → Op) (hf : ∀ op, (f op).reservation = op.reservation) (e : Engine) :
    (e.mapOp f).reservation = e.reservation := by
  cases e <;> simp [Engine.mapOp, Engine.reservation, hf]

theorem State.withinRoom.mapOp {s : State} (h : s.withinRoom) (f : Op → Op)
    (hf : ∀ op, (f op).reservation = op.reservation) : (s.mapOp f).withinRoom :=
  h.congr rfl (Engine.mapOp_reservation f hf s.engine).le

theorem State.withinRoom.startSending {s : State} (h : s.withinRoom) : s.startSending.withinRoom :=
  Link.fits.startSending h

theorem settleHead_length (q : List Place) : (settleHead q).length ≤ q.length := by
  unfold settleHead
  split
  · rfl
  · split <;> simp

theorem dropOverrun_length (q : List Place) : (dropOverrun q).length ≤ q.length := by
  unfold dropOverrun
  split
  · rfl
  · split <;> simp

theorem addOverrun_length (seq : Nat) (q : List Place) : (addOverrun seq q).length = q.length := by
  fun_induction addOverrun <;> simp_all

theorem State.withinRoom.settlePlace {s : State} (h : s.withinRoom) : s.settlePlace.withinRoom :=
  Link.fits.inbound h ((settleHead_length _).trans h.2.1)

/-! ## Posts -/

theorem State.withinRoom.merge {s : State} {n : Notice} {q : List Notice} (h : s.withinRoom)
    (hq : s.link.coalesce n = some q) : (s.setOutbound q).withinRoom := Link.fits.coalesce h hq

theorem State.withinRoom.append {s : State} {n : Notice} (h : s.withinRoom) (hn : s.link.coalesce n = none)
    (room : 0 < s.roomForOthers) : (s.append n).withinRoom := by
  obtain ⟨-, -, free⟩ := s.roomForOthers_pos.mp room
  exact Link.fits.append h hn (by simp only [State.append_engine]; omega)

theorem State.withinRoom.post {s : State} (h : s.withinRoom) (n : Notice) : (s.post n).withinRoom := by
  unfold State.post
  split
  · rename_i q hq
    exact h.merge hq
  · rename_i hn
    split
    · rename_i op busy
      have reserved : s.engine.reservation = op.reservation := by rw [busy]; rfl
      have full := Link.fits.room h
      split
      · exact h.mapOp _ fun _ => rfl
      · split
        · refine Link.fits.append (r' := op.reservation - 1) h hn (by omega) |>.of_le (le_of_eq ?_)
          simp [State.mapOp, State.append, State.setOutbound, busy, Engine.mapOp, Engine.reservation]
        · split
          · rename_i free
            refine Link.fits.append h hn ?_
            unfold State.freeEntries Config.outboundEntries at free
            simp only [State.append_engine]
            omega
          · exact h.mapOp _ fun _ => rfl
    · exact h

theorem State.withinRoom.postIfRoom {s : State} (h : s.withinRoom) (n : Notice) : (s.postIfRoom n).withinRoom := by
  unfold State.postIfRoom
  split
  · rename_i q hq
    exact h.merge hq
  · rename_i hn
    split
    · rename_i room
      exact h.append hn room
    · exact h

/-- A notice with no subject never merges. -/
theorem Link.coalesce_no_subject (k : Link) {n : Notice} (h : n.subject = none) : k.coalesce n = none :=
  Link.coalesce_none fun m _ => by
    by_contra same
    exact ((Notice.sameSubject_iff n m).mp (by simpa using same)).2 h

theorem State.withinRoom.append_no_subject {s : State} {n : Notice} (h : s.withinRoom) (hn : n.subject = none)
    (room : 0 < s.roomForOthers) : (s.append n).withinRoom := h.append (Link.coalesce_no_subject _ hn) room

theorem State.withinRoom.faults {s : State} (h : s.withinRoom) (f : FaultLog) :
    ({ s with faults := f } : State).withinRoom := h

theorem State.withinRoom.logFault {s : State} (h : s.withinRoom) (c : FaultClass) (src : Source) (ctx : Context) :
    (s.logFault c src ctx).withinRoom := by
  unfold State.logFault
  dsimp only
  split
  · exact h
  · split
    · rename_i room
      exact (h.faults _).append_no_subject rfl room
    · exact h

theorem State.withinRoom.announce {s : State} (h : s.withinRoom) (l : Lane) : (s.announce l).withinRoom := by
  rcases s.announce_cases l with ⟨q, hq, e⟩ | ⟨hn, ⟨room, e⟩ | ⟨-, e⟩⟩ <;> rw [e]
  · exact h.merge hq
  · exact h.append hn room
  · exact h

theorem State.withinRoom.announceByOp {s : State} (h : s.withinRoom) (l : Lane) : (s.announceByOp l).withinRoom :=
  h.post _

/-! ## The waiters of R182 -/

theorem State.withinRoom.postOwedFault {s : State} (h : s.withinRoom) : s.postOwedFault.withinRoom := by
  unfold State.postOwedFault
  split
  · split
    · rename_i room
      exact (h.faults _).append_no_subject rfl room
    · exact h
  · exact h

theorem State.withinRoom.postOwedLaneState {s : State} (h : s.withinRoom) (l : Lane) :
    (s.postOwedLaneState l).withinRoom := by
  unfold State.postOwedLaneState
  split
  · exact h.announce l
  · exact h

theorem State.withinRoom.confirmMarker {s : State} (h : s.withinRoom) : s.confirmMarker.withinRoom := by
  unfold State.confirmMarker
  split
  · split
    · rename_i free
      simp only [Bool.and_eq_true, decide_eq_true_eq] at free
      exact (h.append_no_subject rfl free.1.2).settlePlace
    · exact h
  · exact h

theorem State.withinRoom.confirmOverrun {s : State} (h : s.withinRoom) : s.confirmOverrun.withinRoom := by
  have inbound := (dropOverrun_length s.link.inbound).trans h.2.1
  unfold State.confirmOverrun
  split
  · split
    · split
      · rename_i free
        simp only [Bool.and_eq_true, decide_eq_true_eq] at free
        exact Link.fits.inbound (h.append_no_subject rfl free.2) inbound
      · split
        · rename_i side
          refine Link.fits.inbound (k := { s.link with sideList := s.link.sideList ++ _ }) (Link.fits.sideList h ?_) inbound
          simpa [Config.sideListPlaces] using side
        · exact h
    · exact h
  · exact h

theorem State.withinRoom.moveSideList {s : State} (h : s.withinRoom) : s.moveSideList.withinRoom := by
  unfold State.moveSideList
  split
  · rename_i seq rest side
    split
    · rename_i room
      have le := h.2.2.1
      rw [side, List.length_cons] at le
      exact Link.fits.sideList (h.append_no_subject rfl room) (by omega)
    · exact h
  · exact h

theorem State.withinRoom.claim {s : State} (h : s.withinRoom) (c : Claim) : (s.claim c).withinRoom := by
  cases c with
  | fault => exact h.postOwedFault
  | laneState l => exact h.postOwedLaneState l
  | overrun => exact h.confirmOverrun
  | sideList => exact h.moveSideList
  | marker => exact h.confirmMarker

theorem State.withinRoom.claimAll {s : State} (h : s.withinRoom) (cs : List Claim) : (s.claimAll cs).withinRoom := by
  unfold State.claimAll
  induction cs generalizing s with
  | nil => exact h
  | cons c cs ih => exact ih (h.claim c)

/-! ## The search and the grant -/

theorem SameButLanes.takeAnswer {s t : State} (h : SameButLanes s t) (l : Lane) (ex : Exchange) (a : Answer) (g : Bool) :
    SameButLanes s (t.takeAnswer l ex a g) := by
  unfold State.takeAnswer
  split
  · exact h
  · exact h.sendAnswer _ _ _

theorem SameButLanes.serviceLimited {s t : State} (h : SameButLanes s t) (p : Nat) : SameButLanes s (t.serviceLimited p) := by
  unfold State.serviceLimited
  split
  · dsimp only
    split
    · exact h.takeAnswer _ _ _ _
    · exact h
  · exact h

/-- A grant takes a reservation that the free entries hold (R6). -/
theorem State.withinRoom.grant {s : State} (h : s.withinRoom) (p : Nat) (k : OpKind)
    (room : s.noticeNeed k ≤ s.freeEntries) : (s.grant p k).withinRoom := by
  obtain ⟨full, rest⟩ := h
  unfold State.freeEntries Config.outboundEntries at room
  have link : (s.grant p k).link = s.link := s.markGranted_link p
  rw [State.withinRoom_iff, link]
  refine ⟨?_, rest⟩
  show s.link.outbound.length + s.noticeNeed k ≤ 128
  omega

theorem State.withinRoom.searchOver {s : State} (h : s.withinRoom) (ps : List Nat) : (s.searchOver ps).withinRoom := by
  induction ps generalizing s with
  | nil => exact h
  | cons p ps ih =>
    simp only [State.searchOver]
    split
    · exact ih h
    · split
      · rename_i room
        exact h.grant p _ room
      · split
        · exact ih (((SameButLanes.refl s).serviceLimited p).withinRoom h)
        · exact ih h

theorem State.withinRoom.search {s : State} (h : s.withinRoom) : s.search.withinRoom := by
  unfold State.search
  split
  · exact h.searchOver _
  · exact h

/-! ## Completion -/

theorem State.withinRoom.leaveQueue {s : State} (h : s.withinRoom) (op : Op) : (s.leaveQueue op).withinRoom := by
  unfold State.leaveQueue
  split
  · exact h.settlePlace
  · exact h.settlePlace
  · exact h

theorem State.withinRoom.free {s : State} (h : s.withinRoom) (a : Arbiter) :
    ({ s with engine := .free, arbiter := a } : State).withinRoom := h.congr rfl (Nat.zero_le _)

theorem State.withinRoom.finishOp {s : State} (h : s.withinRoom) (op : Op) (cs : List Claim) :
    (s.finishOp op cs).withinRoom := by
  have left := h.leaveQueue op
  have handed := (((SameButLanes.refl _).routeAnswer op).handNotices op.handed).withinRoom left
  unfold State.finishOp
  dsimp only
  split
  · exact left.free _
  · exact ((handed.free _).claimAll cs).search

theorem State.withinRoom.complete {s : State} (h : s.withinRoom) (cs : List Claim) : (s.complete cs).withinRoom := by
  unfold State.complete
  split
  · rename_i op busy
    split
    · exact h.finishOp op cs
    · exact h.congr rfl (by rw [busy]; rfl)
  · exact h

end Sys2Proof.Machine
end

section
/-! PROOF. What the work of an engine operation is made of: changes of the tables and the check bits, posts, faults,
counted traps, and a further kind of step that each family of operations names. Every shared operation of the engine is
shown once to be made of these; what an operation leaves alone then follows from what each of these steps leaves alone. -/

namespace Sys2Proof.Machine

/-- t is s but for the tables and the check bits. -/
def SameButTables (s t : State) : Prop :=
  ({ t with
    patrons := s.patrons, loans := s.loans, titles := s.titles, pool := s.pool, calendar := s.calendar,
    schedule := s.schedule, sweep := s.sweep, tags := s.tags, tagLine := s.tagLine, upsets := s.upsets } : State) = s

/-- The states that an operation can reach from s by such steps; `extra` are the further ones it takes. -/
inductive Works (extra : State → State → Prop) (s : State) : State → Prop where
  | refl : Works extra s s
  | tables {t u : State} (h : Works extra s t) (only : SameButTables t u) : Works extra s u
  | post {t : State} (h : Works extra s t) (n : Notice) : Works extra s (t.post n)
  | postIfRoom {t : State} (h : Works extra s t) (n : Notice) : Works extra s (t.postIfRoom n)
  | logFault {t : State} (h : Works extra s t) (c : FaultClass) (src : Source) (ctx : Context) :
      Works extra s (t.logFault c src ctx)
  | trapped {t : State} (h : Works extra s t) : Works extra s (t.mapOp fun op => { op with traps := op.traps + 1 })
  | extra {t u : State} (h : Works extra s t) (step : extra t u) : Works extra s u

namespace Works

/-- An operation that takes fewer kinds of steps takes these too. -/
theorem mono {K K' : State → State → Prop} {s t : State} (le : ∀ t u, K t u → K' t u) (h : Works K s t) :
    Works K' s t := by
  induction h with
  | refl => exact .refl
  | tables _ only ih => exact ih.tables only
  | post _ n ih => exact ih.post n
  | postIfRoom _ n ih => exact ih.postIfRoom n
  | logFault _ c src ctx ih => exact ih.logFault c src ctx
  | trapped _ ih => exact ih.trapped
  | extra _ step ih => exact ih.extra (le _ _ step)

variable {K : State → State → Prop} {s t : State}

theorem ite {p : Prop} [Decidable p] {u : State} (ht : Works K s t) (hu : Works K s u) :
    Works K s (if p then t else u) := by
  split
  · exact ht
  · exact hu

theorem foldl {α : Type} {f : State → α → State} (step : ∀ t a, Works K s t → Works K s (f t a)) (xs : List α)
    (h : Works K s t) : Works K s (xs.foldl f t) := by
  induction xs generalizing t with
  | nil => exact h
  | cons x xs ih => exact ih (step _ x h)

/-! ## The tables -/

theorem setPatron (h : Works K s t) (n : Nat) (r : PatronRec) : Works K s (t.setPatron n r) := h.tables rfl
theorem freePatron (h : Works K s t) (n : Nat) : Works K s (t.freePatron n) := h.tables rfl
theorem setLoan (h : Works K s t) (n : Nat) (r : LoanRec) : Works K s (t.setLoan n r) := h.tables rfl
theorem freeLoan (h : Works K s t) (n : Nat) : Works K s (t.freeLoan n) := h.tables rfl
theorem setTitle (h : Works K s t) (n : Nat) (r : TitleRec) : Works K s (t.setTitle n r) := h.tables rfl
theorem freeTitle (h : Works K s t) (n : Nat) : Works K s (t.freeTitle n) := h.tables rfl
theorem setPool (h : Works K s t) (n : Nat) (r : PoolRec) : Works K s (t.setPool n r) := h.tables rfl
theorem freePool (h : Works K s t) (n : Nat) : Works K s (t.freePool n) := h.tables rfl
theorem setTag (h : Works K s t) (n : Fin 32) (x : Tag) : Works K s (t.setTag n x) := h.tables rfl
theorem setSweep (h : Works K s t) (w : Sweep) : Works K s (t.setSweep w) := h.tables rfl
theorem mapCurrent (h : Works K s t) (f : Summary → Summary) : Works K s (t.mapCurrent f) := h.tables rfl
theorem putPatrons (h : Works K s t) (x : Tbl PatronRec) : Works K s (t.putPatrons x) := h.tables rfl
theorem putTitles (h : Works K s t) (x : Tbl TitleRec) : Works K s (t.putTitles x) := h.tables rfl
theorem putPool (h : Works K s t) (x : Tbl PoolRec) : Works K s (t.putPool x) := h.tables rfl
theorem toLineEnd (h : Works K s t) (n : Nat) : Works K s (t.toLineEnd n) := h.tables rfl
theorem allocateTag (h : Works K s t) (n : Fin 32) (kind : TagKind) (subject reserve : Nat) (o : Option Origin)
    (k : Option Parked) : Works K s (t.allocateTag n kind subject reserve o k) := h.tables rfl

theorem mapPatron (h : Works K s t) (n : Nat) (f : Patron → Patron) : Works K s (t.mapPatron n f) := by
  unfold State.mapPatron
  split
  · exact h.setPatron _ _
  · exact h

theorem mapTitle (h : Works K s t) (n : Nat) (f : Title → Title) : Works K s (t.mapTitle n f) := by
  unfold State.mapTitle
  split
  · exact h.setTitle _ _
  · exact h

theorem retireTag (h : Works K s t) (n : Nat) : Works K s (t.retireTag n) := by
  unfold State.retireTag
  split
  · exact h.tables rfl
  · exact h

theorem touchDay (h : Works K s t) (n : Nat) : Works K s (t.touchDay n) := by
  unfold State.touchDay
  split
  · exact h.setPatron _ _
  · exact h.setPatron _ _
  · exact h.setPatron _ _
  · exact h

theorem blockCompare (h : Works K s t) (n : Nat) : Works K s (t.blockCompare n) := h.mapPatron _ _

theorem postBalance (h : Works K s t) (n : Nat) : Works K s (t.postBalance n) := by
  unfold State.postBalance
  split
  · exact (h.postIfRoom _).ite (h.post _)
  · exact h

/-! ## Checked reads (R185, R186) -/

theorem logMemory (h : Works K s t) (c : FaultClass) (r : RecordId) (patron title copy tag : Nat) :
    Works K s (t.logMemory c r patron title copy tag) := h.logFault _ _ _

theorem check (h : Works K s t) (r : RecordId) : Works K s (t.check r).2 := by
  have passed : Works K s { t with upsets := passWhere (fun q => decide (q = r)) t.upsets } := h.tables rfl
  unfold State.check
  dsimp only
  split
  · exact passed
  · exact passed.logMemory _ _ _ _ _ _
  · exact passed

theorem logDamage (h : Works K s t) (r : RecordId) : Works K s (t.logDamage r) := by
  unfold State.logDamage
  split <;> exact h.logMemory _ _ _ _ _ _

section Reader

variable {read : Reader} (reads : ∀ t r, Works K s t → Works K s (read r t))
include reads

theorem scanBy (h : Works K s t) (tbl : Table) : Works K s (State.scanBy read tbl t) :=
  h.foldl (fun _ _ h => reads _ _ h) _

theorem recountBy (h : Works K s t) (n : Nat) : Works K s (State.recountBy read n t) := by
  unfold State.recountBy
  split
  · exact (h.foldl (fun _ _ h => reads _ _ h) _).mapTitle _ _
  · exact h

theorem markDamaged (h : Works K s t) (r : RecordId) : Works K s (State.markDamaged read r t) := by
  unfold State.markDamaged
  split
  · split
    · exact h.setPatron _ _
    · exact h
  · split
    · exact h.setLoan _ _
    · exact h
  · split
    · exact h.setTitle _ _
    · exact h
  · have scanned : Works K s (State.scanBy read .title (t.forgetEntry r.slot)) :=
      scanBy reads (t := t.forgetEntry r.slot) (h.tables rfl) _
    dsimp only
    split
    · exact recountBy reads (scanned.setPool _ _) _
    · exact (scanned.setPool _ _).ite (scanned.freePool _)
  · split
    · exact ((h.setTag _ _).toLineEnd _).ite (h.setTag _ _)
    · exact h
  · exact h

theorem recoverPlace (h : Works K s t) (r : RecordId) : Works K s (State.recoverPlace read r t) := by
  have forgotten : Works K s (t.forgetId r) := by
    unfold State.forgetId
    split <;> exact h.tables rfl
  have others : Works K s (State.scanOthers read r (t.forgetId r)) :=
    scanBy (read := fun q u => if q = r then u else read q u) (fun _ _ h => h.ite (reads _ _ h)) forgotten _
  have entries := scanBy reads others .pool
  unfold State.recoverPlace
  split
  · dsimp only
    split
    · exact entries.setPatron _ _
    · exact ((scanBy reads entries _).setPatron _ _).ite ((scanBy reads entries _).freePatron _)
  · dsimp only
    split
    · exact entries.setTitle _ _
    · exact entries.freeTitle _
  · exact h.setLoan _ _
  · dsimp only
    split
    · exact (h.setTag _ _).toLineEnd _
    · exact h
  · exact h

theorem bothLost (h : Works K s t) (r p : RecordId) : Works K s (State.bothLost read r p t) :=
  ((recoverPlace reads h p).logDamage r).logDamage p

theorem placeLost (h : Works K s t) (p r : RecordId) : Works K s (State.placeLost read p r t) :=
  ((recoverPlace reads h p).logDamage p).ite ((bothLost reads (h.check r) r p).ite ((h.check r).logDamage p))

theorem recordLost (h : Works K s t) (r : RecordId) : Works K s (State.recordLost read r t) := by
  unfold State.recordLost
  split
  · exact markDamaged reads (h.logDamage r) r
  · exact (bothLost reads (h.check _) _ _).ite (markDamaged reads ((h.check _).logDamage r) r)

theorem lost (h : Works K s t) (r : RecordId) : Works K s (State.lost read r t) := by
  unfold State.lost
  split
  · exact placeLost reads h _ _
  · exact recordLost reads h _

end Reader

theorem readBy (fuel : Nat) (r : RecordId) (h : Works K s t) : Works K s (State.readBy fuel r t) := by
  induction fuel generalizing r t with
  | zero => exact h
  | succ fuel ih =>
    exact h.ite ((lost (fun _ r h => ih r h) (h.check r) r).ite (h.check r))

theorem readRecord (h : Works K s t) (r : RecordId) : Works K s (t.readRecord r) := h.readBy _ _
theorem readPatron (h : Works K s t) (n : Nat) : Works K s (t.readPatron n) := h.readRecord _
theorem readLoan (h : Works K s t) (n : Nat) : Works K s (t.readLoan n) := h.readRecord _
theorem readTitle (h : Works K s t) (n : Nat) : Works K s (t.readTitle n) := h.readRecord _
theorem readPool (h : Works K s t) (n : Nat) : Works K s (t.readPool n) := h.readRecord _
theorem readTag (h : Works K s t) (n : Nat) : Works K s (t.readTag n) := (h.readRecord _).readRecord _

theorem scanTable (h : Works K s t) (tbl : Table) : Works K s (t.scanTable tbl) :=
  scanBy (fun _ _ h => h.readRecord _) h _

theorem scanTags (h : Works K s t) : Works K s t.scanTags := (h.scanTable _).scanTable _

theorem searchFrom (h : Works K s t) (tbl : Table) (start : Nat) (found : State → Option Nat) :
    Works K s (t.searchFrom tbl start found) := h.foldl (fun _ _ h => h.ite (h.readRecord _)) _

theorem searchPlaces (h : Works K s t) (tbl : Table) (found : State → Option Nat) :
    Works K s (t.searchPlaces tbl found) := h.searchFrom _ _ _

theorem lookUpPatron (h : Works K s t) (id : Nat) : Works K s (t.lookUpPatron id) := by
  unfold State.lookUpPatron
  dsimp only
  split
  · exact (h.searchPlaces _ _).readPatron _
  · exact h.searchPlaces _ _

theorem lookUpCopy (h : Works K s t) (copy : Nat) : Works K s (t.lookUpCopy copy) := by
  unfold State.lookUpCopy
  dsimp only
  split
  · exact (h.searchPlaces _ _).readLoan _
  · exact h.searchPlaces _ _

theorem lookUpTitle (h : Works K s t) (id : Nat) : Works K s (t.lookUpTitle id) := by
  unfold State.lookUpTitle
  dsimp only
  split
  · exact (h.searchPlaces _ _).readTitle _
  · exact h.searchPlaces _ _

theorem readFreePatron (h : Works K s t) : Works K s t.readFreePatron := h.searchPlaces _ _
theorem readFreeLoan (h : Works K s t) : Works K s t.readFreeLoan := h.searchPlaces _ _
theorem readFreeTitle (h : Works K s t) : Works K s t.readFreeTitle := h.searchPlaces _ _
theorem readFreePool (h : Works K s t) : Works K s t.readFreePool := h.searchPlaces _ _

theorem readQueue (h : Works K s t) (q : List QueueItem) : Works K s (t.readQueue q) :=
  h.foldl (fun _ _ h => h.readPool _) _

theorem readQueueOf (h : Works K s t) (n : Nat) : Works K s (t.readQueueOf n) := by
  unfold State.readQueueOf
  split
  · exact h.readQueue _
  · exact h

theorem readQueueById (h : Works K s t) (title : Nat) : Works K s (t.readQueueById title) := by
  unfold State.readQueueById
  split
  · exact h.readQueue _
  · exact h

theorem readTitleQueue (h : Works K s t) (title : Nat) : Works K s (t.readTitleQueue title) :=
  (h.lookUpTitle _).readQueueById _

theorem readFreeTag (h : Works K s t) : Works K s t.readFreeTag := by
  have from_ : ∀ fuel start t, Works K s t → Works K s (State.readFreeTagFrom fuel start t) := by
    intro fuel
    induction fuel with
    | zero => exact fun _ _ h => h
    | succ fuel ih =>
      intro start t h
      have searched := h.searchFrom .tagMap start fun s => s.freeTag.map Fin.val
      unfold State.readFreeTagFrom
      dsimp only
      split
      · exact searched
      · exact (searched.readRecord _).ite (ih _ _ (searched.readRecord _))
  exact from_ _ _ _ h

theorem readForSlot (h : Works K s t) : Works K s t.readForSlot :=
  ((h.readFreePatron.scanTable _).scanTags.ite (h.readFreePatron.scanTable _)).ite h.readFreePatron

theorem readTagField (h : Works K s t) (x : TagField) : Works K s (t.readTagField x) := (h.readTag _).ite h
theorem readTagId (h : Works K s t) (x : TagId) : Works K s (t.readTagId x) := (h.readTag _).ite h

/-! ## Serving a patron (R9, R16, R17, R19) -/

theorem writeWalk (h : Works K s t) (slot : Nat) (l : Loan) (p : Patron) (w : Walk) :
    Works K s (t.writeWalk slot l p w) := (h.setLoan _ _).setPatron _ _

theorem logCeiling (h : Works K s t) (p : Patron) (l : Loan) (cents : Nat) : Works K s (t.logCeiling p l cents) :=
  h.ite (h.logFault _ _ _)

theorem evaluate (h : Works K s t) (n : Nat) : Works K s (t.evaluate n).1 := by
  have read := h.readLoan n
  unfold State.evaluate
  dsimp only
  split
  · exact read
  · rename_i l _
    have read := read.readPatron l.patronSlot
    split
    · exact read
    · split
      · have read := read.ite (p := ((t.readLoan n).readPatron l.patronSlot |>.schedule.cls l.cls).threshold = 0)
          (read.lookUpTitle l.title)
        exact (read.writeWalk _ _ _ _).logCeiling _ _ _
      · exact read

theorem evaluateAll (h : Works K s t) (loans : List Nat) : Works K s (t.evaluateAll loans) :=
  h.foldl (fun _ _ h => h.evaluate _) _

theorem catchUp (h : Works K s t) (slot : Nat) : Works K s (t.catchUp slot) := by
  unfold State.catchUp
  split
  · exact h
  · rename_i p _
    have compared := (h.evaluateAll p.loans).blockCompare slot
    exact compared.ite (compared.postBalance slot)

theorem fetchOnMiss (h : Works K s t) (id : Nat) : Works K s (t.fetchOnMiss id).1 := by
  have read := h.readFreeTag
  unfold State.fetchOnMiss
  dsimp only
  generalize t.readFreeTag = u at read ⊢
  split
  · exact read
  · have read := read.readForSlot
    generalize u.readForSlot = v at read ⊢
    split
    · exact read
    · exact read
    · exact read
    · exact ((read.allocateTag _ _ _ _ _ _).setPatron _ _).post _

theorem servePatron {body : Nat → Patron → State → Served} (works : ∀ n p u, Works K s u → Works K s (body n p u).1)
    (h : Works K s t) (id width : Nat) (lost : Patron → Answer) : Works K s (t.servePatron id width lost body).1 := by
  have found := h.lookUpPatron id
  unfold State.servePatron
  dsimp only
  split
  · exact found.fetchOnMiss id
  · split
    · split
      · exact works _ _ _ ((found.catchUp _).touchDay _)
      · exact (found.catchUp _).touchDay _
    · exact found.touchDay _
    · exact found
    · exact found.touchDay _

theorem namePatron {body : Nat → Patron → State → Confirmed} (works : ∀ n p u, Works K s u → Works K s (body n p u).1)
    (h : Works K s t) (id : Nat) : Works K s (t.namePatron id body).1 := by
  have found := h.lookUpPatron id
  unfold State.namePatron
  dsimp only
  split
  · exact found
  · split
    · split
      · exact works _ _ _ ((found.catchUp _).touchDay _)
      · exact (found.catchUp _).touchDay _
    · exact found
    · exact found.touchDay _

theorem takeOff (h : Works K s t) (slot amount : Nat) : Works K s (t.takeOff slot amount) :=
  ((h.mapPatron _ _).blockCompare _).postBalance _

end Works

end Sys2Proof.Machine
end

section
/-! PROOF. The work of every engine operation, made of the steps of `Works`: the lane requests, whose only further step is
at the station they came from, and then the messages, the sweep steps and the tag expiries. -/

namespace Sys2Proof.Machine

/-! ## The further steps -/

/-- A step at the lane of a request's origin that leaves its exchange, generation and closing call (R154, R171). -/
def AtStation (o : Origin) (t u : State) : Prop :=
  ∃ x : LaneUnit, u = t.setLane o.lane x ∧ x.exchange = (t.lane o.lane).exchange ∧ x.gen = (t.lane o.lane).gen ∧
    x.closingCall = (t.lane o.lane).closingCall

/-- The further steps of all operations: what a lane takes or is set to, an answer or a station notice held for the
completion, and a Fault Log cleared. -/
inductive Adjusts : State → State → Prop where
  | lanes {t u : State} (h : SameButLanes t u) : Adjusts t u
  | answer (t : State) (a : Answer) : Adjusts t (t.mapOp fun op => { op with answer := some a })
  | hand (t : State) (o : Option Origin) (n : StationNotice) : Adjusts t (t.hand o n)
  | faults (t : State) (f : FaultLog) : Adjusts t { t with faults := f }

theorem AtStation.adjusts {o : Origin} {t u : State} (h : AtStation o t u) : Adjusts t u := by
  obtain ⟨x, rfl, -⟩ := h
  exact .lanes ((SameButLanes.refl t).setLane _ _)

namespace Works

variable {K : State → State → Prop} {s t : State}

/-! ## ACCOUNT, renewals and payments -/

theorem accountWork (h : Works K s t) (op : Op) : Works K s (State.accountWork op t).1 :=
  servePatron (fun _ _ _ h => (h.foldl (fun _ _ h => h.readLoan _) _).foldl (fun _ _ h => h.readTitleQueue _) _) h _ _ _

theorem renewTo (h : Works K s t) (patron slot : Nat) (l : Loan) (day : Nat) :
    Works K s (t.renewTo patron slot l day) := (h.setLoan _ _).post _

theorem renewChecked (h : Works K s t) (patron slot : Nat) (l : Loan) : Works K s (t.renewChecked patron slot l).1 := by
  have found := h.lookUpTitle l.title
  unfold State.renewChecked
  dsimp only
  split
  · exact h
  · split
    · exact h
    · split
      · exact found
      · split
        · exact found
        · exact found.renewTo _ _ _ _

theorem renewOne (h : Works K s t) (pslot : Nat) (loans : List Nat) (slot : Nat) :
    Works K s (t.renewOne pslot loans slot).1 := by
  have read := h.readLoan slot
  unfold State.renewOne
  dsimp only
  split
  · split
    · exact read
    · split
      · exact read.readPatron _
      · split
        · exact read.readPatron _
        · exact (read.readPatron _).renewChecked _ _ _
  · exact h

theorem renewWork (h : Works K s t) (op : Op) : Works K s (State.renewWork op t).1 := by
  refine servePatron (fun n p u h => ?_) h _ _ _
  dsimp only
  split
  · exact h.lookUpCopy _
  · exact (h.lookUpCopy _).renewOne _ _ _

theorem renewEach (pslot : Nat) (loans : List Nat) (ns : List Nat) (h : Works K s t) :
    Works K s (State.renewEach pslot loans ns t).1 := by
  induction ns generalizing t with
  | nil => exact h
  | cons n ns ih => exact ih (h.renewOne pslot loans n)

theorem renewAllWork (h : Works K s t) (op : Op) : Works K s (State.renewAllWork op t).1 := by
  refine servePatron (fun n p u h => ?_) h _ _ _
  dsimp only
  split
  · exact h
  · exact h.renewEach _ _ _

theorem payCashWork (h : Works K s t) (op : Op) : Works K s (State.payCashWork op t).1 := by
  refine servePatron (fun n p u h => ?_) h _ _ _
  split
  · exact h
  · split
    · exact h
    · exact h.takeOff _ _

/-! ## Hold queues -/

theorem trap (h : Works K s t) (n title : Nat) (x : QueueItem × Hold) (copy ret : Option Nat) :
    Works K s (t.trap n title x copy ret) := (((h.setPool _ _).mapTitle _ _).post _).trapped

theorem shelve (h : Works K s t) (n : Nat) (x : Title) (copy ret : Option Nat) : Works K s (t.shelve n x copy ret) :=
  ((h.logFault _ _ _).post _).ite ((h.mapTitle _ _).post _)

theorem offerCopy (h : Works K s t) (n : Nat) (copy ret : Option Nat) : Works K s (t.offerCopy n copy ret).1 := by
  have read := h.readQueueOf n
  unfold State.offerCopy
  dsimp only
  split
  · exact read
  · split
    · exact read.trap _ _ _ _ _
    · exact read.shelve _ _ _ _

theorem trapFromShelf (h : Works K s t) (n title : Nat) (x : QueueItem × Hold) :
    Works K s (t.trapFromShelf n title x) := (h.mapTitle _ _).trap _ _ _ _ _

theorem drainSteps (n k : Nat) (h : Works K s t) : Works K s (State.drainSteps n k t) := by
  induction k generalizing t with
  | zero => exact h
  | succ k ih =>
    unfold State.drainSteps
    split
    · exact h
    · split
      · exact h
      · split
        · exact ih (h.trapFromShelf _ _ _)
        · exact h

theorem drainRead (h : Works K s t) (n : Nat) : Works K s (t.drainRead n) := by
  unfold State.drainRead
  split
  · exact h.drainSteps _ _
  · exact h

theorem drain (h : Works K s t) (n : Nat) : Works K s (t.drain n) := (h.readQueueOf n).drainRead n

theorem dropFromHolds (h : Works K s t) (patron title : Nat) : Works K s (t.dropFromHolds patron title) := by
  unfold State.dropFromHolds
  split
  · exact h.mapPatron _ _
  · exact h

theorem removeEntry (h : Works K s t) (n title : Nat) (i : QueueItem) (reason : HoldChange) :
    Works K s (t.removeEntry n title i reason) :=
  ((((h.mapTitle _ _).freePool _).lookUpPatron _).dropFromHolds _ _).post _

theorem checkPatron (h : Works K s t) (p : Patron) (title : Nat) : Works K s (t.checkPatron p title).1 := by
  have read := h.foldl (f := State.readLoan) (fun _ _ h => h.readLoan _) p.loans
  unfold State.checkPatron
  split
  · exact h
  · split
    · exact h
    · dsimp only
      split
      · exact read
      · split <;> exact read

theorem postPlaced (h : Works K s t) (title patron branch position : Nat) (st : HoldState) :
    Works K s (t.postPlaced title patron branch position st) := by
  unfold State.postPlaced
  dsimp only
  split
  · exact ((h.post _).post _).trapped
  · exact h.post _

theorem makeEntry (h : Works K s t) (n pslot tslot patron branch : Nat) (x : Title) (until_ : Option Nat) :
    Works K s (t.makeEntry n pslot tslot patron branch x until_).1 :=
  (((h.setPool _ _).mapTitle _ _).mapPatron _ _).postPlaced _ _ _ _ _

theorem readForEntry (h : Works K s t) (n : Nat) : Works K s (t.readForEntry n) := by
  have read := h.readQueueOf n
  unfold State.readForEntry
  dsimp only
  split
  · exact read.ite read.readFreePool
  · exact read

theorem placeOn (h : Works K s t) (pslot patron tslot branch : Nat) (until_ : Option Nat) :
    Works K s (t.placeOn pslot patron tslot branch until_).1 := by
  have read := h.readForEntry tslot
  unfold State.placeOn
  dsimp only
  split
  · exact read
  · split
    · exact read
    · exact read.makeEntry _ _ _ _ _ _ _

theorem nameEntry (h : Works K s t) (p : Patron) (title : Nat) : Works K s (t.nameEntry p title).1 := by
  have read := h.readTitleQueue title
  unfold State.nameEntry
  split
  · dsimp only
    split
    · exact read
    · split
      · exact read
      · split <;> exact read
    · exact read
  · exact h

theorem offerSetAside (h : Works K s t) (n : Nat) (x : Hold) : Works K s (t.offerSetAside n x) := by
  unfold State.offerSetAside
  split
  · exact h.offerCopy _ _ _
  · exact h

theorem cancelEntry (h : Works K s t) (e : NamedEntry) : Works K s (t.cancelEntry e) :=
  (h.removeEntry _ _ _ _).offerSetAside _ _

theorem changeEntry (h : Works K s t) (e : NamedEntry) (st : HoldState) : Works K s (t.changeEntry e st) :=
  (h.setPool _ _).post _

theorem suspendEntry (h : Works K s t) (e : NamedEntry) (day : Nat) : Works K s (t.suspendEntry e day) :=
  ((h.mapTitle _ _).ite h).changeEntry _ _

theorem resumeEntry (h : Works K s t) (e : NamedEntry) : Works K s (t.resumeEntry e) := by
  have waiting := (h.mapTitle e.tslot fun t => { t with waiting := t.waiting + 1 }).changeEntry e .waiting
  unfold State.resumeEntry
  dsimp only
  split
  · exact (waiting.trapFromShelf _ _ _).ite waiting
  · exact waiting

theorem cancelHoldWork (h : Works K s t) (op : Op) : Works K s (State.cancelHoldWork op t).1 := by
  refine servePatron (fun n p u h => ?_) h _ _ _
  have named := h.nameEntry p (op.field 1)
  split <;> rename_i e <;> rw [e] at named
  · exact named
  · exact named.cancelEntry _

theorem suspendHoldWork (h : Works K s t) (op : Op) : Works K s (State.suspendHoldWork op t).1 := by
  refine servePatron (fun n p u h => ?_) h _ _ _
  have named := h.nameEntry p (op.field 1)
  split <;> rename_i e <;> rw [e] at named
  · exact named
  · split
    · exact named
    · split
      · exact named
      · exact named.suspendEntry _ _

theorem resumeHoldWork (h : Works K s t) (op : Op) : Works K s (State.resumeHoldWork op t).1 := by
  refine servePatron (fun n p u h => ?_) h _ _ _
  have named := h.nameEntry p (op.field 1)
  split <;> rename_i e <;> rw [e] at named
  · exact named
  · split
    · exact named.resumeEntry _
    · exact named

/-! ## Requests that park, and POLL -/

theorem raiseParked {o : Origin} (h : Works (AtStation o) s t) : Works (AtStation o) s (t.raiseParked o) := by
  unfold State.raiseParked
  dsimp only
  split
  · exact h.extra ⟨_, rfl, rfl, rfl, rfl⟩
  · exact h

theorem payCardWork {op : Op} (h : Works (AtStation op.from) s t) :
    Works (AtStation op.from) s (State.payCardWork op t).1 := by
  refine servePatron (fun n p u h => ?_) h _ _ _
  dsimp only
  split
  · exact h
  · split
    · exact h
    · split
      · exact h
      · split
        · exact h
        · have read := h.readFreeTag
          generalize u.readFreeTag = v at read ⊢
          split
          · exact read
          · exact (((read.mapPatron _ _).allocateTag _ _ _ _ _ _).raiseParked.postBalance _).post _

theorem parkPlacement {o : Origin} (h : Works (AtStation o) s t) (patron title branch : Nat) (until_ : Option Nat) :
    Works (AtStation o) s (t.parkPlacement o patron title branch until_).1 := by
  unfold State.parkPlacement
  split
  · exact h
  · split
    · exact h
    · have read := h.readFreeTag
      dsimp only
      generalize t.readFreeTag = u at read ⊢
      split
      · exact read
      · have read := read.readFreeTitle
        generalize u.readFreeTitle = v at read ⊢
        split
        · exact read
        · exact read
        · exact ((read.allocateTag _ _ _ _ _ _).setTitle _ _).raiseParked.post _

theorem placeHoldWork {op : Op} (h : Works (AtStation op.from) s t) :
    Works (AtStation op.from) s (State.placeHoldWork op t).1 := by
  refine servePatron (fun n p u h => ?_) h _ _ _
  have checked := h.checkPatron p (op.field 1)
  split <;> rename_i e <;> rw [e] at checked
  · exact checked
  · have found := checked.lookUpTitle (op.field 1)
    dsimp only
    split
    · exact found.parkPlacement _ _ _ _
    · exact found
    · exact found
    · rename_i tslot _ _
      have placed := fun until_ => found.placeOn n p.id tslot (op.field 2) until_
      split <;> rename_i e <;> have placed := e ▸ placed _
      · exact placed
      · exact placed

theorem pollWork {op : Op} (h : Works (AtStation op.from) s t) : Works (AtStation op.from) s (State.pollWork op t).1 := by
  unfold State.pollWork
  split
  · exact h
  · exact h.extra ⟨_, rfl, rfl, rfl, rfl⟩

end Works

end Sys2Proof.Machine
end

section
/-! PROOF. The work of the catalogue's messages, of the sweep steps and of the tag expiries, made of the steps of
`Works`. -/

namespace Sys2Proof.Machine.Works

variable {K : State → State → Prop} {s t : State}

/-! ## LOAN_OPEN and RETURN -/

theorem listSearch (h : Works K s t) (slot : Nat) : Works K s (t.listSearch slot) := (h.scanTable _).putPatrons _

theorem loanSlot (h : Works K s t) (p : Patron) (copy : Nat) (isRestore : Bool) :
    Works K s (t.loanSlot p copy isRestore).1 := by
  unfold State.loanSlot
  dsimp only
  split
  · exact h
  · split
    · exact h
    · split <;> exact h
  · split
    · exact h
    · split <;> exact h.readFreeLoan

theorem openLoan (h : Works K s t) (n pslot : Nat) (overwrites : Bool) (l : Loan) :
    Works K s (t.openLoan n pslot overwrites l) := (((h.listSearch n).ite h).setLoan _ _).mapPatron _ _

theorem lowerShelf (h : Works K s t) (n : Nat) (x : Title) : Works K s (t.lowerShelf n x) :=
  (h.logFault _ _ _).ite (h.mapTitle _ _)

theorem checkOut (h : Works K s t) (title : Nat) : Works K s (t.checkOut title) := by
  unfold State.checkOut
  split
  · exact h.lowerShelf _ _
  · exact h

theorem logMismatch (h : Works K s t) (patron title copy : Nat) : Works K s (t.logMismatch patron title copy) :=
  h.logFault _ _ _

theorem pickUp (h : Works K s t) (patron title copy : Nat) : Works K s (t.pickUp patron title copy) := by
  unfold State.pickUp
  split
  · rename_i n _ _
    have read := h.readQueueOf n
    dsimp only
    split
    · split
      · exact read.removeEntry _ _ _ _
      · exact (read.logMismatch _ _ _).lowerShelf _ _
    · exact read.logMismatch _ _ _
  · exact h.logMismatch _ _ _

theorem loanOpenWork (h : Works K s t) (m : Message) : Works K s (State.loanOpenWork m t).1 := by
  unfold State.loanOpenWork
  split
  · rename_i copy title patron cls due pickup restore
    split
    · refine namePatron (fun n p u h => ?_) h _
      have found := (h.lookUpCopy copy).loanSlot p copy restore.isSome
      dsimp only
      split <;> rename_i e <;> rw [e] at found
      · exact found
      · dsimp only at found ⊢
        split
        · exact ((found.openLoan _ _ _ _).lookUpTitle _).checkOut _
        · exact ((found.openLoan _ _ _ _).lookUpTitle _).pickUp _ _ _
    · exact h
  · exact h

theorem endActive (h : Works K s t) (n : Nat) (l : Loan) (charged : Bool) : Works K s (t.endActive n l charged) :=
  ((((h.blockCompare _).postBalance _).ite h).mapPatron _ _).freeLoan _

theorem readOwner (h : Works K s t) (n : Nat) : Works K s (t.readOwner n) := by
  unfold State.readOwner
  split
  · exact h.ite (h.readRecord _)
  · exact h

theorem endLoan (h : Works K s t) (copy : Nat) : Works K s (t.endLoan copy).1 := by
  have found := h.lookUpCopy copy
  unfold State.endLoan
  dsimp only
  split
  · exact found
  · rename_i n _
    have evaluated := (found.evaluate n).readOwner n
    split
    · exact evaluated.endActive _ _ _
    · exact (evaluated.listSearch _).freeLoan _

theorem offerReturned (h : Works K s t) (copy title branch : Nat) : Works K s (t.offerReturned copy title branch).1 := by
  have found := h.lookUpTitle title
  unfold State.offerReturned
  dsimp only
  split
  · exact found.offerCopy _ _ _
  · exact found

theorem returnWork (h : Works K s t) (m : Message) : Works K s (State.returnWork m t).1 := by
  unfold State.returnWork
  split
  · split
    · exact h
    · exact (h.endLoan _).offerReturned _ _ _
  · exact h

/-! ## PATRON_LOAD -/

theorem satisfyTag (h : Works K s t) (tag : TagId) : Works K s (t.satisfyTag tag) := by
  unfold State.satisfyTag
  split
  · exact (h.retireTag _).ite h
  · exact h

theorem newResident (h : Works K s t) (slot id category balance : Nat) :
    Works K s (t.newResident slot id category balance).1 :=
  (((h.setPatron _ _).blockCompare _).postBalance _).ite ((h.setPatron _ _).blockCompare _)

theorem restorePatron (h : Works K s t) (slot id category balance : Nat) :
    Works K s (t.restorePatron slot id category balance).1 := by
  have scanned := (h.scanTags.scanTable .loan).scanTable .title
  unfold State.restorePatron
  dsimp only
  generalize (t.scanTags.scanTable .loan).scanTable .title = u at scanned ⊢
  exact ((scanned.setPatron _ _).blockCompare _).postBalance _

theorem caughtUp (h : Works K s t) (id : Nat) : Works K s (t.caughtUp id) := by
  unfold State.caughtUp
  split
  · exact ((h.catchUp _).touchDay _).ite h
  · exact h

theorem changeCategory (h : Works K s t) (slot category : Nat) : Works K s (t.changeCategory slot category).1 :=
  ((h.mapPatron _ _).blockCompare _).ite (((h.mapPatron _ _).blockCompare _).postBalance _)

theorem patronFound (h : Works K s t) (id category balance : Nat) :
    Works K s (t.patronFound id category balance).1 := by
  unfold State.patronFound
  split
  · have read := h.readForSlot
    dsimp only
    generalize t.readForSlot = u at read ⊢
    split
    · exact read.restorePatron _ _ _ _
    · exact read
    · exact read.newResident _ _ _ _
  · split
    · exact ((h.readTagId _).satisfyTag _).newResident _ _ _ _
    · exact h.changeCategory _ _
    · exact h.newResident _ _ _ _
    · exact h.restorePatron _ _ _ _
    · exact h

theorem patronNotFound (h : Works K s t) (id : Nat) (isMatch : Bool) : Works K s (t.patronNotFound id isMatch).1 := by
  unfold State.patronNotFound
  split
  · exact h
  · split
    · exact ((h.readTagId _).satisfyTag _).setPatron _ _
    · exact h.touchDay _
    · exact h
    · split
      · exact h.setPatron _ _
      · exact h
    · exact h

theorem loadPatron (h : Works K s t) (id found category balance : Nat) (isMatch : Bool) :
    Works K s (t.loadPatron id found category balance isMatch).1 := by
  have caught := (h.lookUpPatron id).caughtUp id
  unfold State.loadPatron
  dsimp only
  split
  · exact caught.patronNotFound _ _
  · exact caught.patronFound _ _ _

theorem logStaleReply (h : Works K s t) (x : TagField) (patron title : Nat) :
    Works K s (t.logStaleReply x patron title) := h.logFault _ _ _

theorem patronLoadWork (h : Works K s t) (m : Message) : Works K s (State.patronLoadWork m t).1 := by
  unfold State.patronLoadWork
  split
  · rename_i tag _ _ _ _
    split
    · exact h
    · split
      · have read := h.readTagField tag
        dsimp only
        split
        · exact read.logStaleReply _ _ _
        · exact (read.retireTag _).loadPatron _ _ _ _ _
      · exact h.loadPatron _ _ _ _ _
  · exact h

/-! ## TITLE_LOAD -/

theorem checkOwner (h : Works K s t) (n title : Nat) (i : QueueItem) : Works K s (t.checkOwner n title i) := by
  have found := h.lookUpPatron i.patron
  unfold State.checkOwner
  dsimp only
  split
  · exact found.removeEntry _ _ _ _
  · have touched := found.touchDay
    split
    · split
      · exact touched _
      · exact ((touched _).removeEntry _ _ _ _).ite ((touched _).setPatron _ _)
    · exact touched _
    · exact (touched _).removeEntry _ _ _ _

theorem checkHoldList (h : Works K s t) (n title pslot : Nat) : Works K s (t.checkHoldList n title pslot) := by
  unfold State.checkHoldList
  split
  · exact ((h.mapPatron _ _).post _).ite h
  · exact h

theorem freeDamagedPool (h : Works K s t) : Works K s t.freeDamagedPool := h.ite (h.putPool _)

theorem restoreTitle (h : Works K s t) (n title shelf : Nat) : Works K s (t.restoreTitle n title shelf) := by
  have rebuilt := (h.scanTable .pool).setTitle n (.resident ((t.scanTable .pool).rebuiltTitle title shelf))
  have owners := rebuilt.foldl (f := fun s i => s.checkOwner n title i) (fun _ _ h => h.checkOwner _ _ _)
    ((t.scanTable .pool).rebuiltTitle title shelf).queue
  exact ((((owners.scanTable .patron).foldl (fun _ _ h => h.checkHoldList _ _ _) _).scanTable .title).freeDamagedPool).drain n

theorem titleFound (h : Works K s t) (title shelf : Nat) : Works K s (t.titleFound title shelf).1 := by
  have read := h.readQueueById title
  unfold State.titleFound
  dsimp only
  generalize t.readQueueById title = u at read ⊢
  split
  · have read := read.readFreeTitle
    generalize u.readFreeTitle = v at read ⊢
    split
    · dsimp only
      exact read.restoreTitle _ _ _
    · exact read.setTitle _ _
    · exact read
  · exact (read.satisfyTag _).setTitle _ _
  · exact (read.mapTitle _ _).drainRead _
  · dsimp only
    exact read.restoreTitle _ _ _

theorem titleNotFound (h : Works K s t) (title : Nat) : Works K s (t.titleNotFound title).1 := by
  unfold State.titleNotFound
  split
  · exact h
  · exact (h.satisfyTag _).freeTitle _
  · exact h
  · exact h

theorem completeParked (h : Works K s t) (k : Parked) (title n : Nat) : Works K s (t.completeParked k title n).1 := by
  have found := h.lookUpPatron k.patron
  unfold State.completeParked
  dsimp only
  split
  · exact found
  · rename_i pslot _
    split
    · have touched := found.touchDay pslot
      split
      · exact touched
      · rename_i p _
        have checked := touched.checkPatron p title
        split <;> rename_i e <;> rw [e] at checked
        · exact checked
        · have placed := checked.placeOn pslot p.id n k.branch k.until_
          split <;> rename_i e <;> rw [e] at placed <;> exact placed
    · exact found
    · exact found.touchDay _

theorem handHoldResult (h : Works Adjusts s t) (q : Question) (number : Nat) (o : NoticeOutcome) :
    Works Adjusts s (t.handHoldResult q number o) := by
  unfold State.handHoldResult
  split
  · exact h.extra (.hand _ _ _)
  · exact h

theorem completeQuestion (h : Works Adjusts s t) (title : Nat) (slot : Option Nat) (q : Question) (number : Nat) :
    Works Adjusts s (t.completeQuestion title slot q number) := by
  unfold State.completeQuestion
  split
  · exact ((h.completeParked _ _ _).handHoldResult _ _ _).drain _
  · exact h.handHoldResult _ _ _

theorem loadTitle (h : Works Adjusts s t) (title found shelf : Nat) (qs : List (Question × Nat)) :
    Works Adjusts s (t.loadTitle title found shelf qs).1 := by
  unfold State.loadTitle
  split
  · exact (h.titleNotFound _).foldl (fun _ _ h => h.handHoldResult _ _ _) _
  · exact (h.titleFound _ _).foldl (fun _ _ h => h.completeQuestion _ _ _ _) _

theorem readFetchTag (h : Works K s t) (title : Nat) : Works K s (t.readFetchTag title) := by
  unfold State.readFetchTag
  split
  · exact h.readTagId _
  · exact h

theorem titleLoadWork (h : Works Adjusts s t) (m : Message) : Works Adjusts s (State.titleLoadWork m t).1 := by
  unfold State.titleLoadWork
  split
  · rename_i tag _ _ _
    split
    · exact h
    · split
      · have read := h.readTagField tag
        dsimp only
        split
        · exact read.logStaleReply _ _ _
        · exact (((read.retireTag _).lookUpTitle _).readFetchTag _).loadTitle _ _ _ _
      · exact ((h.lookUpTitle _).readFetchTag _).loadTitle _ _ _ _
  · exact h

/-! ## AUTH_RESULT -/

theorem handCardResult (h : Works Adjusts s t) (q : Question) (number amount : Nat) (o : NoticeOutcome) :
    Works Adjusts s (t.handCardResult q number amount o) := h.extra (.hand _ _ _)

theorem authLost (h : Works Adjusts s t) (q : Question) (number amount : Nat) :
    Works Adjusts s (t.authLost q number amount).1 := h.handCardResult _ _ _ _

theorem applyAuth (h : Works Adjusts s t) (slot : Nat) (q : Question) (number amount : Nat) (clamped : Bool) :
    Works Adjusts s (t.applyAuth slot q number amount clamped).1 := by
  have handed := ((h.mapPatron slot fun p => { p with pending := p.pending - q.reserve }).takeOff slot amount).handCardResult
    q number amount .ok
  unfold State.applyAuth
  dsimp only
  split <;> exact handed

theorem authMatched (h : Works Adjusts s t) (q : Question) (number amount : Nat) :
    Works Adjusts s (t.authMatched q number amount).1 := by
  have found := h.lookUpPatron q.subject
  unfold State.authMatched
  dsimp only
  split
  · exact found.authLost _ _ _
  · split
    · split
      · exact ((found.catchUp _).touchDay _).applyAuth _ _ _ _ _
      · exact ((found.catchUp _).touchDay _).authLost _ _ _
    · exact (found.touchDay _).authLost _ _ _

theorem authResultWork (h : Works Adjusts s t) (m : Message) : Works Adjusts s (State.authResultWork m t).1 := by
  unfold State.authResultWork
  split
  · rename_i tag _
    have read := h.readTagField tag
    dsimp only
    split
    · exact read.logStaleReply _ _ _
    · exact (read.retireTag _).authMatched _ _ _
  · exact h

/-! ## The other messages -/

theorem dayCloseWork (h : Works K s t) (m : Message) : Works K s (State.dayCloseWork m t).1 := by
  unfold State.dayCloseWork
  split
  · dsimp only
    split
    · exact h
    · exact h.tables rfl
  · exact h

theorem calendarWork (h : Works K s t) (m : Message) : Works K s (State.calendarWork m t).1 := by
  unfold State.calendarWork
  split
  · split
    · exact h
    · split
      · exact h
      · exact h.tables rfl
  · exact h

theorem scheduleWork (h : Works K s t) (m : Message) : Works K s (State.scheduleWork m t).1 := by
  unfold State.scheduleWork
  split
  · split
    · exact h
    · dsimp only
      split
      · exact h
      · exact h.tables rfl
  · exact h

theorem waiveWork (h : Works K s t) (m : Message) : Works K s (State.waiveWork m t).1 := by
  unfold State.waiveWork
  split
  · refine namePatron (fun n p u h => ?_) h _
    split
    · exact h
    · split
      · exact h
      · exact h.takeOff _ _
  · exact h

theorem holdPlaceWork (h : Works K s t) (m : Message) : Works K s (State.holdPlaceWork m t).1 := by
  unfold State.holdPlaceWork
  split
  · rename_i patron title branch until_
    split
    · exact h
    · refine namePatron (fun n p u h => ?_) h _
      have checked := h.checkPatron p title
      split <;> rename_i e <;> rw [e] at checked
      · exact checked
      · have found := checked.lookUpTitle title
        dsimp only
        split
        · exact found
        · exact found
        · exact found
        · rename_i tslot _ _
          have placed := found.placeOn n p.id tslot branch until_
          split <;> rename_i e <;> rw [e] at placed <;> exact placed
  · exact h

theorem holdCancelWork (h : Works K s t) (m : Message) : Works K s (State.holdCancelWork m t).1 := by
  unfold State.holdCancelWork
  split
  · rename_i patron title
    refine namePatron (fun n p u h => ?_) h _
    have named := h.nameEntry p title
    split <;> rename_i e <;> rw [e] at named
    · exact named
    · exact named.cancelEntry _
  · exact h

theorem controlLane (h : Works Adjusts s t) (l : Lane) (u : LaneUnit) : Works Adjusts s (t.controlLane l u) :=
  ((h.extra (.lanes ((SameButLanes.refl t).setLane l u))).post _).extra (.lanes ((SameButLanes.refl _).setLane _ _))

end Sys2Proof.Machine.Works

namespace Sys2Proof.Machine

theorem SameButLanes.answerHeldCall {s t : State} (h : SameButLanes s t) (l : Lane) :
    SameButLanes s (t.answerHeldCall l) := by
  unfold State.answerHeldCall
  dsimp only
  split <;> exact h

namespace Works

variable {K : State → State → Prop} {s t : State}

theorem enableLane (h : Works Adjusts s t) (l : Lane) : Works Adjusts s (t.enableLane l).1 := by
  unfold State.enableLane
  dsimp only
  split
  · exact (h.controlLane _ _).extra (.lanes ((SameButLanes.refl _).setLane _ _))
  · exact (h.controlLane _ _).extra (.lanes ((SameButLanes.refl _).setLane _ _))
  · exact h
  · exact h

theorem disableLane (h : Works Adjusts s t) (l : Lane) : Works Adjusts s (t.disableLane l).1 := by
  unfold State.disableLane
  dsimp only
  split
  · exact h
  · exact h
  · split
    · exact (h.controlLane _ _).extra (.lanes ((SameButLanes.refl _).answerHeldCall _))
    · exact h.controlLane _ _
  · exact h.controlLane _ _

theorem abortLane (h : Works Adjusts s t) (l : Lane) : Works Adjusts s (t.abortLane l).1 := by
  unfold State.abortLane
  split
  · exact h
  · exact h.controlLane _ _

theorem laneControlWork {act : State → Lane → State × Status} (acts : ∀ t l, Works K s t → Works K s (act t l).1)
    (action : Nat) (h : Works K s t) (m : Message) : Works K s (State.laneControlWork action act m t).1 := by
  unfold State.laneControlWork
  split
  · split
    · exact acts _ _ h
    · exact h
  · exact h

/-! ## Sweep steps -/

theorem nextLoan (ns : List Nat) (h : Works K s t) : Works K s (State.nextLoan ns t).1 := by
  induction ns generalizing t with
  | nil => exact h
  | cons n ns ih =>
    have read := h.readRecord ⟨.copyIndex, n⟩
    unfold State.nextLoan
    dsimp only
    split
    · exact read
    · exact ih (((read.listSearch _).freeLoan _).ite read)
    · exact ih read

theorem reportCharge (h : Works K s t) (n : Nat) (f : Figures) : Works K s (t.reportCharge n f) := by
  unfold State.reportCharge
  split
  · exact ((h.blockCompare _).postBalance _).ite h
  · exact h

theorem loansStepWork (h : Works K s t) : Works K s t.loansStepWork := by
  have next := h.nextLoan (t.slotsFrom .copyIndex (t.loans.map Prod.fst) t.sweep.cursor)
  unfold State.loansStepWork
  split <;> rename_i e <;> rw [e] at next
  · exact next.setSweep _
  · exact (((next.evaluate _).reportCharge _ _).mapCurrent _).setSweep _

theorem nextTitle (ns : List Nat) (h : Works K s t) : Works K s (State.nextTitle ns t).1 := by
  induction ns generalizing t with
  | nil => exact h
  | cons n ns ih =>
    have read := h.readRecord ⟨.titleIndex, n⟩
    unfold State.nextTitle
    dsimp only
    generalize t.readRecord ⟨.titleIndex, n⟩ = u at read ⊢
    have read : Works K s (if (Tbl.lookup u.titles n).isSome then u.readTitle n else u) := (read.readTitle n).ite read
    generalize (if (Tbl.lookup u.titles n).isSome then u.readTitle n else u) = v at read ⊢
    split
    · exact read
    · exact ih read

theorem makeChange (h : Works K s t) (n title : Nat) (c : Change) : Works K s (t.makeChange n title c) := by
  unfold State.makeChange
  cases c with
  | resume i x => exact (h.resumeEntry _).mapCurrent _
  | expire i x => exact ((h.removeEntry _ _ _ _).offerSetAside _ _).mapCurrent _
  | remove i => exact h.removeEntry _ _ _ _

theorem makeChanges (n k : Nat) (h : Works K s t) : Works K s (State.makeChanges n k t) := by
  induction k generalizing t with
  | zero => exact h
  | succ k ih =>
    have read := h.readQueueOf n
    unfold State.makeChanges
    dsimp only
    split
    · exact read
    · split
      · exact read
      · exact ih (read.makeChange _ _ _)

theorem finishTitle (h : Works K s t) (n : Nat) (x : Title) : Works K s (t.finishTitle n x) := by
  have read : Works K s (if x.queue.isEmpty then t.scanTags else t) := h.scanTags.ite h
  unfold State.finishTitle
  dsimp only
  generalize (if x.queue.isEmpty then t.scanTags else t) = u at read ⊢
  exact (((read.freeTitle _).mapCurrent _).ite read).setSweep _

theorem workTitle (h : Works K s t) (n : Nat) : Works K s (t.workTitle n) := by
  have changed := (h.makeChanges n 4).readQueueOf n
  unfold State.workTitle
  dsimp only
  split
  · exact changed.setSweep _
  · split
    · exact changed.setSweep _
    · exact changed.finishTitle _ _

theorem readToClose (h : Works K s t) : Works K s t.readToClose := by
  have read := (h.scanTable .patronIndex).scanTable .patron
  unfold State.readToClose
  dsimp only
  generalize (t.scanTable .patronIndex).scanTable .patron = u at read ⊢
  exact (read.scanTable _).ite read

theorem closeSweep (h : Works K s t) : Works K s t.closeSweep :=
  (((h.readToClose.putPatrons _).mapCurrent _).post _).setSweep _

theorem holdsStepWork (h : Works K s t) : Works K s t.holdsStepWork := by
  have next := h.nextTitle (t.slotsFrom .titleIndex (t.titles.map Prod.fst) t.sweep.cursor)
  unfold State.holdsStepWork
  split <;> rename_i e <;> rw [e] at next
  · exact next.closeSweep
  · exact next.workTitle _

/-! ## TAG_EXPIRY -/

theorem endPatronFetch (h : Works K s t) (id : Nat) (tag : TagId) : Works K s (t.endPatronFetch id tag) := by
  have found := h.lookUpPatron id
  unfold State.endPatronFetch
  dsimp only
  split
  · exact found
  · split
    · exact (found.freePatron _).ite found
    · exact found

theorem endTitleFetch (h : Works K s t) (id : Nat) (tag : TagId) : Works K s (t.endTitleFetch id tag) := by
  have found := h.lookUpTitle id
  unfold State.endTitleFetch
  dsimp only
  split
  · exact (found.freeTitle _).ite found
  · exact found

theorem endCardAuth (h : Works K s t) (q : Question) : Works K s (t.endCardAuth q) := by
  have found := h.lookUpPatron q.subject
  unfold State.endCardAuth
  dsimp only
  split
  · exact found
  · split
    · exact (found.mapPatron _ _).postBalance _
    · exact found

theorem expireQuestion (h : Works Adjusts s t) (q : Question) (tag : TagId) :
    Works Adjusts s (t.expireQuestion q tag) := by
  unfold State.expireQuestion
  split
  · exact h.endPatronFetch _ _
  · exact (h.endTitleFetch _ _).handHoldResult _ _ _
  · exact (h.endCardAuth _).handCardResult _ _ _ _

theorem settlePending (h : Works K s t) (n : Nat) : Works K s (t.settlePending n) := by
  unfold State.settlePending
  split
  · exact h.ite ((h.setPatron _ _).postBalance _)
  · exact h

theorem recountParked (h : Works Adjusts s t) (l : Lane) : Works Adjusts s (t.recountParked l) :=
  (h.extra (.lanes ((SameButLanes.refl _).setLane _ _))).ite h

theorem expireDamaged (h : Works Adjusts s t) (x : Tag) (n : Nat) : Works Adjusts s (t.expireDamaged x n) := by
  have freed : Works Adjusts s (((t.scanTags.scanTable .patron).scanTable .title).freeFetchesOf x n) :=
    (((h.scanTags.scanTable _).scanTable _).putPatrons _).putTitles _
  unfold State.expireDamaged
  dsimp only
  generalize ((t.scanTags.scanTable .patron).scanTable .title).freeFetchesOf x n = u at freed ⊢
  exact ((freed.foldl (fun _ _ h => h.settlePending _) _).foldl (fun _ _ h => h.recountParked _) _).retireTag _

theorem expiryWork (h : Works Adjusts s t) (n : Nat) : Works Adjusts s (State.expiryWork n t) := by
  have read := h.readTag n
  unfold State.expiryWork
  split
  · dsimp only
    split
    · exact read.expireDamaged _ _
    · split
      · exact (read.retireTag _).expireQuestion _ _
      · exact read
  · exact h

/-! ## STATUS_READ -/

theorem statusWork (h : Works K s t) : Works K s t.statusWork.1 := h.scanTable _

end Works

end Sys2Proof.Machine
end

section
/-! PROOF. Every row of the table that performs an operation is `State.perform` with work made of the steps of `Works`;
and what the lanes' own commands are made of. -/

namespace Sys2Proof.Machine

/-! ## The rows of the operations -/

/-- A row performs the operations that `mine` recognises, with work made of the steps of `Works`. -/
def PerformsBy (row : Crossing → Instr) (mine : OpKind → Bool) : Prop :=
  ∃ work, (∀ op u, Works Adjusts u (work op u)) ∧ ∀ x s, exec (row x) s = State.command (State.perform mine work x) s

theorem Works.answer {s : State} {x : Served} (h : Works Adjusts s x.1) : Works Adjusts s (State.answer x) :=
  h.extra (.answer _ _)

theorem Works.confirm {s : State} {x : Confirmed} (h : Works Adjusts s x.1) (kind : Nat) :
    Works Adjusts s (State.confirm kind x) := h.post _

/-- The work of a request before its answer. -/
def ReqCode.work : ReqCode → Op → State → Served
  | .account => State.accountWork
  | .renew => State.renewWork
  | .renewAll => State.renewAllWork
  | .placeHold => State.placeHoldWork
  | .cancelHold => State.cancelHoldWork
  | .suspendHold => State.suspendHoldWork
  | .resumeHold => State.resumeHoldWork
  | .payCash => State.payCashWork
  | .payCard => State.payCardWork
  | .detail => State.detailWork
  | .poll => State.pollWork

theorem ReqCode.exec_command (code : ReqCode) (x : Crossing) (s : State) :
    exec (code.command x) s = State.request code code.work x s := by
  cases code <;> rfl

/-- A request works at its own station only. -/
theorem ReqCode.works (code : ReqCode) (op : Op) (u : State) : Works (AtStation op.from) u (code.work op u).1 := by
  cases code with
  | account => exact Works.refl.accountWork op
  | renew => exact Works.refl.renewWork op
  | renewAll => exact Works.refl.renewAllWork op
  | placeHold => exact Works.refl.placeHoldWork
  | cancelHold => exact Works.refl.cancelHoldWork op
  | suspendHold => exact Works.refl.suspendHoldWork op
  | resumeHold => exact Works.refl.resumeHoldWork op
  | payCash => exact Works.refl.payCashWork op
  | payCard => exact Works.refl.payCardWork
  | detail => exact .refl
  | poll => exact Works.refl.pollWork

theorem ReqCode.performsBy (code : ReqCode) : PerformsBy code.command (OpKind.isRequest code) :=
  ⟨fun op s => State.answer (code.work op s), fun op u => ((code.works op u).mono fun _ _ h => h.adjusts).answer,
    code.exec_command⟩

/-- A row of a message, by the work that gives the tables and the CONFIRM. -/
theorem PerformsBy.message {row : Crossing → Instr} {mine : OpKind → Bool} {work : Message → State → Confirmed}
    (works : ∀ m u, Works Adjusts u (work m u).1) (e : ∀ x s, exec (row x) s = State.message mine work x s) :
    PerformsBy row mine := by
  refine ⟨_, fun op u => ?_, e⟩
  split
  · exact (works _ u).confirm _
  · exact .refl

/-- The operations that the row of a message performs. -/
def Message.rowMine : Message → OpKind → Bool
  | .laneControl _ action =>
    match action with
    | 0 => OpKind.isControl 0
    | 1 => OpKind.isControl 1
    | _ => OpKind.isControl 2
  | m => OpKind.isMessage m.kind

theorem Message.performsBy (m : Message) : PerformsBy m.command m.rowMine := by
  cases m with
  | loanOpen => exact .message (fun m _ => Works.refl.loanOpenWork m) fun _ _ => rfl
  | returnCopy => exact .message (fun m _ => Works.refl.returnWork m) fun _ _ => rfl
  | patronLoad => exact .message (fun m _ => Works.refl.patronLoadWork m) fun _ _ => rfl
  | titleLoad => exact .message (fun m _ => Works.refl.titleLoadWork m) fun _ _ => rfl
  | authResult => exact .message (fun m _ => Works.refl.authResultWork m) fun _ _ => rfl
  | dayClose => exact .message (fun m _ => Works.refl.dayCloseWork m) fun _ _ => rfl
  | calendar => exact .message (fun m _ => Works.refl.calendarWork m) fun _ _ => rfl
  | schedule => exact .message (fun m _ => Works.refl.scheduleWork m) fun _ _ => rfl
  | waive => exact .message (fun m _ => Works.refl.waiveWork m) fun _ _ => rfl
  | holdPlace => exact .message (fun m _ => Works.refl.holdPlaceWork m) fun _ _ => rfl
  | holdCancel => exact .message (fun m _ => Works.refl.holdCancelWork m) fun _ _ => rfl
  | laneControl lane action =>
    match action with
    | 0 => exact .message (fun m _ => Works.refl.laneControlWork (fun _ l h => h.enableLane l) 0 m) fun _ _ => rfl
    | 1 => exact .message (fun m _ => Works.refl.laneControlWork (fun _ l h => h.disableLane l) 1 m) fun _ _ => rfl
    | _ + 2 => exact .message (fun m _ => Works.refl.laneControlWork (fun _ l h => h.abortLane l) 2 m) fun _ _ => rfl
  | statusRead => exact .message (fun _ _ => Works.refl.statusWork) fun _ _ => rfl
  | faultRead => exact .message (fun _ _ => .refl) fun _ _ => rfl
  | faultClear => exact .message (fun _ u => Works.refl.extra (.faults u _)) fun _ _ => rfl
  | restart => exact .message (fun _ _ => .refl) fun _ _ => rfl

theorem Message.rowMine_self (m : Message) (kind : Nat) : m.rowMine (.message kind m) = true := by
  cases m with
  | laneControl lane action =>
    match action with
    | 0 => rfl
    | 1 => rfl
    | a + 2 => cases a <;> simp [Message.rowMine, OpKind.isControl]
  | _ => simp [Message.rowMine, OpKind.isMessage, Message.kind]

/-- The row of every operation performs it. -/
theorem OpKind.performsBy (k : OpKind) : ∃ mine, mine k = true ∧ PerformsBy k.command mine := by
  cases k with
  | request code fields => exact ⟨_, by simp [OpKind.isRequest], code.performsBy⟩
  | message kind m => exact ⟨_, m.rowMine_self kind, m.performsBy⟩
  | loansStep => exact ⟨_, by simp, _, fun _ _ => Works.refl.loansStepWork, fun _ _ => rfl⟩
  | holdsStep => exact ⟨_, by simp, _, fun _ _ => Works.refl.holdsStepWork, fun _ _ => rfl⟩
  | tagExpiry n =>
    refine ⟨OpKind.isExpiry, rfl, _, fun op u => ?_, fun _ _ => rfl⟩
    split
    · exact Works.refl.expiryWork _
    · exact .refl

/-! ## The lanes' own work -/

/-- The states that a lane's own work can reach from s: changes of the lanes and their words, faults, and LANE_STATE
announcements. -/
inductive LineWorks (s : State) : State → Prop where
  | refl : LineWorks s s
  | lanes {t u : State} (h : LineWorks s t) (only : SameButLanes t u) : LineWorks s u
  | logFault {t : State} (h : LineWorks s t) (c : FaultClass) (src : Source) (ctx : Context) :
      LineWorks s (t.logFault c src ctx)
  | announce {t : State} (h : LineWorks s t) (l : Lane) : LineWorks s (t.announce l)

theorem LineWorks.tables {s t : State} (h : LineWorks s t) : t.tables = s.tables := by
  induction h with
  | refl => rfl
  | lanes _ only ih => exact only.tables.trans ih
  | logFault _ _ _ _ ih => simpa using ih
  | announce _ _ ih => simpa using ih

namespace LineWorks

variable {s t : State}

theorem ite {p : Prop} [Decidable p] {u : State} (ht : LineWorks s t) (hu : LineWorks s u) :
    LineWorks s (if p then t else u) := by
  split
  · exact ht
  · exact hu

theorem setLane (h : LineWorks s t) (l : Lane) (u : LaneUnit) : LineWorks s (t.setLane l u) :=
  h.lanes ((SameButLanes.refl t).setLane l u)

theorem setStep (h : LineWorks s t) (l : Lane) (ex : Exchange) (step : ExchangeStep) : LineWorks s (t.setStep l ex step) :=
  h.setLane _ _

theorem sendAwaited (h : LineWorks s t) (l : Lane) (w : LaneWord) : LineWorks s (t.sendAwaited l w) :=
  h.lanes ((SameButLanes.refl t).sendAwaited l w)

theorem sendFinal (h : LineWorks s t) (l : Lane) (ex : Exchange) (f : Final) (code : Option ReqCode) (index : Nat) :
    LineWorks s (t.sendFinal l ex f code index) := h.lanes ((SameButLanes.refl t).sendFinal l ex f code index)

theorem sendAnswer (h : LineWorks s t) (l : Lane) (ex : Exchange) (a : Answer) : LineWorks s (t.sendAnswer l ex a) :=
  h.lanes ((SameButLanes.refl t).sendAnswer l ex a)

theorem takeAnswer (h : LineWorks s t) (l : Lane) (ex : Exchange) (a : Answer) (g : Bool) :
    LineWorks s (t.takeAnswer l ex a g) := h.lanes ((SameButLanes.refl t).takeAnswer l ex a g)

theorem openExchange (h : LineWorks s t) (l : Lane) (st : Station) : LineWorks s (t.openExchange l st) :=
  h.lanes ((SameButLanes.refl t).openExchange l st)

theorem useIdleLine (h : LineWorks s t) (l : Lane) : LineWorks s (t.useIdleLine l) :=
  h.lanes ((SameButLanes.refl t).useIdleLine l)

theorem answerHeldCall (h : LineWorks s t) (l : Lane) : LineWorks s (t.answerHeldCall l) :=
  h.lanes ((SameButLanes.refl t).answerHeldCall l)

theorem endExchange (h : LineWorks s t) (l : Lane) : LineWorks s (t.endExchange l) := by
  unfold State.endExchange
  dsimp only
  split
  · exact (h.setLane _ _).announce _
  · exact (h.setLane _ _).useIdleLine _

theorem closingAccepted (h : LineWorks s t) (l : Lane) : LineWorks s (t.closingAccepted l) := by
  unfold State.closingAccepted
  dsimp only
  split
  · split
    · exact (h.setLane _ _).sendAnswer _ _ _
    · exact (h.setLane _ _).answerHeldCall _
  · exact h.setLane _ _

theorem repeatClosing (h : LineWorks s t) (l : Lane) (st : Station) : LineWorks s (t.repeatClosing l st) :=
  (h.logFault _ _ _).sendAwaited _ _

theorem submit (h : LineWorks s t) (l : Lane) (ex : Exchange) : LineWorks s (t.submit l ex) :=
  (h.setLane _ _).answerHeldCall _

theorem endOffer (h : LineWorks s t) (l : Lane) (o : Offering) (f : List StationNotice → List StationNotice) :
    LineWorks s (t.endOffer l o f) := (h.setLane _ _).useIdleLine _

theorem ignoreWord (h : LineWorks s t) (l : Lane) (st : Option Station) : LineWorks s (t.ignoreWord l st) :=
  h.logFault _ _ _

theorem lineCheck (h : LineWorks s t) (l : Lane) (ex : Exchange) : LineWorks s (t.lineCheck l ex) := by
  have logged : LineWorks s (t.logLineCheck l (some ex.station) ex.code) := h.logFault _ _ _
  unfold State.lineCheck
  dsimp only
  split
  · exact logged
  · exact logged.sendAwaited _ _
  · exact logged.sendFinal _ _ _ _ _

theorem outOfPlace (h : LineWorks s t) (l : Lane) (ex : Exchange) : LineWorks s (t.outOfPlace l ex) := by
  unfold State.outOfPlace
  split
  · exact h.sendFinal _ _ _ _ _
  · exact h.lineCheck _ _

theorem stationWord {take : Exchange → State} (h : LineWorks s t) (l : Lane) (st : Station)
    (takes : ∀ ex, LineWorks s (take ex)) : LineWorks s (t.stationWord l st take) := by
  unfold State.stationWord
  split
  · exact takes _
  · exact h.repeatClosing _ _
  · exact h.ignoreWord _ _
  · exact h.ignoreWord _ _
  · exact h

/-! ## The words of an exchange -/

theorem takeReq (h : LineWorks s t) (l : Lane) (ex : Exchange) (code count : Byte) :
    LineWorks s (t.takeReq l ex code count) := by
  unfold State.takeReq
  split
  · split
    · exact h.sendFinal _ _ _ _ _
    · exact ((h.setStep _ _ _).sendAwaited _ _).ite (h.sendFinal _ _ _ _ _)
  · exact h.outOfPlace _ _

theorem takeField (h : LineWorks s t) (l : Lane) (ex : Exchange) (code : Byte) (value : Nat) :
    LineWorks s (t.takeField l ex code value) := by
  unfold State.takeField
  split
  · exact (((h.setStep _ _ _).sendAwaited _ _).ite (h.submit _ _)).ite (h.sendFinal _ _ _ _ _)
  · exact h.outOfPlace _ _

theorem nextResult (h : LineWorks s t) (l : Lane) (ex : Exchange) (index : Nat) (rest : List RField) (f : Final) :
    LineWorks s (t.nextResult l ex index rest f) := by
  unfold State.nextResult
  split
  · exact h.sendFinal _ _ _ _ _
  · exact (h.setStep _ _ _).sendAwaited _ _

theorem takeAccept (h : LineWorks s t) (l : Lane) (ex : Exchange) : LineWorks s (t.takeAccept l ex) := by
  unfold State.takeAccept
  split
  · exact (h.submit _ _).ite ((h.setStep _ _ _).sendAwaited _ _)
  · exact h.nextResult _ _ _ _ _
  · exact h.endExchange _
  · exact h.outOfPlace _ _

theorem takeStop (h : LineWorks s t) (l : Lane) (ex : Exchange) : LineWorks s (t.takeStop l ex) := by
  unfold State.takeStop
  split
  · exact h.sendFinal _ _ _ _ _
  · exact h.outOfPlace _ _

theorem takeHalt (h : LineWorks s t) (l : Lane) (ex : Exchange) : LineWorks s (t.takeHalt l ex) := by
  unfold State.takeHalt
  split
  · exact h.sendFinal _ _ _ _ _
  · exact h.sendFinal _ _ _ _ _
  · exact h.sendFinal _ _ _ _ _
  · exact h.takeAnswer _ _ _ _
  · exact h.takeAnswer _ _ _ _
  · split
    · exact h
    · exact h.takeAnswer _ _ _ _
  · exact h.sendFinal _ _ _ _ _
  · exact h.endExchange _

theorem acceptWord (h : LineWorks s t) (l : Lane) (st : Station) : LineWorks s (t.acceptWord l st) := by
  unfold State.acceptWord
  split
  · exact h.takeAccept _ _
  · exact h.closingAccepted _
  · exact (h.endOffer _ _ _).ite (h.ignoreWord _ _)
  · exact h.ignoreWord _ _
  · exact h.ignoreWord _ _
  · exact h

theorem haltWord (h : LineWorks s t) (l : Lane) (st : Station) : LineWorks s (t.haltWord l st) := by
  unfold State.haltWord
  split
  · exact h.takeHalt _ _
  · exact h.closingAccepted _
  · exact (h.endOffer _ _ _).ite (h.ignoreWord _ _)
  · exact (h.endOffer _ _ _).ite (h.ignoreWord _ _)
  · exact h
  · exact (h.ignoreWord _ _).ite h
  · exact h

theorem offerWord {take : Offering → State} (h : LineWorks s t) (l : Lane) (st : Station)
    (pick : Offer → Station → Option Offering) (takes : ∀ o, LineWorks s (take o)) :
    LineWorks s (t.offerWord l st pick take) := by
  unfold State.offerWord
  split
  · exact takes _
  · exact h.stationWord _ _ fun _ => h.outOfPlace _ _

theorem acceptOfferWord (h : LineWorks s t) (l : Lane) (st : Station) : LineWorks s (t.acceptOfferWord l st) :=
  h.offerWord _ _ _ fun _ => (h.setLane _ _).sendAwaited _ _

theorem deferWord (h : LineWorks s t) (l : Lane) (st : Station) : LineWorks s (t.deferWord l st) :=
  h.offerWord _ _ _ fun _ => h.endOffer _ _ _

theorem failedWord (h : LineWorks s t) (l : Lane) : LineWorks s (t.failedWord l) := by
  have ignored := h.ignoreWord l none
  unfold State.failedWord
  split
  · exact h.repeatClosing _ _
  · exact h.lineCheck _ _
  · unfold State.failedOffLine
    dsimp only
    split
    · exact ignored
    · exact ignored.endOffer _ _ _
    · exact ignored.endOffer _ _ _

theorem unnamedWord (h : LineWorks s t) (l : Lane) : LineWorks s (t.unnamedWord l) := by
  unfold State.unnamedWord
  split
  · split
    · exact h.repeatClosing _ _
    · exact h.outOfPlace _ _
    · exact h.ignoreWord _ _
  · exact h

/-! ## CALL, carrier and timers -/

theorem takeCall (h : LineWorks s t) (l : Lane) (st : Station) : LineWorks s (t.takeCall l st) := by
  have inExchange : ∀ ex, LineWorks s (t.callInExchange l st ex) := fun ex =>
    (h.repeatClosing _ _).ite ((h.outOfPlace _ _).ite ((h.setLane _ _).answerHeldCall _))
  unfold State.takeCall
  dsimp only
  split
  · exact inExchange _
  · exact inExchange _
  · unfold State.callOnLine
    split
    · exact h.openExchange _ _
    · exact (h.setLane _ _).openExchange _ _
    · exact (h.ignoreWord _ _).ite (h.setLane _ _)
  · exact h

theorem loseCarrier (h : LineWorks s t) (l : Lane) : LineWorks s (t.loseCarrier l) := by
  unfold State.loseCarrier
  dsimp only
  split
  · exact h.setLane _ _
  · exact (h.setLane _ _).announce _
  · exact (h.setLane _ _).announce _
  · exact (h.setLane _ _).announce _
  · exact h.setLane _ _

theorem settleOver (h : LineWorks s t) (l : Lane) : LineWorks s (t.settleOver l) := by
  unfold State.settleOver
  dsimp only
  split
  · exact h.lanes (((SameButLanes.refl t).setLane _ _).send _ _)
  · exact h

theorem identifyOver (h : LineWorks s t) (l : Lane) : LineWorks s (t.identifyOver l) := by
  unfold State.identifyOver
  dsimp only
  split
  · exact (h.setLane _ _).announce _
  · exact h

theorem takeRoll (h : LineWorks s t) (l : Lane) (present : StationSet) : LineWorks s (t.takeRoll l present) := by
  unfold State.takeRoll
  dsimp only
  split
  · exact (h.setLane _ _).announce _
  · exact h

theorem replyOver (h : LineWorks s t) (l : Lane) : LineWorks s (t.replyOver l) := by
  unfold State.replyOver
  split
  · exact ((h.logFault _ _ _).setLane _ _).announce _
  · exact h

end LineWorks

/-- The commands of the lanes: carrier, timers, ROLL and the words of stations. -/
def Instr.ofLane : Instr → Bool
  | .carrierPresent _ | .carrierLost _ | .settleTimerExpiry _ | .identifyTimerExpiry _ | .roll _ _
  | .replyTimerExpiry _ | .call _ _ | .req _ _ _ _ | .field _ _ _ _ _ | .accept _ _ | .stop _ _ | .halt _ _
  | .acceptOffer _ _ | .defer _ _ | .wordCheckFailure _ _ => true
  | _ => false

/-- A lane's command does the lane's own work, which a search may follow (R5). -/
theorem Instr.ofLane.works {c : Instr} (h : Instr.ofLane c = true) :
    ∃ f : State → State, (∀ u, LineWorks u (f u)) ∧
      ((∀ s, exec c s = State.command f s) ∨ ∀ s, exec c s = State.command (fun u => (f u).search) s) := by
  cases c with
  | carrierPresent l =>
    exact ⟨fun u => u.setLane l ({ u.lane l with carrier := true } : LaneUnit).settleIfCarrier,
      fun _ => LineWorks.refl.setLane _ _, .inl fun _ => rfl⟩
  | carrierLost l => exact ⟨_, fun _ => LineWorks.refl.loseCarrier l, .inl fun _ => rfl⟩
  | settleTimerExpiry l => exact ⟨_, fun _ => LineWorks.refl.settleOver l, .inl fun _ => rfl⟩
  | identifyTimerExpiry l => exact ⟨_, fun _ => LineWorks.refl.identifyOver l, .inl fun _ => rfl⟩
  | roll l r => exact ⟨_, fun _ => LineWorks.refl.takeRoll l r, .inl fun _ => rfl⟩
  | replyTimerExpiry l => exact ⟨_, fun _ => LineWorks.refl.replyOver l, .inl fun _ => rfl⟩
  | call l st => exact ⟨_, fun _ => LineWorks.refl.takeCall l st, .inl fun _ => rfl⟩
  | req l st code count =>
    exact ⟨_, fun _ => LineWorks.refl.stationWord l st fun ex => LineWorks.refl.takeReq l ex code count, .inl fun _ => rfl⟩
  | field l st code index v =>
    exact ⟨_, fun _ => LineWorks.refl.stationWord l st fun ex => LineWorks.refl.takeField l ex code v.toNat,
      .inr fun _ => rfl⟩
  | accept l st => exact ⟨_, fun _ => LineWorks.refl.acceptWord l st, .inr fun _ => rfl⟩
  | stop l st =>
    exact ⟨_, fun _ => LineWorks.refl.stationWord l st fun ex => LineWorks.refl.takeStop l ex, .inl fun _ => rfl⟩
  | halt l st => exact ⟨_, fun _ => LineWorks.refl.haltWord l st, .inl fun _ => rfl⟩
  | acceptOffer l st => exact ⟨_, fun _ => LineWorks.refl.acceptOfferWord l st, .inl fun _ => rfl⟩
  | defer l st => exact ⟨_, fun _ => LineWorks.refl.deferWord l st, .inl fun _ => rfl⟩
  | wordCheckFailure l word =>
    cases word with
    | failed => exact ⟨_, fun _ => LineWorks.refl.failedWord l, .inl fun _ => rfl⟩
    | outOfPlace st =>
      exact ⟨_, fun _ => LineWorks.refl.stationWord l st fun ex => LineWorks.refl.outOfPlace l ex, .inl fun _ => rfl⟩
    | identify => exact ⟨_, fun _ => LineWorks.refl.unnamedWord l, .inl fun _ => rfl⟩
  | _ => cases h

end Sys2Proof.Machine
end

section
/-! PROOF. Every step keeps the link's queues within their room and no two unsent entries for one subject (R3, R126, R176,
R178, R180, R181). -/

namespace Sys2Proof.Machine

/-! ## Operations and lanes -/

theorem Adjusts.withinRoom {t u : State} (step : Adjusts t u) (h : t.withinRoom) : u.withinRoom := by
  cases step with
  | lanes same => exact same.withinRoom h
  | answer a => exact h.mapOp _ fun _ => rfl
  | hand o n =>
    cases o with
    | none => exact h
    | some o => exact h.mapOp _ fun _ => rfl
  | faults f => exact h.faults f

theorem Works.withinRoom {s t : State} (works : Works Adjusts s t) (h : s.withinRoom) : t.withinRoom := by
  induction works with
  | refl => exact h
  | tables _ only ih => exact ih.congr (congrArg State.link only :) (le_of_eq (congrArg (fun x => x.engine.reservation) only :))
  | post _ n ih => exact ih.post n
  | postIfRoom _ n ih => exact ih.postIfRoom n
  | logFault _ c src ctx ih => exact ih.logFault c src ctx
  | trapped _ ih => exact ih.mapOp _ fun _ => rfl
  | extra _ step ih => exact step.withinRoom ih

theorem LineWorks.withinRoom {s t : State} (works : LineWorks s t) (h : s.withinRoom) : t.withinRoom := by
  induction works with
  | refl => exact h
  | lanes _ only ih => exact only.withinRoom ih
  | logFault _ c src ctx ih => exact ih.logFault c src ctx
  | announce _ l ih => exact ih.announce l

theorem State.withinRoom.perform {s : State} (h : s.withinRoom) {mine : OpKind → Bool} {work : Op → State → State}
    (works : ∀ op u, Works Adjusts u (work op u)) (x : Crossing) : (s.perform mine work x).withinRoom := by
  unfold State.perform
  split
  · split
    · exact State.withinRoom.complete ((works _ { s with upsets := s.upsets ++ x.flips }).withinRoom h) _
    · exact h
  · exact h

/-! ## Warm reset and the frame of a command -/

theorem State.warmReset_withinRoom (s : State) : s.warmReset.withinRoom := by
  refine State.withinRoom.search ?_
  exact ⟨Nat.zero_le _, Nat.zero_le _, Nat.zero_le _, nofun, List.Pairwise.nil⟩

theorem State.withinRoom.takeDueReset {s : State} (h : s.withinRoom) : s.takeDueReset.withinRoom := by
  unfold State.takeDueReset
  split
  · exact s.warmReset_withinRoom
  · exact h

/-- A command keeps the condition when its own effect does. -/
theorem State.withinRoom.command {s t : State} (h : s.withinRoom) {f : State → State}
    (keeps : ∀ u, u.withinRoom → (f u).withinRoom) (e : State.command f s = .next t) : t.withinRoom := by
  cases e
  exact (keeps _ h.takeDueReset).startSending

theorem State.withinRoom.operation {s t : State} (h : s.withinRoom) (k : OpKind) (x : Crossing)
    (e : exec (k.command x) s = .next t) : t.withinRoom := by
  obtain ⟨mine, -, work, works, exec_eq⟩ := k.performsBy
  rw [exec_eq] at e
  exact h.command (fun _ h => h.perform works x) e

theorem State.withinRoom.ofLane {s t : State} (h : s.withinRoom) {c : Instr} (ofLane : Instr.ofLane c = true)
    (e : exec c s = .next t) : t.withinRoom := by
  obtain ⟨f, works, exec_eq | exec_eq⟩ := Instr.ofLane.works ofLane <;> rw [exec_eq] at e
  · exact h.command (fun u h => (works u).withinRoom h) e
  · exact h.command (fun u h => ((works u).withinRoom h).search) e

/-! ## The link's events -/

theorem State.withinRoom.place {s : State} (h : s.withinRoom) (content : PlaceContent) (seq : Nat)
    (free : s.link.inbound.length < 64) : (s.place content seq).withinRoom :=
  Link.fits.inbound h (by simpa using free)

theorem State.withinRoom.takeFrame {s : State} (h : s.withinRoom) (kind : Byte) (payload : List Byte) (check : BitVec 16) :
    (s.takeFrame kind payload check).withinRoom := by
  have counted : s.countFrame.withinRoom := h
  unfold State.takeFrame
  dsimp only
  split
  · have logged : (s.countFrame.logFrame .linkOverrun s.link.frameCount).withinRoom := counted.logFault _ _ _
    exact Link.fits.inbound logged ((addOverrun_length _ _).le.trans logged.2.1)
  · rename_i free
    have free : s.countFrame.link.inbound.length < 64 := Nat.lt_of_not_le free
    split
    · split
      · exact counted.place _ _ free
      · exact counted.place _ _ free
    · exact (counted.place _ _ free).logFault _ _ _

theorem State.withinRoom.dropLine {s : State} (h : s.withinRoom) : s.dropLine.withinRoom := Link.fits.drop h

theorem State.withinRoom.entryOut {s : State} {n : Notice} {rest : List Notice} (h : s.withinRoom)
    (ho : s.link.outbound = n :: rest) (sending : s.link.sending = true) : (s.entryOut n rest).withinRoom :=
  Link.fits.sent h ho sending

theorem State.withinRoom.raiseLine {s : State} (h : s.withinRoom) :
    ({ s with link := { s.link with up := true } } : State).withinRoom := by
  obtain ⟨room, inbound, side, sending, distinct⟩ := h
  exact ⟨room, inbound, side, fun hs => ⟨(sending hs).1, rfl⟩, distinct⟩

theorem State.withinRoom.placeWaiting {s u : State} {op : Op} {n : Notice} (h : s.withinRoom)
    (waits : s.engine = .waitingRoom op) (e : s.placeWaiting op n = some u) : u.withinRoom ∧ u.engine = s.engine := by
  have reserved : s.engine.reservation = op.reservation := by rw [waits]; rfl
  rcases s.placeWaiting_cases op n with ⟨q, hq, e'⟩ | ⟨hn, ⟨room, e'⟩ | ⟨-, e'⟩⟩ <;> rw [e'] at e <;> cases e
  · exact ⟨h.merge hq, rfl⟩
  · exact ⟨Link.fits.append h hn (by simp only [State.append_engine]; omega), rfl⟩

theorem State.withinRoom.postWaiting {s : State} (h : s.withinRoom) (cs : List Claim) : (s.postWaiting cs).withinRoom := by
  unfold State.postWaiting
  split
  · rename_i op waits
    split
    · split
      · rename_i u e
        obtain ⟨placed, same⟩ := h.placeWaiting waits e
        have reserved : u.engine.reservation = op.reservation := by rw [same, waits]; rfl
        have room (e : Engine) (he : e.reservation = op.reservation) : ({ u with engine := e } : State).withinRoom :=
          placed.congr rfl (he.trans reserved.symm).le
        dsimp only
        split
        · exact (room _ rfl).complete cs
        · exact room _ rfl
      · exact h
    · exact h
  · exact h

/-! ## The other commands -/

theorem State.withinRoom.assertReset {s : State} (h : s.withinRoom) : s.assertReset.withinRoom := by
  unfold State.assertReset
  split
  · rename_i op busy
    exact h.congr rfl (by rw [busy]; rfl)
  · exact h

theorem State.withinRoom.passDeadlines {s : State} (h : s.withinRoom) (ns : List (Fin 32)) :
    (ns.foldl State.passDeadline s).withinRoom := by
  induction ns generalizing s with
  | nil => exact h
  | cons n ns ih =>
    refine ih ?_
    unfold State.passDeadline
    dsimp only
    split
    · exact h
    · exact h

theorem State.withinRoom.scrubRead {s : State} (h : s.withinRoom) (flips : List Flip) : (s.scrubRead flips).withinRoom := by
  have scrubbed (u : State) (r : RecordId) : Works Adjusts u (u.scrubOne r) := by
    unfold State.scrubOne
    split
    · exact (Works.refl.readRecord _).readRecord _
    · exact Works.refl.readRecord _
  unfold State.scrubRead
  split
  · exact State.withinRoom.search ((scrubbed { s with upsets := s.upsets ++ flips } _).withinRoom h)
  · exact h

theorem State.withinRoom.execLinkUp {s t : State} (h : s.withinRoom) (e : execLinkUp s = .next t) : t.withinRoom := by
  unfold Sys2Proof.Machine.execLinkUp at e
  refine h.command (fun u h => ?_) e
  split
  · exact h
  · exact h.raiseLine.search

theorem State.withinRoom.execLinkDown {s t : State} (h : s.withinRoom) (e : execLinkDown s = .next t) : t.withinRoom := by
  unfold Sys2Proof.Machine.execLinkDown at e
  refine h.command (fun u h => ?_) e
  split
  · exact h.dropLine.search
  · exact h

theorem State.withinRoom.execInboundFrame {s t : State} (h : s.withinRoom) {kind : Byte} {payload : List Byte}
    {check : BitVec 16} (e : execInboundFrame kind payload check s = .next t) : t.withinRoom := by
  unfold Sys2Proof.Machine.execInboundFrame at e
  refine h.command (fun u h => ?_) e
  split
  · exact (h.takeFrame _ _ _).search
  · exact h

theorem State.withinRoom.execEntrySent {s t : State} (h : s.withinRoom) {cs : List Claim}
    (e : execEntrySent cs s = .next t) : t.withinRoom := by
  unfold Sys2Proof.Machine.execEntrySent at e
  refine h.command (fun u h => ?_) e
  split
  · rename_i ho
    split
    · rename_i sending
      exact ((h.entryOut ho sending).claimAll cs).search
    · exact h
  · exact h

/-- Every command keeps the queues within their room. -/
theorem State.withinRoom.exec {s t : State} (h : s.withinRoom) (c : Instr) (e : exec c s = .next t) : t.withinRoom := by
  cases c with
  | powerOn => cases e; exact resetMeetsTheInvariants.2.1
  | resetLineAsserted => exact h.command (fun _ h => h.assertReset) e
  | warmReset => exact h.command (fun _ h => h) e
  | linkUp => exact h.execLinkUp e
  | linkDown => exact h.execLinkDown e
  | inboundFrame kind payload check => exact h.execInboundFrame e
  | markerConfirm => exact h.command (fun _ h => h.confirmMarker.search) e
  | overrunConfirm => exact h.command (fun _ h => h.confirmOverrun.search) e
  | sideListMove => exact h.command (fun _ h => h.moveSideList.search) e
  | entrySent cs => exact h.execEntrySent e
  | owedFaultPost => exact h.command (fun _ h => h.postOwedFault) e
  | owedLaneStatePost l => exact h.command (fun _ h => h.postOwedLaneState l) e
  | waitingRoomPost cs => exact h.command (fun _ h => h.postWaiting cs) e
  | account x => exact h.operation (.request .account []) x e
  | renew x => exact h.operation (.request .renew []) x e
  | renewAll x => exact h.operation (.request .renewAll []) x e
  | placeHold x => exact h.operation (.request .placeHold []) x e
  | cancelHold x => exact h.operation (.request .cancelHold []) x e
  | suspendHold x => exact h.operation (.request .suspendHold []) x e
  | resumeHold x => exact h.operation (.request .resumeHold []) x e
  | payCash x => exact h.operation (.request .payCash []) x e
  | payCard x => exact h.operation (.request .payCard []) x e
  | detail x => exact h.operation (.request .detail []) x e
  | poll x => exact h.operation (.request .poll []) x e
  | loanOpen x => exact h.operation (.message 1 (.loanOpen 0 0 0 0 0 0 none)) x e
  | returnCopy x => exact h.operation (.message 2 (.returnCopy 0 0 0)) x e
  | patronLoad x => exact h.operation (.message 3 (.patronLoad ⟨false, 0, 0⟩ 0 0 0 0)) x e
  | titleLoad x => exact h.operation (.message 4 (.titleLoad ⟨false, 0, 0⟩ 0 0 0)) x e
  | authResult x => exact h.operation (.message 5 (.authResult ⟨false, 0, 0⟩ 0)) x e
  | dayClose x => exact h.operation (.message 6 (.dayClose 0)) x e
  | calendar x => exact h.operation (.message 7 (.calendar 0 0 [])) x e
  | schedule x => exact h.operation (.message 8 (.schedule 0 0 [])) x e
  | waive x => exact h.operation (.message 9 (.waive 0 0)) x e
  | holdPlace x => exact h.operation (.message 10 (.holdPlace 0 0 0 none)) x e
  | holdCancel x => exact h.operation (.message 11 (.holdCancel 0 0)) x e
  | laneControlEnable x => exact h.operation (.message 12 (.laneControl 0 0)) x e
  | laneControlDisable x => exact h.operation (.message 12 (.laneControl 0 1)) x e
  | laneControlAbort x => exact h.operation (.message 12 (.laneControl 0 2)) x e
  | statusRead x => exact h.operation (.message 13 .statusRead) x e
  | faultRead x => exact h.operation (.message 14 .faultRead) x e
  | faultClear x => exact h.operation (.message 15 .faultClear) x e
  | restart x => exact h.operation (.message 16 .restart) x e
  | loansStep x => exact h.operation .loansStep x e
  | holdsStep x => exact h.operation .holdsStep x e
  | tagExpiry x => exact h.operation (.tagExpiry 0) x e
  | tagDeadline ns => exact h.command (fun _ h => (h.passDeadlines _).search) e
  | carrierPresent => exact h.ofLane rfl e
  | carrierLost => exact h.ofLane rfl e
  | settleTimerExpiry => exact h.ofLane rfl e
  | identifyTimerExpiry => exact h.ofLane rfl e
  | roll => exact h.ofLane rfl e
  | replyTimerExpiry => exact h.ofLane rfl e
  | call => exact h.ofLane rfl e
  | req => exact h.ofLane rfl e
  | field => exact h.ofLane rfl e
  | accept => exact h.ofLane rfl e
  | stop => exact h.ofLane rfl e
  | halt => exact h.ofLane rfl e
  | acceptOffer => exact h.ofLane rfl e
  | defer => exact h.ofLane rfl e
  | wordCheckFailure => exact h.ofLane rfl e
  | scrubRead flips => exact h.command (fun _ h => h.scrubRead flips) e

/-- Settles O5: a step performs one command, and every command is made of posts, faults, claims, grants and completions
that keep the queues within their room. -/
theorem stepKeepsQueuesWithinRoom : Obligations.StepKeepsQueuesWithinRoom := by
  intro s t h e
  unfold step at e
  split at e
  · cases e
    exact h
  · rename_i c rest _
    exact State.withinRoom.exec (s := { s with pending := rest }) h c e

end Sys2Proof.Machine
end

section
/-! PROOF. The commands of the lanes and of the link, and the reset line, change no table (R2, R11, R166, R175, R180). -/

namespace Sys2Proof.Machine

/-- With no reset due, a command whose own effect changes no table leaves the tables. -/
theorem State.command_tables {s t : State} {f : State → State} (settled : s.settled)
    (same : ∀ u, (f u).tables = u.tables) (e : State.command f s = .next t) : t.tables = s.tables := by
  rw [State.command_eq s f settled] at e
  cases e
  exact same s

theorem Instr.ofLane.tables {s t : State} {c : Instr} (ofLane : Instr.ofLane c = true) (settled : s.settled)
    (e : exec c s = .next t) : t.tables = s.tables := by
  obtain ⟨f, works, exec_eq | exec_eq⟩ := Instr.ofLane.works ofLane <;> rw [exec_eq] at e
  · exact State.command_tables settled (fun u => (works u).tables) e
  · exact State.command_tables settled (fun u => (State.search_tables _).trans (works u).tables) e

theorem State.takeFrame_tables (s : State) (kind : Byte) (payload : List Byte) (check : BitVec 16) :
    (s.takeFrame kind payload check).tables = s.tables := by
  have logged (u : State) (c : FaultClass) : (u.logFrame c s.link.frameCount).tables = u.tables := u.logFault_tables _ _ _
  unfold State.takeFrame
  dsimp only
  split
  · exact logged s.countFrame _
  · split
    · split <;> rfl
    · exact logged _ _

theorem State.placeWaiting_tables {s u : State} {op : Op} {n : Notice} (e : s.placeWaiting op n = some u) :
    u.tables = s.tables := by
  rcases s.placeWaiting_cases op n with ⟨q, -, e'⟩ | ⟨-, ⟨-, e'⟩ | ⟨-, e'⟩⟩ <;> rw [e'] at e <;> cases e <;> rfl

theorem State.postWaiting_tables (s : State) (cs : List Claim) : (s.postWaiting cs).tables = s.tables := by
  unfold State.postWaiting
  split
  · split
    · split
      · rename_i e
        have placed := State.placeWaiting_tables e
        dsimp only
        split
        · exact (State.complete_tables _ cs).trans placed
        · exact placed
      · rfl
    · rfl
  · rfl

theorem State.assertReset_tables (s : State) : s.assertReset.tables = s.tables := by
  unfold State.assertReset
  split <;> rfl

/-! ## The link's commands -/

theorem execLinkUp_tables {s t : State} (settled : s.settled) (e : execLinkUp s = .next t) : t.tables = s.tables := by
  unfold execLinkUp at e
  refine State.command_tables settled (fun u => ?_) e
  split
  · rfl
  · exact State.search_tables _

theorem execLinkDown_tables {s t : State} (settled : s.settled) (e : execLinkDown s = .next t) : t.tables = s.tables := by
  unfold execLinkDown at e
  refine State.command_tables settled (fun u => ?_) e
  split
  · exact State.search_tables _
  · rfl

theorem execInboundFrame_tables {s t : State} {kind : Byte} {payload : List Byte} {check : BitVec 16} (settled : s.settled)
    (e : execInboundFrame kind payload check s = .next t) : t.tables = s.tables := by
  unfold execInboundFrame at e
  refine State.command_tables settled (fun u => ?_) e
  split
  · exact (State.search_tables _).trans (u.takeFrame_tables _ _ _)
  · rfl

theorem execEntrySent_tables {s t : State} {cs : List Claim} (settled : s.settled) (e : execEntrySent cs s = .next t) :
    t.tables = s.tables := by
  unfold execEntrySent at e
  refine State.command_tables settled (fun u => ?_) e
  split
  · split
    · exact (State.search_tables _).trans (State.claimAll_tables _ cs)
    · rfl
  · rfl

/-- Settles O10: the lanes' commands are made of the steps of `LineWorks`, and the link's of posts, claims, completions and
searches, none of which changes a table. -/
theorem laneAndLinkCommandsLeaveTables : Obligations.LaneAndLinkCommandsLeaveTables := by
  intro s t l st cs c settled hc e
  have ofLane (h : Instr.ofLane c = true) : t.tables = s.tables := Instr.ofLane.tables h settled e
  rcases hc with hc | ⟨r, rfl⟩ | ⟨code, count, rfl⟩ | ⟨code, index, v, rfl⟩ | ⟨word, rfl⟩ | ⟨k, p, w, rfl⟩
  · simp only [List.mem_cons, List.not_mem_nil, or_false] at hc
    rcases hc with rfl | rfl | rfl | rfl | rfl | rfl | rfl | rfl | rfl | rfl | rfl | rfl | rfl | rfl | rfl | rfl | rfl |
      rfl | rfl | rfl | rfl
    iterate 11 exact ofLane rfl
    · exact execLinkUp_tables settled e
    · exact execLinkDown_tables settled e
    · exact State.command_tables settled (fun u => (State.search_tables _).trans u.confirmMarker_tables) e
    · exact State.command_tables settled (fun u => (State.search_tables _).trans u.confirmOverrun_tables) e
    · exact State.command_tables settled (fun u => (State.search_tables _).trans u.moveSideList_tables) e
    · exact execEntrySent_tables settled e
    · exact State.command_tables settled (fun u => u.postOwedFault_tables) e
    · exact State.command_tables settled (fun u => u.postOwedLaneState_tables l) e
    · exact State.command_tables settled (fun u => u.postWaiting_tables cs) e
    · exact State.command_tables settled (fun u => u.assertReset_tables) e
  · exact ofLane rfl
  · exact ofLane rfl
  · exact ofLane rfl
  · exact ofLane rfl
  · exact execInboundFrame_tables settled e

end Sys2Proof.Machine
end

section
/-! PROOF. The arbiter's search over the positions that present nothing it can grant, and the warm reset (R5, R11). -/

namespace Sys2Proof.Machine

/-! ## The search over positions that stay -/

/-- A search leaves this position as it is: what it presents, if anything, has no room, and is not a lane request to be
refused on a link that is DOWN (R6, R7). -/
def State.passesOver (s : State) (p : Nat) : Prop :=
  ∀ k, s.requestAt p = some k → 128 - s.link.outbound.length < s.noticeNeed k ∧ (s.link.up = true ∨ 16 ≤ p)

theorem State.passesOver_of_none {s : State} {p : Nat} (h : s.requestAt p = none) : s.passesOver p := by
  intro k hk
  rw [h] at hk
  cases hk

theorem State.freeEntries_free {s : State} (h : s.engine = .free) : s.freeEntries = 128 - s.link.outbound.length := by
  simp [State.freeEntries, h, Engine.reservation, Config.outboundEntries]

theorem State.searchOver_passesOver {s : State} (free : s.engine = .free) (before rest : List Nat)
    (passes : ∀ p ∈ before, s.passesOver p) : s.searchOver (before ++ rest) = s.searchOver rest := by
  induction before with
  | nil => rfl
  | cons p before ih =>
    have ih := ih fun q hq => passes q (List.mem_cons_of_mem _ hq)
    rw [List.cons_append, State.searchOver]
    split
    · exact ih
    · rename_i k hk
      obtain ⟨room, line⟩ := passes p List.mem_cons_self k hk
      rw [State.freeEntries_free free, if_neg (by omega), if_neg, ih]
      rintro ⟨lane, down⟩
      rcases line with up | high
      · simp [up] at down
      · omega

/-- The first request that has room is granted. -/
theorem State.searchOver_grant {s : State} {p : Nat} {k : OpKind} (free : s.engine = .free) (after : List Nat)
    (request : s.requestAt p = some k) (room : s.noticeNeed k ≤ 128 - s.link.outbound.length) :
    s.searchOver (p :: after) = s.grant p k := by
  rw [State.searchOver, request]
  exact if_pos (by rwa [State.freeEntries_free free])

/-! ## The reset line -/

theorem State.assertReset_busy {s : State} {op : Op} (h : s.engine = .busy op) :
    s.assertReset = { s with engine := .busy { op with resetOwed := true } } := by
  unfold State.assertReset
  rw [h]

theorem State.assertReset_other {s : State} (h : ∀ op, s.engine ≠ .busy op) :
    s.assertReset = { s with arbiter := { s.arbiter with resetDue := true } } := by
  unfold State.assertReset
  split
  · rename_i op busy
    exact absurd busy (h op)
  · rfl

/-! ## What a warm reset clears -/

/-- The state that a warm reset leaves before its search. -/
def State.cleared (s : State) : State :=
  { ((s.putPatrons (resetPatrons s.patrons)).putTitles (resetTitles s.titles)).putTags (s.tags.map Tag.retired) with
    engine := .free
    arbiter := ⟨0, false, false⟩
    sweep := s.sweep.warmReset
    tagLine := []
    lanes := s.lanes.map LaneUnit.warmReset
    link := { s.link with inbound := [], outbound := [], sideList := [], frameCount := 0, sending := false }
    faults := s.faults.warmReset
    scrub := 0 }

theorem State.warmReset_eq (s : State) : s.warmReset = s.cleared.search := rfl

theorem State.exec_warmReset {s : State} (due : s.arbiter.resetDue = true) :
    exec .warmReset s = .next s.cleared.search.startSending := by
  show State.command id s = _
  simp only [State.command, State.takeDueReset, due, ↓reduceIte, id, State.warmReset_eq]

/-- A slot below every slot of a table is FREE. -/
theorem Tbl.lookup_none_of_below {α : Type} {t : Tbl α} {n : Nat} (below : ∀ k ∈ t.map Prod.fst, n < k) :
    Tbl.lookup t n = none := by
  cases h : Tbl.lookup t n with
  | none => rfl
  | some v => exact absurd (below n (List.mem_map.mpr ⟨_, Tbl.mem_of_lookup h, rfl⟩)) (Nat.lt_irrefl n)

/-- A change of a table that rewrites each slot from its contents, or frees it. -/
theorem Tbl.lookup_filterMapSlots {α β : Type} {t : Tbl α} (wf : Tbl.wf t = true) {f : Nat × α → Option (Nat × β)}
    {g : α → Option β} (slotwise : ∀ e, f e = (g e.2).map fun v => (e.1, v)) (n : Nat) :
    Tbl.lookup (t.filterMap f) n = (Tbl.lookup t n).bind g := by
  rw [Tbl.wf_iff_pairwise] at wf
  induction t with
  | nil => rfl
  | cons e t ih =>
    obtain ⟨k, v⟩ := e
    obtain ⟨above, wf⟩ := List.pairwise_cons.mp wf
    have ih := ih wf
    have absent : Tbl.lookup t k = none := Tbl.lookup_none_of_below above
    rw [List.filterMap_cons, slotwise (k, v)]
    by_cases hk : k = n
    · subst hk
      cases hg : g v <;> simp [hg, Tbl.lookup, ih, absent]
    · cases hg : g v <;> simp [Tbl.lookup, ih, hk]

/-- What a warm reset makes of a patron record: FETCHING ones become FREE and reserves are released (R34). -/
def PatronRec.afterReset : PatronRec → Option PatronRec
  | .fetching _ _ _ => none
  | .resident p => some (.resident { p with pending := 0 })
  | r => some r

/-- What a warm reset makes of a title record: FETCHING ones become FREE (R112). -/
def TitleRec.afterReset : TitleRec → Option TitleRec
  | .fetching _ _ => none
  | r => some r

theorem resetPatrons_lookup {t : Tbl PatronRec} (wf : Tbl.wf t = true) (n : Nat) :
    Tbl.lookup (resetPatrons t) n = (Tbl.lookup t n).bind PatronRec.afterReset :=
  Tbl.lookup_filterMapSlots wf (fun e => by obtain ⟨k, r⟩ := e; cases r <;> rfl) n

theorem resetTitles_lookup {t : Tbl TitleRec} (wf : Tbl.wf t = true) (n : Nat) :
    Tbl.lookup (resetTitles t) n = (Tbl.lookup t n).bind TitleRec.afterReset := by
  unfold resetTitles
  rw [← List.filterMap_eq_filter]
  exact Tbl.lookup_filterMapSlots wf (fun e => by obtain ⟨k, r⟩ := e; cases r <;> rfl) n

theorem State.cleared_lane (s : State) (l : Lane) : s.cleared.lane l = (s.lane l).warmReset := by
  simp [State.cleared, State.lane, vector_get]

/-- A lane at a warm reset keeps its generation and is cleared but for the carrier (R173). -/
theorem LaneUnit.warmReset_cleared (u : LaneUnit) :
    u.warmReset.gen = u.gen ∧ u.warmReset.exchange = none ∧ u.warmReset.held = 0 ∧ u.warmReset.offer = .none ∧
      u.warmReset.roll = 0 ∧ u.warmReset.stateOwed = false ∧
      (∀ st : Station, u.warmReset.stations.get st = ⟨[], 0, ⟨.none, none, 0⟩⟩) ∧
      u.warmReset.life = (if u.carrier then .settling else .detached) := by
  unfold LaneUnit.warmReset LaneUnit.settleIfCarrier LaneUnit.cutAndClear LaneUnit.cut
  cases u.carrier <;> simp [vector_get, StationState.clear, Detail.clear]

/-- After a warm reset only the Sweep Unit can present a request. -/
theorem State.cleared_requestAt (s : State) {p : Nat} (hp : p ≠ 17) : s.cleared.requestAt p = none := by
  by_cases lane : p < 16
  · have e := s.cleared.requestAt_lane ⟨p, lane⟩
    obtain ⟨-, idle, -⟩ := (s.lane ⟨p, lane⟩).warmReset_cleared
    rw [e, State.cleared_lane, LaneUnit.request, idle]
  · unfold State.requestAt
    rw [dif_neg lane]
    split
    · rfl
    · split <;> rfl

/-- The search after a warm reset grants the first step of an owed sweep, and nothing else (R11, R144). -/
theorem State.cleared_search (s : State) :
    s.cleared.search = if s.sweep.state = .idle then s.cleared else s.cleared.grant 17 .loansStep := by
  have passes : ∀ p ∈ List.range 17, s.cleared.passesOver p := fun p hp =>
    State.passesOver_of_none (s.cleared_requestAt (by have := List.mem_range.mp hp; omega))
  have search : s.cleared.search = s.cleared.searchOver (List.range 17 ++ [17, 18]) := by
    unfold State.search
    exact if_pos rfl
  rw [search, State.searchOver_passesOver rfl _ _ passes]
  split
  · rename_i idle
    have none17 : s.cleared.requestAt 17 = none := by
      rw [State.requestAt_sweep]
      simp [State.cleared, Sweep.warmReset, Sweep.request, idle]
    simp only [State.searchOver, none17, s.cleared_requestAt (p := 18) (by decide)]
  · rename_i running
    have loans : s.cleared.requestAt 17 = some .loansStep := by
      rw [State.requestAt_sweep]
      cases hs : s.sweep.state <;> simp_all [State.cleared, Sweep.warmReset, Sweep.request]
    exact State.searchOver_grant rfl _ loans (by decide : (1 : Nat) ≤ 128)

theorem Sweep.warmReset_eq (w : Sweep) :
    w.warmReset = if w.state = .idle then w
      else { w with
        state := .loans, phase := .evaluating, cursor := 0, complete := false,
        current := { Summary.zero with closeDay := w.target } } := by
  unfold Sweep.warmReset
  split
  · rename_i idle
    rw [if_pos idle]
  · rename_i running
    rw [if_neg running]

/-- The state after a warm reset and its search, but for the grant of an owed sweep's step. -/
theorem State.cleared_search_frame (s : State) :
    s.cleared.search = { s.cleared with
      engine := s.cleared.search.engine
      arbiter := { s.cleared.search.arbiter with restartPending := false, resetDue := false } } := by
  rw [State.cleared_search]
  split <;> rfl

/-- Settles O45: the reset line's assertion case by case on the engine; and a due reset is performed by the clearing of the
state, whose search can only grant the first step of an owed sweep. -/
theorem warmResetKeepsTheBooksAndClearsTheRest : Obligations.WarmResetKeepsTheBooksAndClearsTheRest := by
  refine ⟨fun s settled => ⟨fun op busy => ?_, fun other => ?_⟩, fun s due canonical => ?_⟩
  · show State.command State.assertReset s = _
    rw [State.command_eq s _ settled, State.assertReset_busy busy]
  · show State.command State.assertReset s = _
    rw [State.command_eq s _ settled, State.assertReset_other other]
  · obtain ⟨patrons, -, titles, -, -, -⟩ := canonical
    refine ⟨_, State.exec_warmReset due, ?_⟩
    rw [State.cleared_search_frame]
    refine ⟨fun n => ?_, fun n => ?_, rfl, rfl, rfl, rfl, fun n => ?_, rfl, Sweep.warmReset_eq _, fun l => ?_, ?_, rfl, rfl,
      rfl, rfl, rfl, rfl, rfl, fun idle => ?_, fun running => ?_⟩
    · refine (resetPatrons_lookup patrons n).trans ?_
      cases Tbl.lookup s.patrons n with
      | none => rfl
      | some r => cases r <;> rfl
    · refine (resetTitles_lookup titles n).trans ?_
      cases Tbl.lookup s.titles n with
      | none => rfl
      | some r => cases r <;> rfl
    · show (s.tags.map Tag.retired).get n = _
      simp [vector_get]
    · have e := s.cleared_lane l
      have cleared := (s.lane l).warmReset_cleared
      rw [← e] at cleared
      exact cleared
    · simp [State.cleared]
    · rw [State.cleared_search, if_pos idle]
      exact ⟨rfl, rfl⟩
    · rw [State.cleared_search, if_neg running]
      exact ⟨_, rfl, rfl, rfl⟩

end Sys2Proof.Machine
end

section
/-! PROOF. What the positions of the arbiter present, the notice needs, and what a search grants, refuses and passes over
(R4 to R7). -/

namespace Sys2Proof.Machine

/-! ## What the positions present (R4) -/

theorem LaneUnit.request_complete {u : LaneUnit} {ex : Exchange} {code : ReqCode} (open_ : u.exchange = some ex)
    (working : ex.step = .working .atArbiter) (named : ex.code = some code) :
    u.request = some (.request code ex.fields) := by
  unfold LaneUnit.request
  simp only [open_, working, named]

theorem LaneUnit.request_none {u : LaneUnit}
    (h : ∀ ex, u.exchange = some ex → ex.step ≠ .working .atArbiter ∨ ex.code = none) : u.request = none := by
  unfold LaneUnit.request
  split
  · rename_i ex open_
    split
    · rename_i code working named
      rcases h ex open_ with other | unnamed
      · exact absurd working other
      · rw [unnamed] at named
        cases named
    · rfl
  · rfl

theorem Link.request_message {k : Link} {p : Place} {rest : List Place} {kind : Nat} {m : Message}
    (head : k.inbound = p :: rest) (content : p.content = .message kind m) (side : k.sideList = [])
    (fresh : p.confirmed = false) : k.request = some (.message kind m) := by
  unfold Link.request
  simp [head, content, side, fresh]

theorem Link.request_none {k : Link} {p : Place} {rest : List Place} (head : k.inbound = p :: rest)
    (h : (∃ kind status, p.content = .marker kind status) ∨ k.sideList ≠ [] ∨ p.confirmed = true) : k.request = none := by
  unfold Link.request
  rcases h with ⟨kind, status, marker⟩ | listed | drains
  · simp [head, marker]
  · rw [if_neg (by simpa using listed)]
  · cases content : p.content <;> simp [head, content, drains]

theorem Link.request_empty {k : Link} (h : k.inbound = []) : k.request = none := by
  unfold Link.request
  simp [h]

/-! ## The notice needs (R6) -/

theorem State.loanCount_resident {s : State} {id n : Nat} {p : Patron} (found : s.findPatron id = some n)
    (resident : s.patronAt n = some p) : s.loanCount id = p.loans.length := by
  simp [State.loanCount, found, resident]

theorem State.loanCount_other {s : State} {id : Nat} (h : ∀ n, s.findPatron id = some n → s.patronAt n = none) :
    s.loanCount id = 0 := by
  unfold State.loanCount
  cases found : s.findPatron id with
  | none => rfl
  | some n => simp [h n found]

theorem State.noticeNeed_request (s : State) (code : ReqCode) (id : Nat) (rest : List Nat) :
    s.noticeNeed (.request code (id :: rest)) =
      if s.findPatron id = none then max 1 (s.requestFigure code id) else s.requestFigure code id := by
  simp [State.noticeNeed]

theorem State.noticeNeed_message {m : Message} (h : ∀ tag title found shelf, m ≠ .titleLoad tag title found shelf)
    (s : State) (kind : Nat) : s.noticeNeed (.message kind m) = 4 := by
  cases m with
  | titleLoad => exact absurd rfl (h _ _ _ _)
  | _ => rfl

theorem State.residentTitle_waiting {s : State} {title waiting : Nat}
    (h : (∃ n tt, s.findTitle title = some n ∧ s.titleAt n = some tt ∧ waiting = tt.waiting) ∨
      (∀ n, s.findTitle title = some n → s.titleAt n = none) ∧ waiting = 0) :
    ((s.residentTitle title).map Title.waiting).getD 0 = waiting := by
  unfold State.residentTitle
  rcases h with ⟨n, tt, found, resident, rfl⟩ | ⟨other, rfl⟩
  · simp [found, resident]
  · cases found : s.findTitle title with
    | none => rfl
    | some n => simp [other n found]

/-! ## A grant, and a refusal for room (R5, R7) -/

/-- A lane request's grant marks its exchange; any other position's marks nothing. -/
theorem State.markGranted_lane {s : State} {l : Lane} {ex : Exchange} (open_ : (s.lane l).exchange = some ex) :
    s.markGranted l.val = s.setStep l ex (.working .granted) := by
  unfold State.markGranted
  rw [dif_pos l.isLt]
  simp only [Fin.eta, open_]

theorem State.markGranted_other (s : State) {p : Nat} {l : Lane} (h : l.val ≠ p) : (s.markGranted p).lane l = s.lane l := by
  unfold State.markGranted
  split
  · rename_i lt
    dsimp only
    split
    · exact s.lane_setLane_ne _ fun e => h (congrArg Fin.val e)
    · rfl
  · rfl

theorem State.originOf_lane {s : State} {l : Lane} {ex : Exchange} (open_ : (s.lane l).exchange = some ex) :
    s.originOf l.val = some ⟨l, ex.station, (s.lane l).gen⟩ := by
  unfold State.originOf
  rw [dif_pos l.isLt]
  exact congrArg (Option.map fun e : Exchange => (⟨l, e.station, (s.lane l).gen⟩ : Origin)) open_

theorem State.serviceLimited_lane {s : State} {l : Lane} {ex : Exchange} (open_ : (s.lane l).exchange = some ex) :
    s.serviceLimited l.val = s.takeAnswer l ex ⟨[], .refused .serviceLimited⟩ false := by
  unfold State.serviceLimited
  rw [dif_pos l.isLt]
  simp only [Fin.eta, open_]

/-- An answer without fields sends its final. -/
theorem State.takeAnswer_closes {s : State} {l : Lane} (quiet : (s.lane l).closingCall = none) (ex : Exchange) (r : Refused)
    (g : Bool) (index : ∀ code, (Final.refused r).fieldIndex code = 0) :
    Closes s (s.takeAnswer l ex ⟨[], .refused r⟩ g) l ex (.refused r) ex.code 0 := by
  have e : s.takeAnswer l ex ⟨[], .refused r⟩ g = s.sendFinal l ex (.refused r) ex.code 0 := by
    unfold State.takeAnswer
    simp only [quiet, State.sendAnswer, index]
  rw [e]
  exact closes_sendFinal s l ex _ _ _

/-- An answer is kept while a LANE_CLOSING final awaits its ACCEPT. -/
theorem State.takeAnswer_kept {s : State} {l : Lane} {c : Station} (closing : (s.lane l).closingCall = some c)
    (ex : Exchange) (a : Answer) (g : Bool) : s.takeAnswer l ex a g = s.setStep l ex (.working (.answered a g)) := by
  unfold State.takeAnswer
  simp only [closing]

/-! ## The search (R5) -/

theorem State.search_off {s : State}
    (h : s.arbiter.restartPending = true ∨ s.arbiter.resetDue = true ∨ s.engine ≠ .free) : s.search = s := by
  refine if_neg ?_
  rcases h with pending | due | occupied
  · simp [pending]
  · simp [due]
  · cases e : s.engine <;> simp_all [Engine.isFree]

theorem State.search_on {s : State} (running : s.arbiter.restartPending = false) (settled : s.settled)
    (free : s.engine = .free) : s.search = s.searchOver (rotation s.arbiter.pointer) := by
  have due : s.arbiter.resetDue = false := settled
  exact if_pos (by simp [free, running, due, Engine.isFree])

/-- A lane request without room on a link that is DOWN is refused on the way, and the search goes on. -/
theorem State.searchOver_refuses {s : State} {l : Lane} {k : OpKind} (free : s.engine = .free) (after : List Nat)
    (request : s.requestAt l.val = some k) (room : 128 - s.link.outbound.length < s.noticeNeed k)
    (down : s.link.up = false) :
    s.searchOver (l.val :: after) = (s.serviceLimited l.val).searchOver after := by
  rw [State.searchOver, request]
  refine (if_neg ?_).trans (if_pos ⟨l.isLt, down⟩)
  rw [State.freeEntries_free free]
  omega

end Sys2Proof.Machine
end

section
/-! PROOF. What completes a granted operation (R1, R8, R10, R11): its work carries the grant to the completion, which hands
the lane result over. -/

namespace Sys2Proof.Machine

/-! ## The grant, through an operation's work -/

/-- The operation record as far as the completion goes by its grant. -/
structure SameGrant (op done : Op) : Prop where
  kind : done.kind = op.kind
  resetOwed : done.resetOwed = op.resetOwed
  origin : done.origin = op.origin

theorem SameGrant.refl (op : Op) : SameGrant op op := ⟨rfl, rfl, rfl⟩

theorem SameGrant.trans {a b c : Op} (h : SameGrant a b) (h' : SameGrant b c) : SameGrant a c :=
  ⟨h'.kind.trans h.kind, h'.resetOwed.trans h.resetOwed, h'.origin.trans h.origin⟩

/-- t is s but for the outbound queue, the Fault Log and what the operation record holds besides its grant and its station
notices: posts, faults and counted traps change no more. -/
def OnlyPosts (s t : State) : Prop :=
  ∃ q f g, t = ({ s.setOutbound q with faults := f } : State).mapOp g ∧
    ∀ op, SameGrant op (g op) ∧ (g op).handed = op.handed

theorem OnlyPosts.outbound (s : State) (q : List Notice) (f : FaultLog) :
    OnlyPosts s { s.setOutbound q with faults := f } := by
  refine ⟨q, f, id, ?_, fun op => ⟨.refl op, rfl⟩⟩
  unfold State.mapOp
  cases h : s.engine <;> simp [Engine.mapOp, h, State.setOutbound]

theorem OnlyPosts.refl (s : State) : OnlyPosts s s := .outbound s s.link.outbound s.faults

theorem OnlyPosts.setOutbound (s : State) (q : List Notice) : OnlyPosts s (s.setOutbound q) := .outbound s q s.faults

theorem OnlyPosts.append (s : State) (n : Notice) : OnlyPosts s (s.append n) := .setOutbound s _

theorem OnlyPosts.mapOp (s : State) {g : Op → Op} (same : ∀ op, SameGrant op (g op) ∧ (g op).handed = op.handed) :
    OnlyPosts s (s.mapOp g) := ⟨s.link.outbound, s.faults, g, rfl, same⟩

theorem State.post_onlyPosts (s : State) (n : Notice) : OnlyPosts s (s.post n) := by
  unfold State.post
  split
  · exact .setOutbound s _
  · split
    · split
      · exact .mapOp s fun op => ⟨⟨rfl, rfl, rfl⟩, rfl⟩
      · split
        · exact ⟨s.link.outbound ++ [n], s.faults, _, rfl, fun op => ⟨⟨rfl, rfl, rfl⟩, rfl⟩⟩
        · split
          · exact .append s n
          · exact .mapOp s fun op => ⟨⟨rfl, rfl, rfl⟩, rfl⟩
    · exact .refl s

theorem State.postIfRoom_onlyPosts (s : State) (n : Notice) : OnlyPosts s (s.postIfRoom n) := by
  unfold State.postIfRoom
  split
  · exact .setOutbound s _
  · split
    · exact .append s n
    · exact .refl s

theorem State.logFault_onlyPosts (s : State) (c : FaultClass) (src : Source) (ctx : Context) :
    OnlyPosts s (s.logFault c src ctx) := by
  unfold State.logFault
  dsimp only
  split
  · exact .outbound s s.link.outbound _
  · split
    · exact .outbound s (s.link.outbound ++ [_]) _
    · exact .outbound s s.link.outbound _

theorem State.trapped_onlyPosts (s : State) : OnlyPosts s (s.mapOp fun op => { op with traps := op.traps + 1 }) :=
  .mapOp s fun _ => ⟨⟨rfl, rfl, rfl⟩, rfl⟩

/-- What the completion finds as the grant left it. -/
structure Carries (s t : State) : Prop where
  arbiter : t.arbiter = s.arbiter
  inbound : t.link.inbound = s.link.inbound
  op : ∀ op, s.engine = .busy op → ∃ done, t.engine = .busy done ∧ SameGrant op done

theorem Carries.refl (s : State) : Carries s s := ⟨rfl, rfl, fun op busy => ⟨op, busy, .refl op⟩⟩

theorem Carries.trans {s t u : State} (h : Carries s t) (h' : Carries t u) : Carries s u := by
  refine ⟨h'.arbiter.trans h.arbiter, h'.inbound.trans h.inbound, fun op busy => ?_⟩
  obtain ⟨mid, busyMid, same⟩ := h.op op busy
  obtain ⟨done, busyDone, same'⟩ := h'.op mid busyMid
  exact ⟨done, busyDone, same.trans same'⟩

theorem Carries.of_same {s t : State} (engine : t.engine = s.engine) (arbiter : t.arbiter = s.arbiter)
    (link : t.link = s.link) : Carries s t :=
  ⟨arbiter, congrArg Link.inbound link, fun op busy => ⟨op, engine.trans busy, .refl op⟩⟩

theorem Carries.mapOp (s : State) {g : Op → Op} (same : ∀ op, SameGrant op (g op)) : Carries s (s.mapOp g) :=
  ⟨rfl, rfl, fun op busy => ⟨g op, by simp [busy, Engine.mapOp], same op⟩⟩

theorem OnlyPosts.carries {s t : State} (h : OnlyPosts s t) : Carries s t := by
  obtain ⟨q, f, g, rfl, same⟩ := h
  have queued : Carries s { s.setOutbound q with faults := f } := ⟨rfl, rfl, fun op busy => ⟨op, busy, .refl op⟩⟩
  exact queued.trans (.mapOp _ fun op => (same op).1)

theorem SameButLanes.carries {s t : State} (h : SameButLanes s t) : Carries s t := .of_same h.engine h.arbiter h.link

theorem Adjusts.carries {s t : State} (h : Adjusts s t) : Carries s t := by
  cases h with
  | lanes same => exact same.carries
  | answer a => exact .mapOp _ fun _ => ⟨rfl, rfl, rfl⟩
  | hand o n =>
    cases o with
    | none => exact .refl s
    | some o => exact .mapOp _ fun _ => ⟨rfl, rfl, rfl⟩
  | faults f => exact .of_same rfl rfl rfl

/-- An operation's work carries its grant to the completion. -/
theorem Works.carries {s t : State} (works : Works Adjusts s t) : Carries s t := by
  induction works with
  | refl => exact .refl s
  | tables _ only ih =>
    exact ih.trans (.of_same (congrArg State.engine only :) (congrArg State.arbiter only :) (congrArg State.link only :))
  | post _ n ih => exact ih.trans (State.post_onlyPosts _ n).carries
  | postIfRoom _ n ih => exact ih.trans (State.postIfRoom_onlyPosts _ n).carries
  | logFault _ c src ctx ih => exact ih.trans (State.logFault_onlyPosts _ c src ctx).carries
  | trapped _ ih => exact ih.trans (State.trapped_onlyPosts _).carries
  | extra _ step ih => exact ih.trans step.carries

/-! ## The lanes, through a request's work -/

/-- What a request's completion finds of the lanes, and of the station notices, as the grant left it: only the station
states of the request's own lane may have changed. -/
structure KeepsLines (o : Origin) (s t : State) : Prop where
  others : ∀ l, l ≠ o.lane → t.lane l = s.lane l
  exchange : (t.lane o.lane).exchange = (s.lane o.lane).exchange
  gen : (t.lane o.lane).gen = (s.lane o.lane).gen
  closingCall : (t.lane o.lane).closingCall = (s.lane o.lane).closingCall
  sent : t.laneOut = s.laneOut
  handed : ∀ op, s.engine = .busy op → ∃ done, t.engine = .busy done ∧ done.handed = op.handed

variable {o : Origin}

theorem KeepsLines.trans {s t u : State} (h : KeepsLines o s t) (h' : KeepsLines o t u) : KeepsLines o s u := by
  refine ⟨fun l other => (h'.others l other).trans (h.others l other), h'.exchange.trans h.exchange, h'.gen.trans h.gen,
    h'.closingCall.trans h.closingCall, h'.sent.trans h.sent, fun op busy => ?_⟩
  obtain ⟨mid, busyMid, same⟩ := h.handed op busy
  obtain ⟨done, busyDone, same'⟩ := h'.handed mid busyMid
  exact ⟨done, busyDone, same'.trans same⟩

theorem KeepsLines.of_same {s t : State} (engine : t.engine = s.engine) (lanes : t.lanes = s.lanes)
    (sent : t.laneOut = s.laneOut) : KeepsLines o s t := by
  have lane (l : Lane) : t.lane l = s.lane l := congrArg (fun v => v.get l) lanes
  exact ⟨fun l _ => lane l, by rw [lane], by rw [lane], by rw [lane], sent, fun op busy => ⟨op, engine.trans busy, rfl⟩⟩

theorem OnlyPosts.keepsLines {s t : State} (h : OnlyPosts s t) : KeepsLines o s t := by
  obtain ⟨q, f, g, rfl, same⟩ := h
  refine ⟨fun _ _ => rfl, rfl, rfl, rfl, rfl, fun op busy => ⟨g op, ?_, (same op).2⟩⟩
  simp [State.setOutbound, busy, Engine.mapOp]

theorem AtStation.keepsLines {s t : State} (h : AtStation o s t) : KeepsLines o s t := by
  obtain ⟨x, rfl, exchange, gen, closing⟩ := h
  refine ⟨fun l other => s.lane_setLane_ne x other, ?_, ?_, ?_, rfl, fun op busy => ⟨op, busy, rfl⟩⟩ <;>
    rwa [State.lane_setLane]

/-- A request's work keeps the lines of the lanes. -/
theorem Works.keepsLines {s t : State} (works : Works (AtStation o) s t) : KeepsLines o s t := by
  induction works with
  | refl => exact .of_same rfl rfl rfl
  | tables _ only ih =>
    exact ih.trans (.of_same (congrArg State.engine only :) (congrArg State.lanes only :) (congrArg State.laneOut only :))
  | post _ n ih => exact ih.trans (State.post_onlyPosts _ n).keepsLines
  | postIfRoom _ n ih => exact ih.trans (State.postIfRoom_onlyPosts _ n).keepsLines
  | logFault _ c src ctx ih => exact ih.trans (State.logFault_onlyPosts _ c src ctx).keepsLines
  | trapped _ ih => exact ih.trans (State.trapped_onlyPosts _).keepsLines
  | extra _ step ih => exact ih.trans step.keepsLines

/-! ## The completion (R10, R11) -/

/-- The state at the completion of an operation: a warm reset owed is due then, and otherwise its results have gone to the
requester. -/
def State.atCompletion (s : State) (op : Op) : State :=
  if op.resetOwed then
    { s.leaveQueue op with engine := .free, arbiter := { (s.leaveQueue op).arbiter with resetDue := true } }
  else { ((s.leaveQueue op).routeAnswer op).handNotices op.handed with engine := .free }

theorem State.finishOp_eq (s : State) (op : Op) (claims : List Claim) :
    s.finishOp op claims =
      if op.resetOwed then s.atCompletion op else ((s.atCompletion op).claimAll claims).search := by
  unfold State.finishOp State.atCompletion
  split <;> rfl

theorem State.complete_done {s : State} {op : Op} (busy : s.engine = .busy op) (done : op.waiting = [])
    (claims : List Claim) : s.complete claims = s.finishOp op claims := by
  unfold State.complete
  simp [busy, done]

theorem State.complete_waits {s : State} {op : Op} (busy : s.engine = .busy op) (waits : op.waiting ≠ [])
    (claims : List Claim) : s.complete claims = { s with engine := .waitingRoom op } := by
  unfold State.complete
  simp [busy, waits]

theorem State.atCompletion_engine (s : State) (op : Op) : (s.atCompletion op).engine = .free := by
  unfold State.atCompletion
  split <;> rfl

theorem State.atCompletion_eq (s : State) (op : Op) :
    (s.atCompletion op).link.inbound = (s.leaveQueue op).link.inbound ∧
      (s.atCompletion op).arbiter =
        if op.resetOwed then { (s.leaveQueue op).arbiter with resetDue := true } else (s.leaveQueue op).arbiter := by
  unfold State.atCompletion
  split
  · exact ⟨rfl, rfl⟩
  · have same : SameButLanes (s.leaveQueue op) (((s.leaveQueue op).routeAnswer op).handNotices op.handed) :=
      ((SameButLanes.refl _).routeAnswer _).handNotices _
    exact ⟨congrArg Link.inbound same.link, same.arbiter⟩

/-- The completion of a work that has carried its grant. -/
theorem Carries.completes {s w : State} {op done : Op} (carries : Carries s w) (settled : s.settled)
    (same : SameGrant op done) (claims : List Claim) :
    Completes s (w.atCompletion done) (w.finishOp done claims).startSending op claims := by
  have due : s.arbiter.resetDue = false := settled
  obtain ⟨inbound, arbiter⟩ := w.atCompletion_eq done
  refine ⟨w.atCompletion_engine done, ?_, ?_, ?_⟩
  · rw [inbound, State.leaveQueue_inbound, same.kind, carries.inbound]
  · rw [arbiter, State.leaveQueue_arbiter, same.kind, same.resetOwed, carries.arbiter]
    cases op.resetOwed <;> simp [due]
  · rw [State.finishOp_eq, same.resetOwed]
    split <;> rfl

end Sys2Proof.Machine
end

section
/-! PROOF. The row of a granted operation completes it or waits for room, and a completed request's result goes to its
lane (R5, R8, R10, R11, R161). -/

namespace Sys2Proof.Machine

/-! ## The claims and the search leave no operation waiting for room -/

theorem State.announce_engine (s : State) (l : Lane) :
    (s.announce l).engine = s.engine ∧ (s.announce l).arbiter = s.arbiter := by
  rcases s.announce_cases l with ⟨q, -, e⟩ | ⟨-, ⟨-, e⟩ | ⟨-, e⟩⟩ <;> rw [e] <;> exact ⟨rfl, rfl⟩

theorem State.claim_engine (s : State) (c : Claim) :
    (s.claim c).engine = s.engine ∧ (s.claim c).arbiter = s.arbiter := by
  cases c with
  | fault =>
    show s.postOwedFault.engine = _ ∧ s.postOwedFault.arbiter = _
    unfold State.postOwedFault
    split
    · split <;> exact ⟨rfl, rfl⟩
    · exact ⟨rfl, rfl⟩
  | laneState l =>
    show (s.postOwedLaneState l).engine = _ ∧ (s.postOwedLaneState l).arbiter = _
    unfold State.postOwedLaneState
    split
    · exact s.announce_engine l
    · exact ⟨rfl, rfl⟩
  | overrun =>
    show s.confirmOverrun.engine = _ ∧ s.confirmOverrun.arbiter = _
    unfold State.confirmOverrun
    split
    · split
      · split
        · exact ⟨rfl, rfl⟩
        · split <;> exact ⟨rfl, rfl⟩
      · exact ⟨rfl, rfl⟩
    · exact ⟨rfl, rfl⟩
  | sideList =>
    show s.moveSideList.engine = _ ∧ s.moveSideList.arbiter = _
    unfold State.moveSideList
    split
    · split <;> exact ⟨rfl, rfl⟩
    · exact ⟨rfl, rfl⟩
  | marker =>
    show s.confirmMarker.engine = _ ∧ s.confirmMarker.arbiter = _
    unfold State.confirmMarker
    split
    · split <;> exact ⟨rfl, rfl⟩
    · exact ⟨rfl, rfl⟩

theorem State.claimAll_engine (s : State) (cs : List Claim) :
    (s.claimAll cs).engine = s.engine ∧ (s.claimAll cs).arbiter = s.arbiter := by
  unfold State.claimAll
  induction cs generalizing s with
  | nil => exact ⟨rfl, rfl⟩
  | cons c cs ih =>
    obtain ⟨engine, arbiter⟩ := ih (s.claim c)
    exact ⟨engine.trans (s.claim_engine c).1, arbiter.trans (s.claim_engine c).2⟩

/-- A search leaves the engine FREE or grants. -/
theorem State.searchOver_not_waiting {s : State} (h : ∀ op, s.engine ≠ .waitingRoom op) (ps : List Nat) (op : Op) :
    (s.searchOver ps).engine ≠ .waitingRoom op := by
  induction ps generalizing s with
  | nil => exact h op
  | cons p ps ih =>
    rw [State.searchOver]
    split
    · exact ih h
    · split
      · exact nofun
      · split
        · refine ih fun op => ?_
          rw [((SameButLanes.refl s).serviceLimited p).engine]
          exact h op
        · exact ih h

theorem State.search_not_waiting {s : State} (h : ∀ op, s.engine ≠ .waitingRoom op) (op : Op) :
    s.search.engine ≠ .waitingRoom op := by
  unfold State.search
  split
  · exact State.searchOver_not_waiting h _ op
  · exact h op

theorem State.finishOp_not_waiting (s : State) (op : Op) (claims : List Claim) (other : Op) :
    (s.finishOp op claims).engine ≠ .waitingRoom other := by
  have free := s.atCompletion_engine op
  rw [State.finishOp_eq]
  split
  · rw [free]
    exact nofun
  · refine State.search_not_waiting (fun op' => ?_) _
    rw [(State.claimAll_engine _ _).1, free]
    exact nofun

/-! ## The lane result of a completed request (R10, R161) -/

/-- The lane takes an answer: it begins to send it, with one word, or keeps it while a LANE_CLOSING final awaits its
ACCEPT. -/
theorem State.sendAnswer_sent (s : State) (l : Lane) (ex : Exchange) (a : Answer) :
    ∃ w, (s.sendAnswer l ex a).laneOut = s.laneOut ++ [(l, w)] := by
  unfold State.sendAnswer
  split <;> exact ⟨_, rfl⟩

theorem State.sendAnswer_lane_ne (s : State) {l k : Lane} (other : k ≠ l) (ex : Exchange) (a : Answer) :
    (s.sendAnswer l ex a).lane k = s.lane k := by
  unfold State.sendAnswer
  split
  · exact (closes_sendFinal s l ex _ _ _).others k other
  · exact ((OnlyLane.setLane s l _).sendAwaited _).others k other

theorem State.handAnswer_accepted {s : State} {o : Origin} {ex : Exchange} (open_ : (s.lane o.lane).exchange = some ex)
    (accepts : ex.step = .working .granted ∧ (s.lane o.lane).gen = o.gen ∧ ex.station = o.station) (a : Answer) :
    s.handAnswer o a = s.takeAnswer o.lane ex a true := by
  unfold State.handAnswer
  simp only [open_]
  exact if_pos accepts

theorem State.handAnswer_dropped {s : State} {o : Origin}
    (drops : ∀ ex, (s.lane o.lane).exchange = some ex →
      ¬ (ex.step = .working .granted ∧ (s.lane o.lane).gen = o.gen ∧ ex.station = o.station)) (a : Answer) :
    s.handAnswer o a = s := by
  unfold State.handAnswer
  dsimp only
  split
  · rename_i ex open_
    exact if_neg (drops ex open_)
  · rfl

theorem State.takeAnswer_lane_ne (s : State) {l k : Lane} (other : k ≠ l) (ex : Exchange) (a : Answer) (g : Bool) :
    (s.takeAnswer l ex a g).lane k = s.lane k := by
  unfold State.takeAnswer
  split
  · exact s.lane_setLane_ne _ other
  · exact s.sendAnswer_lane_ne other ex a

theorem State.leaveQueue_frame (s : State) (op : Op) :
    (s.leaveQueue op).engine = s.engine ∧ (s.leaveQueue op).lanes = s.lanes ∧ (s.leaveQueue op).laneOut = s.laneOut := by
  unfold State.leaveQueue
  split <;> exact ⟨rfl, rfl, rfl⟩

/-- A state whose lanes and words are s's has handed nothing over, as is right when nothing accepts. -/
theorem HandsOver.of_same {s v : State} {op : Op} {o : Origin} (lane : ∀ l, v.lane l = s.lane l) (sent : v.laneOut = s.laneOut)
    (drops : ∀ ex, (s.lane o.lane).exchange = some ex →
      ¬ (ex.step = .working .granted ∧ (s.lane o.lane).gen = o.gen ∧ ex.station = o.station ∧ op.resetOwed = false)) :
    HandsOver s v op o := by
  refine ⟨fun l _ => lane l, fun closed => ⟨by rw [lane, closed], sent⟩,
    fun ex open_ => ⟨fun accepts => ?_, fun _ => ?_⟩⟩
  · exact absurd accepts (drops ex open_)
  · exact ⟨by rw [lane, open_], sent⟩

/-- Handing an answer to the lane of an operation that no reset ends. -/
theorem HandsOver.of_handAnswer {s : State} {op : Op} (runs : op.resetOwed = false) (o : Origin) (a : Answer) :
    HandsOver s (s.handAnswer o a) op o := by
  by_cases waits : ∃ ex, (s.lane o.lane).exchange = some ex ∧
      (ex.step = .working .granted ∧ (s.lane o.lane).gen = o.gen ∧ ex.station = o.station)
  · obtain ⟨ex, open_, accepts⟩ := waits
    rw [State.handAnswer_accepted open_ accepts]
    refine ⟨fun l other => s.takeAnswer_lane_ne other ex a true, fun closed => ?_, fun other still => ?_⟩
    · rw [closed] at open_
      cases open_
    · obtain rfl : ex = other := Option.some.inj (open_.symm.trans still)
      refine ⟨fun _ => ⟨a, fun quiet => ?_, fun c closing => ?_⟩, fun refuses => ?_⟩
      · have e : s.takeAnswer o.lane ex a true = s.sendAnswer o.lane ex a := by
          unfold State.takeAnswer
          simp only [quiet]
        rw [e]
        exact ⟨s.sendAnswer_exchange _ _ _, s.sendAnswer_sent _ _ _⟩
      · rw [State.takeAnswer_kept closing]
        exact ⟨by simp [State.setStep], rfl⟩
      · obtain ⟨granted, gen, station⟩ := accepts
        exact absurd ⟨granted, gen, station, runs⟩ refuses
  · have drops : ∀ ex, (s.lane o.lane).exchange = some ex →
        ¬ (ex.step = .working .granted ∧ (s.lane o.lane).gen = o.gen ∧ ex.station = o.station) :=
      fun ex open_ accepts => waits ⟨ex, open_, accepts⟩
    rw [State.handAnswer_dropped drops]
    refine .of_same (fun _ => rfl) rfl fun ex open_ ⟨granted, gen, station, _⟩ => drops ex open_ ⟨granted, gen, station⟩

/-- What is handed over depends on the lanes only as the request's work keeps them. -/
theorem HandsOver.of_keepsLines {s w v : State} {op : Op} {o : Origin} (keeps : KeepsLines o s w) (h : HandsOver w v op o) :
    HandsOver s v op o := by
  obtain ⟨others, closed, open_⟩ := h
  rw [keeps.exchange, keeps.sent] at closed
  rw [keeps.exchange, keeps.sent, keeps.gen, keeps.closingCall] at open_
  exact ⟨fun l other => (others l other).trans (keeps.others l other), closed, open_⟩

/-- The completion of a request that handed no station notice. -/
theorem HandsOver.of_atCompletion {w : State} {done op : Op} {o : Origin} {a : Answer} (origin : done.origin = some o)
    (answer : done.answer = some a) (silent : done.handed = []) (owed : done.resetOwed = op.resetOwed) :
    HandsOver w (w.atCompletion done) op o := by
  obtain ⟨engine, lanes, sent⟩ := w.leaveQueue_frame done
  unfold State.atCompletion
  split
  · rename_i due
    refine .of_same (fun l => congrArg (fun v => v.get l) lanes) sent fun ex _ accepts => ?_
    obtain ⟨-, -, -, runs⟩ := accepts
    rw [← owed, due] at runs
    cases runs
  · rename_i runs
    have route : (w.leaveQueue done).routeAnswer done = (w.leaveQueue done).handAnswer o a := by
      simp [State.routeAnswer, origin, answer]
    have handed := HandsOver.of_handAnswer (s := w.leaveQueue done) (op := op) (by simpa [owed] using runs) o a
    rw [route, silent]
    exact handed.of_keepsLines (.of_same engine lanes sent)

end Sys2Proof.Machine
end

section
/-! PROOF. The row of a granted operation completes it or waits for room (R8, R10), STATUS_READ and RESTART, and the
statement on the arbiter. -/

namespace Sys2Proof.Machine

/-! ## The row of a granted operation (R8, R10) -/

/-- What the command of an operation answers once its work w is done: it waits for room with the grant as it was, or
completes. -/
theorem Carries.row {s w : State} {op done : Op} (carries : Carries s w) (settled : s.settled)
    (busy : w.engine = .busy done) (same : SameGrant op done) (claims : List Claim) :
    let t := (w.complete claims).startSending
    (∀ left, t.engine = .waitingRoom left →
      left.waiting ≠ [] ∧ left.kind = op.kind ∧ left.resetOwed = op.resetOwed ∧ t.link.inbound = s.link.inbound ∧
        t.arbiter = s.arbiter) ∧
    ((∀ left, t.engine ≠ .waitingRoom left) → Completes s (w.atCompletion done) t op claims) := by
  by_cases waits : done.waiting = []
  · have e := State.complete_done busy waits claims
    rw [e]
    exact ⟨fun left room => absurd room (State.finishOp_not_waiting _ _ _ left),
      fun _ => carries.completes settled same claims⟩
  · rw [State.complete_waits busy waits]
    refine ⟨fun left room => ?_, fun completes => absurd rfl (completes done)⟩
    obtain rfl : done = left := Engine.waitingRoom.inj room
    exact ⟨waits, same.kind, same.resetOwed, carries.inbound, carries.arbiter⟩

/-- The command of a row that performs an operation. -/
theorem State.command_perform {s : State} {op : Op} {mine : OpKind → Bool} (settled : s.settled) (busy : s.engine = .busy op)
    (isMine : mine op.kind = true) (work : Op → State → State) (x : Crossing) :
    State.command (State.perform mine work x) s =
      .next ((work op { s with upsets := s.upsets ++ x.flips }).complete x.claims).startSending := by
  rw [State.command_eq s _ settled]
  unfold State.perform
  simp only [busy, isMine, ↓reduceIte]

/-- The errors that cross an operation change nothing that a completion finds. -/
theorem Works.of_crossed {K : State → State → Prop} {s w : State} (fs : List Flip)
    (works : Works K { s with upsets := fs } w) : Works K s w := by
  induction works with
  | refl => exact Works.refl.tables rfl
  | tables _ only ih => exact ih.tables only
  | post _ n ih => exact ih.post n
  | postIfRoom _ n ih => exact ih.postIfRoom n
  | logFault _ c src ctx ih => exact ih.logFault c src ctx
  | trapped _ ih => exact ih.trapped
  | extra _ step ih => exact ih.extra step

/-- A request's completion hands its answer over. -/
theorem State.answer_handsOver {s : State} {op : Op} {o : Origin} {x : Served} (busy : s.engine = .busy op)
    (origin : op.origin = some o) (silent : op.handed = []) (works : Works (AtStation op.from) s x.1) :
    ∀ done, (State.answer x).engine = .busy done → HandsOver s ((State.answer x).atCompletion done) op o := by
  intro done busyDone
  have from_ : op.from = o := by simp [Op.from, origin]
  rw [from_] at works
  have keeps := works.keepsLines
  obtain ⟨left, busyLeft, same⟩ := (works.mono fun _ _ h => h.adjusts).carries.op op busy
  obtain ⟨left', busyLeft', handed⟩ := keeps.handed op busy
  obtain rfl : left = left' := Engine.busy.inj (busyLeft.symm.trans busyLeft')
  have e : (State.answer x).engine = .busy { left with answer := some x.2 } := by
    simp [State.answer, busyLeft, Engine.mapOp]
  obtain rfl : { left with answer := some x.2 } = done := Engine.busy.inj (e.symm.trans busyDone)
  have lines : KeepsLines o x.1 (State.answer x) :=
    ⟨fun _ _ => rfl, rfl, rfl, rfl, rfl, fun op' busy' =>
      ⟨{ op' with answer := some x.2 }, by simp [State.answer, busy', Engine.mapOp], rfl⟩⟩
  have handsOver := HandsOver.of_atCompletion (w := State.answer x) (done := { left with answer := some x.2 })
    (same.origin.trans origin) rfl (handed.trans silent) same.resetOwed
  exact handsOver.of_keepsLines (keeps.trans lines)

/-- The row of a granted operation: it waits for room, or completes and hands a request's result to its lane. -/
theorem OpKind.row {s : State} {op : Op} (settled : s.settled) (busy : s.engine = .busy op) (x : Crossing) :
    ∃ t, exec (op.kind.command x) s = .next t ∧
      (∀ done, t.engine = .waitingRoom done →
        done.waiting ≠ [] ∧ done.kind = op.kind ∧ done.resetOwed = op.resetOwed ∧ t.link.inbound = s.link.inbound ∧
          t.arbiter = s.arbiter) ∧
      ((∀ done, t.engine ≠ .waitingRoom done) → ∃ v, Completes s v t op x.claims ∧
        ∀ code fields o, op.kind = .request code fields → op.origin = some o → op.handed = [] → HandsOver s v op o) := by
  have row : ∃ w, exec (op.kind.command x) s = .next (w.complete x.claims).startSending ∧ Works Adjusts s w ∧
      ∀ done, w.engine = .busy done → ∀ code fields o, op.kind = .request code fields → op.origin = some o →
        op.handed = [] → HandsOver s (w.atCompletion done) op o := by
    by_cases request : ∃ code fields, op.kind = .request code fields
    · obtain ⟨code, fields, kind⟩ := request
      have works : Works (AtStation op.from) s _ := (code.works op { s with upsets := s.upsets ++ x.flips }).of_crossed _
      refine ⟨_, ?_, (works.mono fun _ _ h => h.adjusts).answer, fun done busyDone _ _ o _ origin silent => ?_⟩
      · rw [kind, OpKind.command, code.exec_command]
        exact State.command_perform settled busy (by simp [kind, OpKind.isRequest]) _ x
      · exact State.answer_handsOver busy origin silent works done busyDone
    · obtain ⟨mine, isMine, work, works, performs⟩ := op.kind.performsBy
      refine ⟨_, (performs x s).trans (State.command_perform settled busy isMine work x), (works op _).of_crossed _,
        fun _ _ code fields _ kind => absurd ⟨code, fields, kind⟩ request⟩
  obtain ⟨w, performs, works, hands⟩ := row
  obtain ⟨done, busyDone, same⟩ := works.carries.op op busy
  obtain ⟨waits, completes⟩ := works.carries.row settled busyDone same x.claims
  exact ⟨_, performs, waits, fun free => ⟨_, completes free, hands done busyDone⟩⟩

/-! ## STATUS_READ (R183) and RESTART (R11) -/

/-- The place of a field in a table of rows of one length. -/
theorem getElem?_flatMap_rows {α β : Type} {f : α → List β} {n : Nat} (len : ∀ a, (f a).length = n) (xs : List α)
    {i j : Nat} (hj : j < n) : (xs.flatMap f)[n * i + j]? = xs[i]?.bind fun a => (f a)[j]? := by
  induction xs generalizing i with
  | nil => simp
  | cons x xs ih =>
    rw [List.flatMap_cons]
    cases i with
    | zero =>
      rw [List.getElem?_append_left (by rw [len]; omega)]
      simp
    | succ i =>
      have past : n * (i + 1) + j = n * i + j + n := by ring
      rw [past, List.getElem?_append_right (by rw [len]; omega), len, Nat.add_sub_cancel, ih]
      simp

/-- The three fields of a lane in STATUS_READ (R183). -/
def LaneUnit.statusRow (u : LaneUnit) : List CField := [⟨1, u.life.number⟩, ⟨2, u.gen⟩, ⟨1, u.roll.toNat⟩]

/-- STATUS_READ's fields: the close day and the sweep, the lanes, and the counts. -/
theorem State.statusFields_eq (s : State) :
    s.statusFields = (⟨2, s.calendar.closeDay⟩ :: s.sweep.fields) ++ (s.lanes.toList.flatMap LaneUnit.statusRow ++
      [⟨1, s.tagCount .outstanding⟩, ⟨1, s.tagCount .due⟩, ⟨1, s.tagCount .damaged⟩, ⟨1, s.link.inbound.length⟩,
        ⟨1, if s.flowHold then 1 else 0⟩, ⟨1, s.link.sideList.length⟩, ⟨1, s.link.outbound.length + 1⟩]) := by
  unfold State.statusFields
  rw [List.append_assoc]
  rfl

theorem LaneUnit.statusRows_length (v : Vector LaneUnit 16) : (v.toList.flatMap LaneUnit.statusRow).length = 48 := by
  simp [List.length_flatMap, LaneUnit.statusRow]

theorem State.statusFields_length (s : State) : s.statusFields.length = 77 := by
  rw [State.statusFields_eq, List.length_append, List.length_append, LaneUnit.statusRows_length]
  rfl

/-- A lane's three fields stand after the 22 of the close day and the sweep. -/
theorem State.statusFields_lane (s : State) (l : Lane) {i j : Nat} (hj : j < 3) (hi : i = 22 + (3 * l.val + j)) :
    s.statusFields[i]? = (s.lane l).statusRow[j]? := by
  subst hi
  have here : 3 * l.val + j < (s.lanes.toList.flatMap LaneUnit.statusRow).length := by
    rw [LaneUnit.statusRows_length]
    omega
  rw [State.statusFields_eq, List.getElem?_append_right (by exact Nat.le_add_right 22 _)]
  show (_ ++ _)[22 + (3 * l.val + j) - 22]? = _
  rw [Nat.add_sub_cancel_left, List.getElem?_append_left here, getElem?_flatMap_rows (n := 3) (fun _ => rfl) _ hj]
  simp [State.lane, vector_get]

theorem State.statusFields_tail (s : State) :
    s.statusFields.drop 70 =
      [⟨1, s.tagCount .outstanding⟩, ⟨1, s.tagCount .due⟩, ⟨1, s.tagCount .damaged⟩, ⟨1, s.link.inbound.length⟩,
        ⟨1, if 56 ≤ s.link.inbound.length then 1 else 0⟩, ⟨1, s.link.sideList.length⟩,
        ⟨1, s.link.outbound.length + 1⟩] := by
  have hold : (if s.flowHold then 1 else 0) = if 56 ≤ s.link.inbound.length then 1 else 0 :=
    if_congr decide_eq_true_iff rfl rfl
  rw [State.statusFields_eq, hold, ← List.append_assoc]
  refine List.drop_left' ?_
  rw [List.length_append, LaneUnit.statusRows_length]
  rfl

/-- No error stands in the memory or crosses a granted operation. -/
theorem Granted.crossed {s : State} {op : Op} {x : Crossing} (h : Granted s op x) :
    { s with upsets := s.upsets ++ x.flips } = s := by
  rw [h.noErr, h.noFlip]
  exact congrArg (fun u => { s with upsets := u }) h.noErr.symm

/-- A message whose work leaves the state posts its CONFIRM and completes. -/
theorem Performs.only_confirms {s : State} {op : Op} {x : Crossing} {m : Message} {row : Crossing → Instr}
    {mine : OpKind → Bool} {work : Message → State → Confirmed} {status : Status} {fields : List CField}
    (h : Performs s op x m) (room : 1 ≤ op.reservation) (isMine : mine op.kind = true)
    (performs : exec (row x) s = State.message mine work x s) (leaves : work m s = (s, status, fields)) :
    ∃ (w : State) (done : Op), exec (row x) s = .next (w.finishOp done x.claims).startSending ∧ SameGrant op done ∧
      w.tables = s.tables ∧ .confirm s.headSeq m.kind status fields ∈ w.link.outbound := by
  have named : op.message = some m := by simp [Op.message, h.kind]
  have posted := State.post_reserved (n := .confirm s.headSeq m.kind status fields) h.busy h.noWait room fun _ => rfl
  have e : exec (row x) s =
      .next ((s.post (.confirm s.headSeq m.kind status fields)).complete x.claims).startSending := by
    rw [performs]
    unfold State.message
    rw [State.command_perform h.noReset h.busy isMine, h.crossed]
    simp only [named, State.confirm, leaves]
  rw [posted, State.complete_done (op := { op with reservation := op.reservation - 1 }) rfl h.noWait] at e
  exact ⟨_, _, e, ⟨rfl, rfl, rfl⟩, rfl, by simp⟩

theorem State.finishOp_confirms {s : State} {seq kind : Nat} {status : Status} {fields : List CField}
    (h : .confirm seq kind status fields ∈ s.link.outbound) (op : Op) (claims : List Claim) :
    .confirm seq kind status fields ∈ (s.finishOp op claims).startSending.link.outbound :=
  s.finishOp_mem op claims h rfl

/-- After a RESTART the engine stays FREE: no search grants before its reset (R11). -/
theorem State.finishOp_restart (s : State) {op : Op} (restart : op.kind.isRestart = true) (claims : List Claim) :
    (s.finishOp op claims).engine = .free ∧ (s.finishOp op claims).arbiter.restartPending = true := by
  obtain ⟨-, arbiter⟩ := s.atCompletion_eq op
  have pending : (s.atCompletion op).arbiter.restartPending = true := by
    rw [arbiter, State.leaveQueue_arbiter, restart]
    split <;> exact Bool.or_true _
  have free := s.atCompletion_engine op
  rw [State.finishOp_eq]
  split
  · exact ⟨free, pending⟩
  · obtain ⟨engine, arbiter⟩ := (s.atCompletion op).claimAll_engine claims
    rw [State.search_off (.inl (by rw [arbiter, pending]))]
    exact ⟨engine.trans free, by rw [arbiter, pending]⟩

theorem State.statusWork_clean {s : State} (h : s.upsets = []) : s.statusWork = (s, .ok, s.statusFields) := by
  unfold State.statusWork
  rw [State.scanTable_clean h]

/-! ## The statement -/

theorem statusReadCarriesItsFigures {s : State} {op : Op} {x : Crossing} (room : 1 ≤ op.reservation)
    (h : Performs s op x .statusRead) :
    ∃ t, exec (.statusRead x) s = .next t ∧ t.tables = s.tables ∧ Confirms s t 13 .ok s.statusFields := by
  obtain ⟨w, done, performs, -, tables, posted⟩ := h.only_confirms room (row := .statusRead)
    (by simp [h.kind, OpKind.isMessage, Message.kind]) rfl (State.statusWork_clean h.noErr)
  exact ⟨_, performs, (w.finishOp_tables done x.claims).trans tables, State.finishOp_confirms posted _ _⟩

theorem restartSetsThePendingFlag {s : State} {op : Op} {x : Crossing} (room : 1 ≤ op.reservation)
    (h : Performs s op x .restart) :
    ∃ t, exec (.restart x) s = .next t ∧ t.tables = s.tables ∧ Confirms s t 16 .ok [] ∧
      t.arbiter.restartPending = true ∧ t.engine = .free := by
  obtain ⟨w, done, performs, same, tables, posted⟩ := h.only_confirms room (row := .restart)
    (by simp [h.kind, OpKind.isMessage, Message.kind]) rfl rfl
  obtain ⟨free, pending⟩ := w.finishOp_restart (op := done) (by rw [same.kind, h.kind]; rfl) x.claims
  exact ⟨_, performs, (w.finishOp_tables done x.claims).trans tables, State.finishOp_confirms posted _ _, pending, free⟩

/-- What a granted request leaves: the engine BUSY with it, the pointer past it and its lane's exchange granted. -/
theorem State.grant_lane {s : State} {l : Lane} {ex : Exchange} (open_ : (s.lane l).exchange = some ex) (k : OpKind) :
    s.originOf l.val = some ⟨l, ex.station, (s.lane l).gen⟩ ∧
      (s.grant l.val k).lane l = { s.lane l with exchange := some { ex with step := .working .granted } } := by
  refine ⟨State.originOf_lane open_, ?_⟩
  show (s.markGranted l.val).lane l = _
  rw [State.markGranted_lane open_]
  exact s.lane_setLane l _

/-- Settles O44. The rows of operations are those of `OpKind.row`; a search goes over the positions that stay to the first
that does not, which it grants or refuses. -/
theorem statusReadRestartAndTheArbitersSearch : Obligations.StatusReadRestartAndTheArbitersSearch := by
  refine ⟨fun s op x room => ⟨fun h => ?_, restartSetsThePendingFlag room⟩, fun s => ?_, fun s op x settled busy =>
    OpKind.row settled busy x, fun s => ?_, fun s => ⟨State.search_off, State.search_on, fun free order => ?_⟩⟩
  · obtain ⟨t, performs, tables, confirms⟩ := statusReadCarriesItsFigures room h
    exact ⟨t, performs, tables, confirms, s.statusFields_length, rfl, fun l =>
      ⟨s.statusFields_lane l (j := 0) (by decide) (by omega), s.statusFields_lane l (j := 1) (by decide) (by omega),
        s.statusFields_lane l (j := 2) (by decide) (by omega)⟩, s.statusFields_tail⟩
  · refine ⟨rfl, rfl, fun code id rest figure row => ?_, fun kind m other => State.noticeNeed_message other s kind,
      fun kind tag title found shelf waiting counts => ?_, rfl, rfl, fun _ => rfl⟩
    · have e : s.requestFigure code id = figure := by
        rcases row with ⟨rfl, rfl⟩ | ⟨rfl, rfl⟩ | ⟨rfl | rfl, rfl⟩ | ⟨rfl | rfl | rfl | rfl, rfl⟩ |
          ⟨rfl, ⟨n, p, found, resident, rfl⟩ | ⟨other, rfl⟩⟩
        iterate 8 · rfl
        · exact congrArg (· + 1) (State.loanCount_resident found resident)
        · exact congrArg (· + 1) (State.loanCount_other other)
      rw [State.noticeNeed_request, e]
    · show min 127 (max 3 (min shelf _)) + 1 = _
      rw [State.residentTitle_waiting counts]
  · refine ⟨fun l => ⟨fun ex code open_ working named => ?_, fun idle => ?_⟩,
      fun p rest head => ⟨fun kind m content side fresh => ?_, fun holds => ?_⟩, fun empty => ?_,
      fun loans => ?_, fun holds => ?_, fun idle => ?_, fun n rest line => ?_, fun empty => ?_⟩
    · rw [State.requestAt_lane, LaneUnit.request_complete open_ working named]
    · rw [State.requestAt_lane, LaneUnit.request_none idle]
    · rw [State.requestAt_link, Link.request_message head content side fresh]
    · rw [State.requestAt_link, Link.request_none head holds]
    · rw [State.requestAt_link, Link.request_empty empty]
    · simp [Sweep.request, loans]
    · simp [Sweep.request, holds]
    · simp [Sweep.request, idle]
    · simp [line]
    · simp [empty]
  · refine ⟨fun stay => ?_, fun before p after k split stay request => ⟨fun room => ?_, fun full down l ex here open_ => ?_⟩⟩
    · have e := State.searchOver_passesOver free order [] stay
      rwa [List.append_nil] at e
    · rw [split, State.searchOver_passesOver free before (p :: after) stay, State.searchOver_grant free after request room]
      refine ⟨rfl, rfl, s.grant_tables p k, s.markGranted_link p, fun l other => s.markGranted_other other, ?_⟩
      rintro l ex rfl open_
      exact State.grant_lane open_ k
    · subst here
      rw [split, State.searchOver_passesOver free before _ stay, State.searchOver_refuses free after request full down,
        State.serviceLimited_lane open_]
      refine ⟨fun quiet => ⟨_, State.takeAnswer_closes quiet ex _ _ fun _ => rfl, rfl⟩, fun c closing => ⟨_, ?_, rfl⟩⟩
      rw [State.takeAnswer_kept closing]
      exact OnlyLane.setLane s l _

end Sys2Proof.Machine
end

section
/-! PROOF. The slot that a new patron record takes (R18). -/

namespace Sys2Proof.Machine

/-! ## The lowest FREE slot -/

theorem Tbl.le_gap {α : Type} (t : Tbl α) (n : Nat) : n ≤ Tbl.gap t n := by
  induction t generalizing n with
  | nil => exact Nat.le_refl n
  | cons e t ih =>
    rw [Tbl.gap]
    split
    · exact Nat.le_of_succ_le (ih (n + 1))
    · exact Nat.le_refl n

/-- The gap is FREE, and every slot from n up to it is taken. -/
theorem Tbl.gap_spec {α : Type} {t : Tbl α} {n : Nat} (rising : (t.map Prod.fst).Pairwise (· < ·))
    (above : ∀ k ∈ t.map Prod.fst, n ≤ k) :
    Tbl.lookup t (Tbl.gap t n) = none ∧ ∀ m, n ≤ m → m < Tbl.gap t n → Tbl.lookup t m ≠ none := by
  induction t generalizing n with
  | nil => exact ⟨rfl, fun m low high => absurd low (Nat.not_le_of_lt high)⟩
  | cons e t ih =>
    obtain ⟨k, v⟩ := e
    obtain ⟨later, rising⟩ := List.pairwise_cons.mp rising
    have first : n ≤ k := above k List.mem_cons_self
    rw [Tbl.gap]
    split
    · rename_i here
      obtain ⟨free, taken⟩ := ih (n := n + 1) rising fun l hl => here ▸ later l hl
      have past := Tbl.le_gap t (n + 1)
      refine ⟨?_, fun m low high => ?_⟩
      · rw [Tbl.lookup, if_neg (by omega)]
        exact free
      · rw [Tbl.lookup]
        split
        · exact Option.some_ne_none v
        · exact taken m (by omega) high
    · rename_i skipped
      refine ⟨Tbl.lookup_none_of_below fun l hl => ?_, fun m low high => absurd low (Nat.not_le_of_lt high)⟩
      rcases List.mem_cons.mp hl with rfl | hl
      · exact Nat.lt_of_le_of_ne first (Ne.symm skipped)
      · exact Nat.lt_of_le_of_lt first (later l hl)

theorem Tbl.firstFree_eq {α : Type} {t : Tbl α} {size n : Nat} (wf : Tbl.wf t = true) (fits : n < size)
    (free : Tbl.lookup t n = none) (taken : ∀ m, m < n → Tbl.lookup t m ≠ none) : Tbl.firstFree t size = some n := by
  obtain ⟨freeGap, takenBelow⟩ := Tbl.gap_spec ((Tbl.wf_iff_pairwise t).mp wf) fun k _ => Nat.zero_le k
  have gap : Tbl.gap t 0 = n := by
    rcases Nat.lt_trichotomy (Tbl.gap t 0) n with less | here | more
    · exact absurd freeGap (taken _ less)
    · exact here
    · exact absurd free (takenBelow n (Nat.zero_le n) more)
  rw [Tbl.firstFree, gap]
  exact if_pos fits

theorem Tbl.firstFree_none {α : Type} {t : Tbl α} {size : Nat} (wf : Tbl.wf t = true)
    (full : ∀ n, n < size → Tbl.lookup t n ≠ none) : Tbl.firstFree t size = none := by
  obtain ⟨freeGap, -⟩ := Tbl.gap_spec ((Tbl.wf_iff_pairwise t).mp wf) fun k _ => Nat.zero_le k
  exact if_neg fun fits => full _ fits freeGap

/-! ## The oldest record -/

/-- A slot and its day before another: an older day, or the lower slot of one day. -/
def goesFirst (a b : Nat × Nat) : Prop := a.2 < b.2 ∨ a.2 = b.2 ∧ a.1 ≤ b.1

theorem goesFirst.refl (a : Nat × Nat) : goesFirst a a := .inr ⟨rfl, Nat.le_refl _⟩

theorem goesFirst.trans {a b c : Nat × Nat} (h : goesFirst a b) (h' : goesFirst b c) : goesFirst a c := by
  unfold goesFirst at *
  omega

theorem goesFirst.antisymm {a b : Nat × Nat} (h : goesFirst a b) (h' : goesFirst b a) : a = b := by
  unfold goesFirst at *
  exact Prod.ext (by omega) (by omega)

/-- The better of the record found so far and the next one, whose slot is higher. -/
def older (best : Option (Nat × Nat)) (e : Nat × Nat) : Option (Nat × Nat) :=
  match best with
  | none => some e
  | some b => if e.2 < b.2 then some e else some b

theorem pickOldest_eq_foldl (c : List (Nat × Nat)) : pickOldest c = (c.foldl older none).map Prod.fst := rfl

theorem foldl_older {b : Nat × Nat} {c : List (Nat × Nat)} (rising : ((b :: c).map Prod.fst).Pairwise (· < ·)) :
    ∃ r, c.foldl older (some b) = some r ∧ r ∈ b :: c ∧ ∀ e ∈ b :: c, goesFirst r e := by
  induction c generalizing b with
  | nil => exact ⟨b, rfl, List.mem_cons_self, fun e he => by rw [List.mem_singleton.mp he]; exact .refl b⟩
  | cons e c ih =>
    obtain ⟨above, rising⟩ := List.pairwise_cons.mp rising
    obtain ⟨aboveE, risingC⟩ := List.pairwise_cons.mp rising
    have low : b.1 < e.1 := above e.1 List.mem_cons_self
    by_cases hd : e.2 < b.2
    · obtain ⟨r, fold, mem, first⟩ := ih (b := e) rising
      refine ⟨r, by simpa [older, hd] using fold, List.mem_cons_of_mem _ mem, fun x hx => ?_⟩
      rcases List.mem_cons.mp hx with rfl | hx
      · exact (first e List.mem_cons_self).trans (.inl hd)
      · exact first x hx
    · have risingB : ((b :: c).map Prod.fst).Pairwise (· < ·) :=
        List.pairwise_cons.mpr ⟨fun k hk => above k (List.mem_cons_of_mem _ hk), risingC⟩
      obtain ⟨r, fold, mem, first⟩ := ih risingB
      have here : goesFirst b e := by
        unfold goesFirst
        omega
      refine ⟨r, by simpa [older, hd] using fold, ?_, fun x hx => ?_⟩
      · rcases List.mem_cons.mp mem with rfl | mem
        · exact List.mem_cons_self
        · exact List.mem_cons_of_mem _ (List.mem_cons_of_mem _ mem)
      · rcases List.mem_cons.mp hx with rfl | hx
        · exact first x List.mem_cons_self
        · rcases List.mem_cons.mp hx with rfl | hx
          · exact (first b List.mem_cons_self).trans here
          · exact first x (List.mem_cons_of_mem _ hx)

/-- The pick is the record that goes before every other. -/
theorem pickOldest_eq {c : List (Nat × Nat)} {e : Nat × Nat} (rising : (c.map Prod.fst).Pairwise (· < ·)) (mem : e ∈ c)
    (first : ∀ f ∈ c, goesFirst e f) : pickOldest c = some e.1 := by
  cases c with
  | nil => cases mem
  | cons b c =>
    obtain ⟨r, fold, memR, firstR⟩ := foldl_older rising
    rw [(first r memR).antisymm (firstR e mem), pickOldest_eq_foldl]
    exact congrArg (Option.map Prod.fst) fold

/-! ## The records that R18 lets go -/

theorem Tbl.lookup_of_mem {α : Type} {t : Tbl α} {n : Nat} {v : α} (wf : Tbl.wf t = true) (h : (n, v) ∈ t) :
    Tbl.lookup t n = some v := by
  rw [Tbl.wf_iff_pairwise] at wf
  induction t with
  | nil => cases h
  | cons e t ih =>
    obtain ⟨k, w⟩ := e
    obtain ⟨above, wf⟩ := List.pairwise_cons.mp wf
    rw [Tbl.lookup]
    rcases List.mem_cons.mp h with here | later
    · cases here
      exact if_pos rfl
    · have lt : k < n := above n (List.mem_map.mpr ⟨_, later, rfl⟩)
      rw [if_neg (Nat.ne_of_lt lt), ih wf later]

/-- A list of some slots of a table with a figure of each, by slot. -/
theorem Tbl.slots_rise {α : Type} {t : Tbl α} (wf : Tbl.wf t = true) {f : Nat × α → Option (Nat × Nat)}
    (slotwise : ∀ e g, f e = some g → g.1 = e.1) : ((t.filterMap f).map Prod.fst).Pairwise (· < ·) := by
  rw [Tbl.wf_iff_pairwise, List.pairwise_map] at wf
  rw [List.pairwise_map, List.pairwise_filterMap]
  refine wf.imp fun {a b} lt x hx y hy => ?_
  rw [slotwise a x hx, slotwise b y hy]
  exact lt

theorem State.mem_unknownDays {s : State} (wf : Tbl.wf s.patrons = true) (n day : Nat) :
    (n, day) ∈ s.unknownDays ↔ ∃ id, Tbl.lookup s.patrons n = some (.unknown id day) := by
  unfold State.unknownDays
  rw [List.mem_filterMap]
  constructor
  · rintro ⟨⟨k, r⟩, mem, e⟩
    cases r with
    | unknown id d =>
      cases e
      exact ⟨id, Tbl.lookup_of_mem wf mem⟩
    | _ => cases e
  · rintro ⟨id, found⟩
    exact ⟨_, Tbl.mem_of_lookup found, rfl⟩

theorem State.unknownDays_rise {s : State} (wf : Tbl.wf s.patrons = true) :
    (s.unknownDays.map Prod.fst).Pairwise (· < ·) :=
  Tbl.slots_rise wf fun e g h => by
    obtain ⟨k, r⟩ := e
    cases r <;> cases h
    rfl

theorem State.tagNames_false_iff (s : State) (patron : Nat) :
    s.tagNames patron = false ↔ ∀ q ∈ s.questions,
      (q.kind ≠ .titleFetch → q.subject ≠ patron) ∧ (q.kind = .titleFetch → ∀ k, q.parked = some k → k.patron ≠ patron) := by
  unfold State.tagNames
  rw [List.any_eq_false]
  refine forall₂_congr fun q _ => ?_
  cases kind : q.kind with
  | titleFetch => cases parked : q.parked <;> simp
  | _ => simp

theorem State.isQuiet_iff {s : State} {n : Nat} {p : Patron} (resident : s.patronAt n = some p) :
    s.isQuiet p = true ↔ s.quietAt n p := by
  unfold State.isQuiet State.quietAt
  rw [← s.tagNames_false_iff]
  simp [resident, and_assoc]

theorem State.patronAt_eq_some {s : State} {n : Nat} {p : Patron} :
    s.patronAt n = some p ↔ Tbl.lookup s.patrons n = some (.resident p) := by
  unfold State.patronAt
  split <;> simp_all

theorem State.mem_quietDays {s : State} (wf : Tbl.wf s.patrons = true) (n day : Nat) :
    (n, day) ∈ s.quietDays ↔ ∃ p, s.quietAt n p ∧ p.lastDay = day := by
  unfold State.quietDays
  rw [List.mem_filterMap]
  constructor
  · rintro ⟨⟨k, r⟩, mem, e⟩
    cases r with
    | resident p =>
      dsimp only at e
      split at e
      · rename_i quiet
        cases e
        exact ⟨p, (State.isQuiet_iff (State.patronAt_eq_some.mpr (Tbl.lookup_of_mem wf mem))).mp quiet, rfl⟩
      · cases e
    | _ => cases e
  · rintro ⟨p, quiet, rfl⟩
    have resident : s.patronAt n = some p := quiet.1
    exact ⟨_, Tbl.mem_of_lookup (State.patronAt_eq_some.mp resident),
      if_pos ((State.isQuiet_iff resident).mpr quiet)⟩

theorem State.quietDays_rise {s : State} (wf : Tbl.wf s.patrons = true) :
    (s.quietDays.map Prod.fst).Pairwise (· < ·) :=
  Tbl.slots_rise wf fun e g h => by
    obtain ⟨k, r⟩ := e
    cases r with
    | resident p =>
      dsimp only at h
      split at h <;> cases h
      rfl
    | _ => cases h

/-! ## The slot (R18) -/

theorem State.slotForPatron_free {s : State} {n : Nat} (free : Tbl.firstFree s.patrons 8192 = some n) :
    s.slotForPatron = some n := by
  unfold State.slotForPatron
  rw [show Config.patronSlots = 8192 from rfl, free]

theorem State.slotForPatron_full {s : State} (full : Tbl.firstFree s.patrons 8192 = none) :
    s.slotForPatron = (pickOldest s.unknownDays).orElse fun _ => pickOldest s.quietDays := by
  unfold State.slotForPatron
  rw [show Config.patronSlots = 8192 from rfl, full]
  cases pickOldest s.unknownDays <;> rfl

theorem eq_nil_of_no_pair {c : List (Nat × Nat)} (h : ∀ n day, (n, day) ∉ c) : c = [] :=
  List.eq_nil_iff_forall_not_mem.mpr fun e => h e.1 e.2

end Sys2Proof.Machine
end

section
/-! PROOF. An absent patron is fetched, or refused (R16, R17, R18). -/

namespace Sys2Proof.Machine

/-- R18's choice among the FREE slots, the UNKNOWN records and the quiet RESIDENT ones. -/
theorem State.slotForPatron_spec (s : State) (canonical : s.canonical) :
    (∀ n, n < 8192 → Tbl.lookup s.patrons n = none → (∀ m, m < n → Tbl.lookup s.patrons m ≠ none) →
      s.slotForPatron = some n) ∧
    (s.patronsFull →
      (∀ n id day, Tbl.lookup s.patrons n = some (.unknown id day) →
        (∀ m i d, Tbl.lookup s.patrons m = some (.unknown i d) → day < d ∨ day = d ∧ n ≤ m) →
        s.slotForPatron = some n) ∧
      ((∀ n id day, Tbl.lookup s.patrons n ≠ some (.unknown id day)) →
        (∀ n p, s.quietAt n p → (∀ m q, s.quietAt m q → p.lastDay < q.lastDay ∨ p.lastDay = q.lastDay ∧ n ≤ m) →
          s.slotForPatron = some n) ∧
        ((∀ n p, ¬ s.quietAt n p) → s.slotForPatron = none))) := by
  obtain ⟨wf, -⟩ := canonical
  refine ⟨fun n fits free taken => State.slotForPatron_free (Tbl.firstFree_eq wf fits free taken), fun full => ?_⟩
  have slot := State.slotForPatron_full (Tbl.firstFree_none wf full)
  refine ⟨fun n id day here first => ?_, fun known => ?_⟩
  · have pick : pickOldest s.unknownDays = some n :=
      pickOldest_eq (State.unknownDays_rise wf) ((State.mem_unknownDays wf n day).mpr ⟨id, here⟩) fun f mem => by
        obtain ⟨i, there⟩ := (State.mem_unknownDays wf f.1 f.2).mp mem
        exact first f.1 i f.2 there
    rw [slot, pick]
    rfl
  · have none_ : s.unknownDays = [] := eq_nil_of_no_pair fun n day mem => by
      obtain ⟨id, here⟩ := (State.mem_unknownDays wf n day).mp mem
      exact known n id day here
    have slot : s.slotForPatron = pickOldest s.quietDays := by
      rw [slot, none_]
      rfl
    refine ⟨fun n p quiet first => ?_, fun busy => ?_⟩
    · rw [slot]
      refine pickOldest_eq (State.quietDays_rise wf) ((State.mem_quietDays wf n p.lastDay).mpr ⟨p, quiet, rfl⟩) fun f mem => ?_
      obtain ⟨q, quietF, day⟩ := (State.mem_quietDays wf f.1 f.2).mp mem
      rw [goesFirst, ← day]
      exact first f.1 q quietF
    · have none_ : s.quietDays = [] := eq_nil_of_no_pair fun n day mem => by
        obtain ⟨p, quiet, -⟩ := (State.mem_quietDays wf n day).mp mem
        exact busy n p quiet
      rw [slot, none_]
      rfl

/-! ## The start of a request of an absent patron (R16, R17) -/

theorem State.servePatron_absent {s : State} {id : Nat} (clean : s.upsets = []) (absent : s.findPatron id = none)
    (width : Nat) (lost : Patron → Answer) (body : Nat → Patron → State → Served) :
    s.servePatron id width lost body = ((s.fetchOnMiss id).1, refusedZero width (s.fetchOnMiss id).2) := by
  unfold State.servePatron
  simp only [State.lookUpPatron_clean clean, absent]

/-- Every patron request opens by serving its patron, with as many zero fields for a refusal as it carries. -/
theorem ReqCode.work_serves {code : ReqCode} (names : code.namesPatron) (op : Op) (s : State) :
    ∃ lost body, code.work op s = s.servePatron (op.field 0) code.width lost body := by
  obtain ⟨notDetail, notPoll⟩ := names
  cases code with
  | detail => exact absurd rfl notDetail
  | poll => exact absurd rfl notPoll
  | _ =>
    dsimp only [ReqCode.work, State.accountWork, State.renewWork, State.renewAllWork, State.placeHoldWork,
      State.cancelHoldWork, State.suspendHoldWork, State.resumeHoldWork, State.payCashWork, State.payCardWork]
    exact ⟨_, _, rfl⟩

theorem ReqCode.work_absent {code : ReqCode} {s : State} {op : Op} {id : Nat} {rest : List Nat} (names : code.namesPatron)
    (kind : op.kind = .request code (id :: rest)) (clean : s.upsets = []) (absent : s.findPatron id = none) :
    code.work op s = ((s.fetchOnMiss id).1, refusedZero code.width (s.fetchOnMiss id).2) := by
  have field : op.field 0 = id := by simp [Op.field, kind]
  obtain ⟨lost, body, e⟩ := code.work_serves names op s
  rw [e, field, State.servePatron_absent clean absent]

/-- The fetch of an absent patron: the number, the FETCHING record and the notice. -/
def State.fetchPatron (s : State) (id slot : Nat) (n : Fin 32) : State :=
  ((s.allocateTag n .patronFetch id 0 none none).setPatron slot (.fetching id s.today (s.nextTagId n))).post
    (.fetchPatron (s.nextTagId n) id)

/-- The number that the fetch takes (R147). -/
def State.fetchTag (s : State) (id : Nat) (n : Fin 32) : Tag :=
  ⟨.outstanding, ((s.tags.get n).gen + 1) % 16, false,
    some ⟨.patronFetch, id, 0, none, none, s.schedule.globals.tagTimeout⟩, ((s.tags.get n).gen + 1) % 16⟩

theorem State.fetchPatron_tables (s : State) (id slot : Nat) (n : Fin 32) :
    (s.fetchPatron id slot n).tables = { s.tables with
      patrons := Tbl.store s.patrons slot (.fetching id s.today (s.nextTagId n))
      tags := s.tags.set n.val (s.fetchTag id n) n.isLt } := State.post_tables _ _

theorem State.fetchOnMiss_fetches {s : State} {id slot : Nat} {n : Fin 32} (clean : s.upsets = [])
    (absent : s.findPatron id = none) (tag : s.freeTag = some n) (room : s.slotForPatron = some slot) :
    s.fetchOnMiss id = (s.fetchPatron id slot n, .retry) := by
  unfold State.fetchOnMiss
  simp only [State.readFreeTag_clean clean, State.readForSlot_clean clean, absent, tag, room]
  rfl

theorem State.fetchOnMiss_refuses {s : State} {id : Nat} {r : Refused} (clean : s.upsets = [])
    (absent : s.findPatron id = none)
    (h : s.freeTag = none ∧ r = .tryLater ∨ s.freeTag ≠ none ∧ s.slotForPatron = none ∧ r = .tableFull) :
    s.fetchOnMiss id = (s, r) := by
  unfold State.fetchOnMiss
  simp only [State.readFreeTag_clean clean]
  rcases h with ⟨noTag, rfl⟩ | ⟨someTag, noSlot, rfl⟩
  · rw [noTag]
  · obtain ⟨n, tag⟩ := Option.ne_none_iff_exists'.mp someTag
    simp only [tag, State.readForSlot_clean clean, absent, noSlot]

/-! ## A request's row -/

/-- A granted request whose work posts nothing that waits: its tables, its answer and its notices stand. -/
theorem Granted.request_row {s u : State} {op left : Op} {x : Crossing} {code : ReqCode} {fields : List Nat} {a : Answer}
    (h : Granted s op x) (kind : op.kind = .request code fields) (served : code.work op s = (u, a))
    (busy : u.engine = .busy left) (done : left.waiting = []) (same : SameGrant op left) (lanes : u.lanes = s.lanes) :
    ∃ t, exec (code.command x) s = .next t ∧ t.tables = u.tables ∧ Answers s t op a ∧
      ∀ n ∈ u.link.outbound, n.isLaneState = false → n ∈ t.link.outbound := by
  have performs : exec (code.command x) s = .next ((State.answer (u, a)).complete x.claims).startSending := by
    rw [code.exec_command]
    unfold State.request
    rw [State.command_perform h.noReset h.busy (by simp [kind, OpKind.isRequest]), h.crossed, served]
  have answered : (State.answer (u, a)).engine = .busy { left with answer := some a } := by
    simp [State.answer, busy, Engine.mapOp]
  refine ⟨_, performs, State.complete_tables _ _, fun o ex awaited => ?_, fun n mem notLane => ?_⟩
  · have lane (l : Lane) : (State.answer (u, a)).lane l = s.lane l := congrArg (fun v => v.get l) lanes
    have awaited' : AwaitedBy (State.answer (u, a)) op o ex :=
      ⟨awaited.origin, (congrArg LaneUnit.exchange (lane _)).trans awaited.working, awaited.granted,
        (congrArg LaneUnit.gen (lane _)).trans awaited.sameGen, awaited.sameSt,
        (congrArg LaneUnit.closingCall (lane _)).trans awaited.quiet, awaited.noOwed⟩
    exact State.complete_answers _ _ answered done (same.resetOwed.trans awaited.noOwed) rfl same.origin awaited'
  · show n ∈ ((State.answer (u, a)).complete x.claims).link.outbound
    rw [State.complete_done answered done]
    exact State.finishOp_mem _ _ _ mem notLane

/-- Settles O12: the start of every patron request finds the patron absent, and the fetch it makes is spelled out. -/
theorem absentPatronIsFetched : Obligations.AbsentPatronIsFetched := by
  refine ⟨fun code s op x id rest slot n names h kind absent tag room reserved => ?_,
    fun code s op x id rest r names h kind absent refused => ?_, State.slotForPatron_spec⟩
  · have served := ReqCode.work_absent names kind h.noErr absent
    rw [State.fetchOnMiss_fetches h.noErr absent tag room] at served
    have posted : s.fetchPatron id slot n = _ :=
      State.post_reserved (n := .fetchPatron (s.nextTagId n) id) h.busy h.noWait reserved fun _ => rfl
    obtain ⟨t, performs, tables, answers, notices⟩ := h.request_row kind served
      (left := { op with reservation := op.reservation - 1 }) (by rw [posted]) h.noWait ⟨rfl, rfl, rfl⟩ (by rw [posted]; rfl)
    rw [State.fetchPatron_tables] at tables
    have patrons : t.patrons = Tbl.store s.patrons slot (.fetching id s.today (s.nextTagId n)) :=
      congrArg Tables.patrons tables
    have tags : t.tags = s.tags.set n.val (s.fetchTag id n) n.isLt := congrArg Tables.tags tables
    refine ⟨t, performs, ⟨?_, ?_, notices _ ?_ rfl⟩, fun k other => ?_, fun k other => ?_, congrArg Tables.loans tables,
      congrArg Tables.titles tables, congrArg Tables.pool tables, congrArg Tables.calendar tables,
      congrArg Tables.schedule tables, congrArg Tables.sweep tables, congrArg Tables.tagLine tables, answers⟩
    · rw [patrons]
      exact Tbl.lookup_store_same _ _ _
    · rw [tags]
      simp [vector_get, State.fetchTag]
    · rw [posted]
      exact List.mem_append_right _ List.mem_cons_self
    · rw [patrons]
      exact Tbl.lookup_store_ne _ _ _ _ other
    · rw [tags]
      exact Vector.getElem_set_ne _ _ (Fin.val_ne_of_ne other.symm)
  · have served := ReqCode.work_absent names kind h.noErr absent
    rw [State.fetchOnMiss_refuses h.noErr absent refused] at served
    obtain ⟨t, performs, tables, answers, -⟩ := h.request_row kind served h.busy h.noWait (.refl op) rfl
    exact ⟨t, performs, tables, answers⟩

end Sys2Proof.Machine
end

section
/-! PROOF. The walk of a loan (R58 to R61): what it does to the loan does not depend on the balance, and the balance rises
by what the loan accrued, up to the ceiling. -/

namespace Sys2Proof.Machine

theorem addToBalance_zero (b : Nat) : addToBalance b 0 = b := by
  unfold addToBalance
  omega

theorem addToBalance_add (b x y : Nat) : addToBalance (addToBalance b x) y = addToBalance b (x + y) := by
  unfold addToBalance
  omega

theorem le_addToBalance (b x : Nat) : b ≤ addToBalance b x := Nat.le_max_left _ _

/-- Two walks that agree in what they do to the loan. -/
structure Walk.SameLoan (v w : Walk) : Prop where
  overdue : v.overdue = w.overdue
  accrued : v.accrued = w.accrued
  added : v.accruedAdded = w.accruedAdded

theorem Walk.SameLoan.day {v w : Walk} (h : Walk.SameLoan v w) (x : WalkContext) (d : Nat) :
    Walk.SameLoan (v.day x d) (w.day x d) := by
  obtain ⟨overdue, accrued, added⟩ := h
  unfold Walk.day
  split
  · exact ⟨overdue, accrued, added⟩
  · split
    · exact ⟨overdue, accrued, added⟩
    · dsimp only
      rw [overdue]
      split
      · exact ⟨rfl, by simp [Walk.charge, accrued], by simp [Walk.charge, accrued, added]⟩
      · exact ⟨rfl, accrued, added⟩

/-- What a walk does to the loan does not depend on the balance. -/
theorem Walk.SameLoan.days {v w : Walk} (h : Walk.SameLoan v w) (x : WalkContext) (n d : Nat) :
    Walk.SameLoan (Walk.days x n d v) (Walk.days x n d w) := by
  induction n generalizing d v w with
  | zero => exact h
  | succ n ih => exact ih (h.day x d) (d + 1)

theorem Walk.day_balance {b : Nat} {w : Walk} (h : w.balance = addToBalance b w.accruedAdded) (x : WalkContext) (d : Nat) :
    (w.day x d).balance = addToBalance b (w.day x d).accruedAdded := by
  unfold Walk.day
  split
  · exact h
  · split
    · exact h
    · dsimp only
      split
      · simp [Walk.charge, h, addToBalance_add]
      · exact h

/-- The balance stands above where it began by what the walk has added to the accrued fine. -/
theorem Walk.days_balance {b : Nat} {w : Walk} (h : w.balance = addToBalance b w.accruedAdded) (x : WalkContext) (n d : Nat) :
    (Walk.days x n d w).balance = addToBalance b (Walk.days x n d w).accruedAdded := by
  induction n generalizing d w with
  | zero => exact h
  | succ n ih => exact ih (Walk.day_balance h x d) (d + 1)

theorem State.walkLoan_balance (s : State) (l : Loan) (p : Patron) :
    (s.walkLoan l p).balance = addToBalance p.balance (s.walkLoan l p).accruedAdded :=
  Walk.days_balance (addToBalance_zero _).symm _ _ _

/-- A loan that stands at C is not walked. -/
theorem State.walkLoan_none {s : State} {l : Loan} (stands : s.calendar.closeDay ≤ l.charged) (p : Patron) :
    s.walkLoan l p = ⟨l.overdue, l.accrued, p.balance, 0, 0, 0⟩ := by
  unfold State.walkLoan
  rw [Nat.sub_eq_zero_of_le stands]
  rfl

/-- What a walk reads of the state besides the loan: the rules, the calendar and the titles. -/
structure SameRules (s v : State) : Prop where
  calendar : v.calendar = s.calendar
  schedule : v.schedule = s.schedule
  titles : v.titles = s.titles

theorem SameRules.walkContext {s v : State} (h : SameRules s v) (l : Loan) {p q : Patron} (category : q.category = p.category) :
    v.walkContext l q = s.walkContext l p := by
  unfold State.walkContext State.underPressure State.residentTitle State.findTitle State.titleAt
  rw [h.calendar, h.schedule, h.titles, category]

/-- The walk of a loan under the same rules, for a patron whose balance may have changed. -/
theorem SameRules.walkLoan {s v : State} (h : SameRules s v) (l : Loan) {p q : Patron} (category : q.category = p.category) :
    Walk.SameLoan (v.walkLoan l q) (s.walkLoan l p) := by
  unfold State.walkLoan
  rw [h.walkContext l category, h.calendar]
  refine Walk.SameLoan.days ?_ _ _ _
  exact ⟨rfl, rfl, rfl⟩

/-! ## The evaluation of a loan in a memory without damage (R57, R62) -/

theorem State.evaluate_none {s : State} {n : Nat} (clean : s.upsets = []) (none_ : s.loanAt n = none) :
    (s.evaluate n).1 = s := by
  unfold State.evaluate
  simp only [State.readLoan_clean clean, none_]

theorem State.evaluate_stands {s : State} {n : Nat} {l : Loan} (clean : s.upsets = []) (loan : s.loanAt n = some l)
    (stands : s.calendar.closeDay ≤ l.charged) : (s.evaluate n).1 = s := by
  unfold State.evaluate
  simp only [State.readLoan_clean clean, loan, State.readPatron_clean clean]
  split
  · rfl
  · rw [if_neg (Nat.not_lt_of_le stands)]

theorem State.evaluate_walks {s : State} {n : Nat} {l : Loan} {p : Patron} (clean : s.upsets = [])
    (loan : s.loanAt n = some l) (patron : s.patronAt l.patronSlot = some p) (behind : l.charged < s.calendar.closeDay) :
    ∃ cents, (s.evaluate n).1 = (s.writeWalk n l p (s.walkLoan l p)).logCeiling p l cents := by
  unfold State.evaluate
  simp only [State.readLoan_clean clean, loan, State.readPatron_clean clean, patron, behind, ↓reduceIte,
    State.lookUpTitle_clean clean, ite_self]
  exact ⟨_, rfl⟩

/-! ## Faults only -/

/-- v is s in the engine and the link but for one FAULT captured on the way, when the log had no first fault and an entry
was free for it (R189). -/
structure OnlyLogs (s v : State) : Prop where
  engine : v.engine = s.engine
  first : s.faults.first ≠ none → v.faults.first ≠ none
  link : v.link = s.link ∨ s.faults.first = none ∧ v.faults.first ≠ none ∧ 0 < s.roomForOthers ∧
    ∃ f k, v.link = { s.link with outbound := s.link.outbound ++ [.fault f k] }

theorem OnlyLogs.of_same {s v : State} (engine : v.engine = s.engine) (faults : v.faults = s.faults) (link : v.link = s.link) :
    OnlyLogs s v := ⟨engine, fun h => by rwa [faults], .inl link⟩

theorem State.roomForOthers_congr {s v : State} (engine : v.engine = s.engine) (link : v.link = s.link) :
    v.roomForOthers = s.roomForOthers := by
  unfold State.roomForOthers State.freeEntries
  rw [engine, link]

theorem OnlyLogs.trans {s t u : State} (h : OnlyLogs s t) (h' : OnlyLogs t u) : OnlyLogs s u := by
  refine ⟨h'.engine.trans h.engine, fun held => h'.first (h.first held), ?_⟩
  rcases h.link with same | ⟨empty, captured, room, f, k, e⟩
  · rcases h'.link with same' | ⟨empty, captured, room, f, k, e⟩
    · exact .inl (same'.trans same)
    · rw [State.roomForOthers_congr h.engine same] at room
      rw [same] at e
      exact .inr ⟨by_contra fun held => h.first held empty, captured, room, f, k, e⟩
  · rcases h'.link with same' | ⟨empty', -⟩
    · exact .inr ⟨empty, h'.first captured, room, f, k, same'.trans e⟩
    · exact absurd empty' captured

theorem State.logFault_onlyLogs (s : State) (c : FaultClass) (src : Source) (ctx : Context) :
    OnlyLogs s (s.logFault c src ctx) := by
  unfold State.logFault
  dsimp only
  split
  · exact ⟨rfl, fun h => h, .inl rfl⟩
  · rename_i empty
    split
    · rename_i room
      exact ⟨rfl, fun _ => Option.some_ne_none _, .inr ⟨empty, Option.some_ne_none _, room, _, _, rfl⟩⟩
    · exact ⟨rfl, fun _ => Option.some_ne_none _, .inl rfl⟩

theorem State.logFault_upsets (s : State) (c : FaultClass) (src : Source) (ctx : Context) :
    (s.logFault c src ctx).upsets = s.upsets := by
  unfold State.logFault
  dsimp only
  split
  · rfl
  · split <;> rfl

theorem State.logCeiling_onlyLogs (s : State) (p : Patron) (l : Loan) (cents : Nat) :
    OnlyLogs s (s.logCeiling p l cents) ∧ (s.logCeiling p l cents).tables = s.tables ∧
      (s.logCeiling p l cents).upsets = s.upsets := by
  unfold State.logCeiling
  split
  · exact ⟨.of_same rfl rfl rfl, rfl, rfl⟩
  · exact ⟨s.logFault_onlyLogs _ _ _, s.logFault_tables _ _ _, s.logFault_upsets _ _ _⟩

end Sys2Proof.Machine
end

section
/-! PROOF. The catch-up of a patron (R9, R57, R63, R67): its loans evaluated one after another. -/

namespace Sys2Proof.Machine

/-! ## The state after some of the loans -/

/-- A loan brought to C by its walk. -/
def State.walked (s : State) (p : Patron) (l : Loan) : Loan :=
  { l with
    overdue := (s.walkLoan l p).overdue
    accrued := (s.walkLoan l p).accrued
    charged := max l.charged s.calendar.closeDay }

/-- What the walks of some loans add to their accrued fines, each loan once. -/
def State.finesOf (s : State) (p : Patron) (ns : List Nat) : Nat :=
  ((ns.dedup.filterMap s.loanAt).map fun l => (s.walkLoan l p).accruedAdded).sum

theorem State.finesOf_perm (s : State) (p : Patron) {ns ms : List Nat} (h : ns.Perm ms) : s.finesOf p ns = s.finesOf p ms :=
  ((h.dedup.filterMap _).map _).sum_eq

theorem State.finesOf_none {s : State} {n : Nat} (h : s.loanAt n = none) (p : Patron) (ns : List Nat) :
    s.finesOf p (n :: ns) = s.finesOf p ns := by
  unfold State.finesOf
  by_cases mem : n ∈ ns
  · rw [List.dedup_cons_of_mem mem]
  · rw [List.dedup_cons_of_notMem mem, List.filterMap_cons_none h]

theorem State.finesOf_again {s : State} {n : Nat} {ns : List Nat} (h : n ∈ ns) (p : Patron) :
    s.finesOf p (n :: ns) = s.finesOf p ns := by
  unfold State.finesOf
  rw [List.dedup_cons_of_mem h]

theorem State.finesOf_first {s : State} {n : Nat} {l : Loan} {ns : List Nat} (h : n ∉ ns) (loan : s.loanAt n = some l)
    (p : Patron) : s.finesOf p (n :: ns) = s.finesOf p ns + (s.walkLoan l p).accruedAdded := by
  unfold State.finesOf
  rw [List.dedup_cons_of_notMem h, List.filterMap_cons_some loan, List.map_cons, List.sum_cons, Nat.add_comm]

theorem State.loanAt_eq_some {s : State} {n : Nat} {l : Loan} :
    s.loanAt n = some l ↔ Tbl.lookup s.loans n = some (.active l) := by
  unfold State.loanAt
  split <;> simp_all

theorem State.loanAt_congr {s v : State} {n : Nat} (h : Tbl.lookup v.loans n = Tbl.lookup s.loans n) :
    v.loanAt n = s.loanAt n := by
  unfold State.loanAt
  rw [h]

/-- From s, the loans `ns` of the RESIDENT patron p of a slot have been evaluated, and v is what they leave. -/
structure Evaluated (s : State) (slot : Nat) (p : Patron) (ns : List Nat) (v : State) : Prop where
  logs : OnlyLogs s v
  clean : v.upsets = []
  frame : { v.tables with patrons := s.patrons, loans := s.loans } = s.tables
  others : ∀ n, n ≠ slot → Tbl.lookup v.patrons n = Tbl.lookup s.patrons n
  patron : v.patronAt slot = some { p with balance := addToBalance p.balance (s.finesOf p ns) }
  walked : ∀ n ∈ ns, ∀ l, s.loanAt n = some l → v.loanAt n = some (s.walked p l)
  left : ∀ n, n ∉ ns ∨ s.loanAt n = none → Tbl.lookup v.loans n = Tbl.lookup s.loans n

variable {s v : State} {slot : Nat} {p : Patron} {ns : List Nat}

theorem Evaluated.nothing (clean : s.upsets = []) (patron : s.patronAt slot = some p) : Evaluated s slot p [] s := by
  refine ⟨.of_same rfl rfl rfl, clean, rfl, fun _ _ => rfl, ?_, nofun, fun _ _ => rfl⟩
  rw [patron]
  exact congrArg (fun b => some { p with balance := b }) (addToBalance_zero _).symm

theorem Evaluated.rules (h : Evaluated s slot p ns v) : SameRules s v :=
  ⟨congrArg Tables.calendar h.frame, congrArg Tables.schedule h.frame, congrArg Tables.titles h.frame⟩

/-- A loan that the evaluation passes over. -/
theorem Evaluated.skip {n : Nat} (h : Evaluated s slot p ns v) (fines : s.finesOf p (n :: ns) = s.finesOf p ns)
    (stands : ∀ l, s.loanAt n = some l → v.loanAt n = some (s.walked p l)) : Evaluated s slot p (n :: ns) v := by
  refine ⟨h.logs, h.clean, h.frame, h.others, by rw [fines]; exact h.patron, fun m mem l loan => ?_, fun m out => ?_⟩
  · rcases List.mem_cons.mp mem with rfl | mem
    · exact stands l loan
    · exact h.walked m mem l loan
  · exact h.left m (out.imp_left fun outside mem => outside (List.mem_cons_of_mem n mem))

/-- A loan that the evaluation walks. -/
theorem Evaluated.walk {n : Nat} {l : Loan} (h : Evaluated s slot p ns v) (fresh : n ∉ ns) (loan : s.loanAt n = some l)
    (owner : l.patronSlot = slot) (behind : l.charged < s.calendar.closeDay) : Evaluated s slot p (n :: ns) (v.evaluate n).1 := by
  have calendar := h.rules.calendar
  have same := h.rules.walkLoan l (p := p) (q := { p with balance := addToBalance p.balance (s.finesOf p ns) }) rfl
  have here : v.loanAt n = some l := (State.loanAt_congr (h.left n (.inl fresh))).trans loan
  obtain ⟨cents, e⟩ := State.evaluate_walks h.clean here (owner ▸ h.patron) (calendar ▸ behind)
  generalize hw : v.walkLoan l { p with balance := addToBalance p.balance (s.finesOf p ns) } = w at e same
  have balance : w.balance = addToBalance p.balance (s.finesOf p (n :: ns)) := by
    rw [← hw, State.walkLoan_balance, addToBalance_add, State.finesOf_first fresh loan, hw, same.added]
  obtain ⟨logs, tables, upsets⟩ := State.logCeiling_onlyLogs
    (v.writeWalk n l { p with balance := addToBalance p.balance (s.finesOf p ns) } w)
    { p with balance := addToBalance p.balance (s.finesOf p ns) } l cents
  rw [← e] at logs tables upsets
  have loans : (v.evaluate n).1.loans = Tbl.store v.loans n (.active (s.walked p l)) := by
    have stored : (v.evaluate n).1.loans = _ := congrArg Tables.loans tables
    rw [stored]
    show Tbl.store v.loans n _ = _
    rw [same.overdue, same.accrued, calendar, State.walked, Nat.max_eq_right (Nat.le_of_lt behind)]
  have patrons : (v.evaluate n).1.patrons =
      Tbl.store v.patrons slot (.resident { p with balance := addToBalance p.balance (s.finesOf p (n :: ns)) }) := by
    have stored : (v.evaluate n).1.patrons = _ := congrArg Tables.patrons tables
    rw [stored, ← balance, ← owner]
    rfl
  have written : OnlyLogs v (v.writeWalk n l { p with balance := addToBalance p.balance (s.finesOf p ns) } w) :=
    .of_same rfl rfl rfl
  refine ⟨h.logs.trans (written.trans logs), ?_, ?_, fun m other => ?_, ?_, fun m mem k loan' => ?_, fun m out => ?_⟩
  · rw [upsets]
    simp [State.writeWalk, h.clean]
  · rw [tables]
    exact h.frame
  · rw [patrons, Tbl.lookup_store_ne _ _ _ _ other]
    exact h.others m other
  · rw [State.patronAt_eq_some, patrons, Tbl.lookup_store_same]
  · rw [State.loanAt_eq_some, loans]
    by_cases same : m = n
    · subst same
      rw [loan] at loan'
      cases loan'
      exact Tbl.lookup_store_same _ _ _
    · rw [Tbl.lookup_store_ne _ _ _ _ same]
      exact State.loanAt_eq_some.mp (h.walked m ((List.mem_cons.mp mem).resolve_left same) k loan')
  · have other : m ≠ n := by
      rintro rfl
      rcases out with outside | none_
      · exact outside List.mem_cons_self
      · rw [loan] at none_
        cases none_
    rw [loans, Tbl.lookup_store_ne _ _ _ _ other]
    exact h.left m (out.imp_left fun outside mem => outside (List.mem_cons_of_mem n mem))

/-- One more loan of the list: a slot that is not ACTIVE, a slot named before and a loan that stands at C are passed over,
and any other loan is walked. -/
theorem Evaluated.evaluate (h : Evaluated s slot p ns v) (n : Nat) (owner : ∀ l, s.loanAt n = some l → l.patronSlot = slot) :
    Evaluated s slot p (n :: ns) (v.evaluate n).1 := by
  cases loan : s.loanAt n with
  | none =>
    have none_ : v.loanAt n = none := (State.loanAt_congr (h.left n (.inr loan))).trans loan
    rw [State.evaluate_none h.clean none_]
    exact h.skip (State.finesOf_none loan p ns) fun l some_ => by rw [loan] at some_; cases some_
  | some l =>
    have unique : ∀ k, s.loanAt n = some k → k = l := fun k some_ => Option.some.inj (some_.symm.trans loan)
    by_cases again : n ∈ ns
    · have here := h.walked n again l loan
      rw [State.evaluate_stands h.clean here (h.rules.calendar ▸ Nat.le_max_right _ _)]
      exact h.skip (State.finesOf_again again p) fun k some_ => h.walked n again k some_
    · by_cases behind : l.charged < s.calendar.closeDay
      · exact h.walk again loan (owner l loan) behind
      · have stands := Nat.le_of_not_lt behind
        have here : v.loanAt n = some l := (State.loanAt_congr (h.left n (.inl again))).trans loan
        rw [State.evaluate_stands h.clean here (h.rules.calendar ▸ stands)]
        refine h.skip ?_ fun k some_ => ?_
        · rw [State.finesOf_first again loan, State.walkLoan_none stands]
          rfl
        · rw [unique k some_, here, State.walked, State.walkLoan_none stands, Nat.max_eq_left stands]

theorem Evaluated.all (h : Evaluated s slot p ns v) (ms : List Nat)
    (owner : ∀ n ∈ ms, ∀ l, s.loanAt n = some l → l.patronSlot = slot) :
    Evaluated s slot p (ms.reverse ++ ns) (v.evaluateAll ms) := by
  induction ms generalizing ns v with
  | nil => exact h
  | cons m ms ih =>
    have first := h.evaluate m (owner m List.mem_cons_self)
    have rest := ih first fun n mem => owner n (List.mem_cons_of_mem m mem)
    rwa [List.reverse_cons, List.append_assoc]

/-- The loans of the list, in the order of the list. -/
theorem Evaluated.perm {ms : List Nat} (h : Evaluated s slot p ns v) (perm : ns.Perm ms) : Evaluated s slot p ms v :=
  ⟨h.logs, h.clean, h.frame, h.others, by rw [← s.finesOf_perm p perm]; exact h.patron,
    fun n mem => h.walked n (perm.mem_iff.mpr mem), fun n out => h.left n (by rwa [perm.mem_iff])⟩

theorem State.evaluateAll_evaluated (clean : s.upsets = []) (patron : s.patronAt slot = some p)
    (owner : ∀ n ∈ p.loans, ∀ l, s.loanAt n = some l → l.patronSlot = slot) :
    Evaluated s slot p p.loans (s.evaluateAll p.loans) := by
  have all := (Evaluated.nothing clean patron).all p.loans owner
  rw [List.append_nil] at all
  exact all.perm (List.reverse_perm _)

end Sys2Proof.Machine
end

section
/-! PROOF. The block compare and the BALANCE of a catch-up (R9, R63, R123, R125). -/

namespace Sys2Proof.Machine

/-! ## Posts of a BALANCE -/

/-- A notice that finds an unsent entry of its subject still finds it with more entries behind. -/
theorem coalesceIn_append {n : Notice} {q : List Notice} (more : List Notice) (h : coalesceIn n q ≠ none) :
    coalesceIn n (q ++ more) ≠ none := by
  induction q with
  | nil => exact absurd rfl h
  | cons old q ih =>
    rw [List.cons_append, coalesceIn]
    rw [coalesceIn] at h
    split
    · exact Option.some_ne_none _
    · rename_i other
      rw [if_neg other] at h
      simpa using ih (by simpa using h)

theorem Link.coalesce_append {k : Link} {n : Notice} (more : List Notice) (h : k.coalesce n ≠ none) :
    Link.coalesce { k with outbound := k.outbound ++ more } n ≠ none := by
  unfold Link.coalesce at h ⊢
  split
  · rename_i sending
    rw [if_pos sending] at h
    cases e : k.outbound with
    | nil => simp [e] at h
    | cons head rest =>
      simp only [e, List.cons_append] at h ⊢
      simpa using coalesceIn_append more (by simpa using h)
  · rename_i quiet
    rw [if_neg quiet] at h
    exact coalesceIn_append more h

theorem State.postIfRoom_merges {s : State} {n : Notice} (h : s.link.coalesce n ≠ none) :
    n ∈ (s.postIfRoom n).link.outbound := by
  unfold State.postIfRoom
  split
  · rename_i q merged
    exact Link.coalesce_self merged
  · rename_i none_
    exact absurd none_ h

theorem State.postIfRoom_room {s : State} (n : Notice) (h : 0 < s.roomForOthers) : n ∈ (s.postIfRoom n).link.outbound := by
  unfold State.postIfRoom
  split
  · rename_i q merged
    exact Link.coalesce_self merged
  · rw [if_pos h]
    exact List.mem_append_right _ List.mem_cons_self

theorem State.postIfRoom_not {s : State} {n : Notice} (alone : s.link.coalesce n = none) (full : s.roomForOthers = 0) :
    s.postIfRoom n = s := by
  unfold State.postIfRoom
  rw [alone]
  exact if_neg (by omega)

theorem State.balanceIsOptional_congr {s v : State} (engine : v.engine = s.engine) :
    v.balanceIsOptional = s.balanceIsOptional := by
  unfold State.balanceIsOptional State.op?
  rw [engine]

/-- Posts leave the Fault Log. -/
theorem State.post_faults (s : State) (n : Notice) : (s.post n).faults = s.faults := by
  unfold State.post
  split
  · rfl
  · split
    · split
      · rfl
      · split
        · rfl
        · split <;> rfl
    · rfl

theorem State.postIfRoom_faults (s : State) (n : Notice) : (s.postIfRoom n).faults = s.faults := by
  unfold State.postIfRoom
  split
  · rfl
  · split <;> rfl

theorem State.postBalance_faults (s : State) (slot : Nat) : (s.postBalance slot).faults = s.faults := by
  unfold State.postBalance
  split
  · split
    · exact s.postIfRoom_faults _
    · exact s.post_faults _
  · rfl

theorem State.postBalance_resident {s : State} {slot : Nat} {p : Patron} (patron : s.patronAt slot = some p) :
    s.postBalance slot = if s.balanceIsOptional then s.postIfRoom p.balanceNotice else s.post p.balanceNotice := by
  unfold State.postBalance
  simp only [patron]

/-! ## The catch-up -/

/-- The state after a catch-up's evaluations and block compare, before its BALANCE. -/
def State.compared (s : State) (slot : Nat) (p : Patron) : State := (s.evaluateAll p.loans).blockCompare slot

variable {s : State} {slot : Nat} {p : Patron}

/-- The patron's record after the catch-up. -/
def State.caughtUpPatron (s : State) (p : Patron) : Patron :=
  let q := { p with balance := addToBalance p.balance (s.finesOf p p.loans) }
  { q with blocked := s.blockDue q }

theorem SameRules.blockDue {v : State} (h : SameRules s v) (q : Patron) : v.blockDue q = s.blockDue q := by
  unfold State.blockDue
  rw [h.schedule]

theorem Evaluated.caughtUpPatron_eq (h : Evaluated s slot p p.loans (s.evaluateAll p.loans)) :
    s.caughtUpPatron p =
      let q := { p with balance := addToBalance p.balance (s.finesOf p p.loans) }
      { q with blocked := (s.evaluateAll p.loans).blockDue q } := by
  dsimp only
  rw [h.rules.blockDue, State.caughtUpPatron]

/-- The activity day of a RESIDENT record (R15). -/
theorem State.touchDay_resident {v : State} {q : Patron} (h : v.patronAt slot = some q) :
    v.touchDay slot = v.setPatron slot (.resident { q with lastDay := v.today }) := by
  unfold State.touchDay
  rw [State.patronAt_eq_some.mp h]

/-- The block compare writes the patron's record, and nothing else. -/
theorem Evaluated.compared (h : Evaluated s slot p p.loans (s.evaluateAll p.loans)) :
    s.compared slot p = (s.evaluateAll p.loans).setPatron slot (.resident (s.caughtUpPatron p)) := by
  unfold State.compared State.blockCompare State.mapPatron
  simp only [h.patron, h.rules.blockDue]
  rfl

theorem State.catchUp_eq (patron : s.patronAt slot = some p) :
    s.catchUp slot =
      if (s.compared slot p).account slot = some (p.balance, p.blocked) then s.compared slot p
      else (s.compared slot p).postBalance slot := by
  unfold State.catchUp
  simp only [patron]
  rfl

theorem State.catchUp_tables (patron : s.patronAt slot = some p) :
    (s.catchUp slot).tables = (s.compared slot p).tables ∧ (s.catchUp slot).faults = (s.compared slot p).faults := by
  rw [State.catchUp_eq patron]
  split
  · exact ⟨rfl, rfl⟩
  · exact ⟨State.postBalance_tables _ _, State.postBalance_faults _ _⟩

/-- What the catch-up of a RESIDENT patron leaves of the tables. -/
theorem Evaluated.catchUp (h : Evaluated s slot p p.loans (s.evaluateAll p.loans)) (patron : s.patronAt slot = some p) :
    (s.catchUp slot).tables = { (s.evaluateAll p.loans).tables with
      patrons := Tbl.store (s.evaluateAll p.loans).patrons slot (.resident (s.caughtUpPatron p)) } := by
  rw [(State.catchUp_tables patron).1, h.compared]
  rfl

/-- The account that a catch-up's BALANCE would report. -/
theorem Evaluated.account (h : Evaluated s slot p p.loans (s.evaluateAll p.loans)) :
    (s.compared slot p).patronAt slot = some (s.caughtUpPatron p) ∧
      (s.compared slot p).account slot = some ((s.caughtUpPatron p).balance, (s.caughtUpPatron p).blocked) := by
  have resident : (s.compared slot p).patronAt slot = some (s.caughtUpPatron p) := by
    rw [State.patronAt_eq_some, h.compared]
    exact Tbl.lookup_store_same _ _ _
  refine ⟨resident, ?_⟩
  unfold State.account
  rw [resident]
  rfl

/-- A catch-up that changes the account posts its BALANCE, in the way of the operation. -/
theorem Evaluated.posts (h : Evaluated s slot p p.loans (s.evaluateAll p.loans)) (patron : s.patronAt slot = some p)
    (changed : (s.caughtUpPatron p).balance ≠ p.balance ∨ (s.caughtUpPatron p).blocked ≠ p.blocked) :
    s.catchUp slot = if s.balanceIsOptional then (s.compared slot p).postIfRoom (s.caughtUpPatron p).balanceNotice
      else (s.compared slot p).post (s.caughtUpPatron p).balanceNotice := by
  obtain ⟨resident, account⟩ := h.account
  have engine : (s.compared slot p).engine = s.engine := by
    rw [h.compared]
    exact h.logs.engine
  have differs : ¬ (s.compared slot p).account slot = some (p.balance, p.blocked) := by
    rw [account]
    intro same
    obtain ⟨balance, blocked⟩ := Prod.mk.inj (Option.some.inj same)
    exact changed.elim (fun other => other balance) fun other => other blocked
  rw [State.catchUp_eq patron, if_neg differs, State.postBalance_resident resident, State.balanceIsOptional_congr engine]

theorem Evaluated.posts_not (h : Evaluated s slot p p.loans (s.evaluateAll p.loans)) (patron : s.patronAt slot = some p)
    (balance : (s.caughtUpPatron p).balance = p.balance) (blocked : (s.caughtUpPatron p).blocked = p.blocked) :
    s.catchUp slot = s.compared slot p := by
  rw [State.catchUp_eq patron, if_pos]
  rw [h.account.2, balance, blocked]

/-- The evaluations and the compare add to the link at most one FAULT, into room that was free. -/
theorem Evaluated.compared_logs (h : Evaluated s slot p p.loans (s.evaluateAll p.loans)) : OnlyLogs s (s.compared slot p) := by
  rw [h.compared]
  exact h.logs.trans (.of_same rfl rfl rfl)

theorem OnlyLogs.outbound {v : State} (h : OnlyLogs s v) :
    ∃ more, v.link = { s.link with outbound := s.link.outbound ++ more } ∧ ∀ n ∈ more, ∃ f k, n = .fault f k := by
  rcases h.link with same | ⟨-, -, -, f, k, e⟩
  · exact ⟨[], by rw [same, List.append_nil], fun n mem => absurd mem List.not_mem_nil⟩
  · exact ⟨_, e, fun n mem => ⟨f, k, List.mem_singleton.mp mem⟩⟩

/-- A Fault Log that has not changed has captured nothing. -/
theorem OnlyLogs.link_of_faults {v : State} (h : OnlyLogs s v) (same : v.faults = s.faults) : v.link = s.link := by
  rcases h.link with link | ⟨empty, captured, -⟩
  · exact link
  · rw [same] at captured
    exact absurd empty captured

theorem OnlyLogs.link_of_full {v : State} (h : OnlyLogs s v) (full : s.roomForOthers = 0) : v.link = s.link := by
  rcases h.link with link | ⟨-, -, room, -⟩
  · exact link
  · omega

/-- The BALANCE of a changed account (R125): against the reservation, or as R9 says for ACCOUNT and PATRON_LOAD. -/
theorem Evaluated.balance_posted (h : Evaluated s slot p p.loans (s.evaluateAll p.loans)) (patron : s.patronAt slot = some p)
    (changed : (s.caughtUpPatron p).balance ≠ p.balance ∨ (s.caughtUpPatron p).blocked ≠ p.blocked) {op : Op}
    (busy : s.engine = .busy op) (quiet : op.waiting = []) :
    let n := (s.caughtUpPatron p).balanceNotice
    (s.balanceIsOptional = false → 1 ≤ op.reservation → n ∈ (s.catchUp slot).link.outbound) ∧
      (s.balanceIsOptional = true →
        (s.link.coalesce n ≠ none → n ∈ (s.catchUp slot).link.outbound) ∧
        (0 < s.roomForOthers → (s.catchUp slot).faults = s.faults → n ∈ (s.catchUp slot).link.outbound) ∧
        (s.link.coalesce n = none → s.roomForOthers = 0 → (s.catchUp slot).link = s.link)) := by
  have logs := h.compared_logs
  have faults := (State.catchUp_tables patron).2
  rw [h.posts patron changed] at faults ⊢
  refine ⟨fun counted room => ?_, fun optional => ?_⟩
  · rw [counted]
    exact (State.post_room ⟨op, logs.engine.trans busy, quiet, room⟩ _).1
  · rw [optional] at faults ⊢
    refine ⟨fun merges => State.postIfRoom_merges ?_, fun room same => State.postIfRoom_room _ ?_, fun alone full => ?_⟩
    · obtain ⟨more, link, -⟩ := logs.outbound
      rw [link]
      exact Link.coalesce_append more merges
    · rwa [State.roomForOthers_congr logs.engine (logs.link_of_faults (faults.symm.trans same))]
    · have link := logs.link_of_full full
      have not_ : (s.compared slot p).postIfRoom (s.caughtUpPatron p).balanceNotice = s.compared slot p :=
        State.postIfRoom_not (by rwa [link]) (by rwa [State.roomForOthers_congr logs.engine link])
      exact (congrArg State.link not_).trans link

/-- Settles O11, by the induction over the loan list that `Evaluated` carries. -/
theorem catchUpTouchesOnlyThePatronAndItsLoans : Obligations.CatchUpTouchesOnlyThePatronAndItsLoans := by
  intro s slot p clean patron owner
  have h := State.evaluateAll_evaluated clean patron owner
  have tables := h.catchUp patron
  have loans : (s.catchUp slot).loans = (s.evaluateAll p.loans).loans := congrArg Tables.loans tables
  have patrons : (s.catchUp slot).patrons =
      Tbl.store (s.evaluateAll p.loans).patrons slot (.resident (s.caughtUpPatron p)) := congrArg Tables.patrons tables
  have resident : (s.catchUp slot).patronAt slot = some (s.caughtUpPatron p) := by
    rw [State.patronAt_eq_some, patrons, Tbl.lookup_store_same]
  have only : ∀ q, (s.catchUp slot).patronAt slot = some q → q = s.caughtUpPatron p := fun q some_ =>
    Option.some.inj (some_.symm.trans resident)
  have calendar : (s.catchUp slot).calendar = s.calendar := (congrArg Tables.calendar tables).trans h.rules.calendar
  refine ⟨fun n other => ?_, fun n outside => ?_, ⟨_, resident, rfl, rfl, rfl, rfl, rfl, rfl, le_addToBalance _ _, rfl⟩,
    ⟨(State.catchUp_tables patron).2.trans ?_, _, h.patron, ?_⟩, fun n mem => ⟨fun l loan => ?_, fun none_ => ?_⟩,
    ⟨_, resident, rfl, ?_⟩, (congrArg Tables.titles tables).trans h.rules.titles, ?_, calendar,
    (congrArg Tables.schedule tables).trans h.rules.schedule, ?_, ?_, ?_, fun q op some_ changed busy quiet => ?_,
    fun q some_ balance blocked => ?_⟩
  · rw [patrons, Tbl.lookup_store_ne _ _ _ _ other]
    exact h.others n other
  · rw [loans]
    exact h.left n (.inl outside)
  · rw [h.compared]
    rfl
  · rw [tables, h.caughtUpPatron_eq]
    rfl
  · rw [State.loanAt_congr (congrArg (Tbl.lookup · n) loans)]
    exact h.walked n mem l loan
  · rw [loans]
    exact h.left n (.inr none_)
  · rw [State.served, State.touchDay_resident resident, State.today, calendar]
    rfl
  · exact (congrArg Tables.pool tables).trans (congrArg Tables.pool h.frame)
  · exact (congrArg Tables.sweep tables).trans (congrArg Tables.sweep h.frame)
  · exact (congrArg Tables.tags tables).trans (congrArg Tables.tags h.frame)
  · exact (congrArg Tables.tagLine tables).trans (congrArg Tables.tagLine h.frame)
  · obtain rfl := only q some_
    exact h.balance_posted patron changed busy quiet
  · obtain rfl := only q some_
    obtain ⟨more, link, faults⟩ := h.compared_logs.outbound
    rw [h.posts_not patron balance blocked, link]
    exact ⟨more, rfl, faults⟩

end Sys2Proof.Machine
end

section
/-! PROOF. A memory kept tidy: what each write of a table must give for the tables to stay canonical (R14, R27, R36, R86)
and, where no bit error comes, for the accounts to stay within R13's ranges; and that posts, faults, grants and completions
write no table. -/

namespace Sys2Proof.Machine

/-! ## The condition -/

/-- R13's ranges of an account. -/
def Patron.sound (p : Patron) : Prop := p.pending ≤ p.balance ∧ p.balance ≤ 999999

/-- A patron record without damage, whose account is within R13's ranges. -/
def PatronRec.sound : PatronRec → Prop
  | .resident p => p.sound
  | .damaged _ => False
  | _ => True

/-- The tables are canonical; and where the memory is `clean`, no bit error is in it and the patron records and tags are
as `State.creditsAgree` asks. -/
structure Tidy (clean : Prop) (s : State) : Prop where
  patrons : Tbl.wf s.patrons = true
  loans : Tbl.wf s.loans = true
  titles : Tbl.wf s.titles = true
  pool : Tbl.wf s.pool = true
  marks : Tbl.wf s.calendar.marks = true
  window : s.calendar.withinWindow
  noErr : clean → s.upsets = []
  sound : clean → ∀ e ∈ s.patrons, e.2.sound
  tags : clean → ∀ n : Fin 32, (s.tags.get n).state ≠ .damaged

variable {c : Prop} {s t : State}

theorem PatronRec.sound_iff {s : State} (wf : Tbl.wf s.patrons = true) :
    (∀ e ∈ s.patrons, e.2.sound) ↔
      (∀ n id, Tbl.lookup s.patrons n ≠ some (.damaged id)) ∧ ∀ n p, s.patronAt n = some p → p.sound := by
  constructor
  · exact fun h => ⟨fun n id there => h _ (Tbl.mem_of_lookup there),
      fun n p there => h _ (Tbl.mem_of_lookup (State.patronAt_eq_some.mp there))⟩
  · rintro ⟨undamaged, ranges⟩ ⟨n, r⟩ mem
    have there := Tbl.lookup_of_mem wf mem
    cases r with
    | resident p => exact ranges n p (State.patronAt_eq_some.mpr there)
    | damaged id => exact undamaged n id there
    | _ => exact trivial

theorem tidy_iff : Tidy c s ↔ s.canonical ∧ (c → s.creditsAgree) := by
  constructor
  · intro h
    refine ⟨⟨h.patrons, h.loans, h.titles, h.pool, h.marks, h.window⟩, fun clean => ?_⟩
    obtain ⟨undamaged, ranges⟩ := (PatronRec.sound_iff h.patrons).mp (h.sound clean)
    exact ⟨h.noErr clean, undamaged, h.tags clean, ranges⟩
  · rintro ⟨⟨patrons, loans, titles, pool, marks, window⟩, credits⟩
    refine ⟨patrons, loans, titles, pool, marks, window, fun clean => (credits clean).1, fun clean => ?_,
      fun clean => (credits clean).2.2.1⟩
    obtain ⟨-, undamaged, -, ranges⟩ := credits clean
    exact (PatronRec.sound_iff patrons).mpr ⟨undamaged, ranges⟩

theorem Tidy.patron_sound (h : Tidy c s) (clean : c) {n : Nat} {p : Patron} (there : s.patronAt n = some p) : p.sound :=
  ((PatronRec.sound_iff h.patrons).mp (h.sound clean)).2 n p there

theorem Tidy.undamaged (h : Tidy c s) (clean : c) (n id : Nat) : Tbl.lookup s.patrons n ≠ some (.damaged id) :=
  ((PatronRec.sound_iff h.patrons).mp (h.sound clean)).1 n id

/-- What the condition speaks of. -/
def State.guarded (s : State) :
    Tbl PatronRec × Tbl LoanRec × Tbl TitleRec × Tbl PoolRec × Calendar × Vector Tag 32 × List Flip :=
  ⟨s.patrons, s.loans, s.titles, s.pool, s.calendar, s.tags, s.upsets⟩

theorem Tidy.congr (h : Tidy c s) (e : t.guarded = s.guarded) : Tidy c t := by
  obtain ⟨patrons, loans, titles, pool, calendar, tags, upsets⟩ :
      t.patrons = s.patrons ∧ t.loans = s.loans ∧ t.titles = s.titles ∧ t.pool = s.pool ∧ t.calendar = s.calendar ∧
        t.tags = s.tags ∧ t.upsets = s.upsets := by simpa [State.guarded] using e
  refine ⟨?_, ?_, ?_, ?_, ?_, ?_, ?_, ?_, ?_⟩
  · rw [patrons]; exact h.patrons
  · rw [loans]; exact h.loans
  · rw [titles]; exact h.titles
  · rw [pool]; exact h.pool
  · rw [calendar]; exact h.marks
  · rw [calendar]; exact h.window
  · rw [upsets]; exact h.noErr
  · rw [patrons]; exact h.sound
  · rw [tags]; exact h.tags

theorem Tidy.ite {p : Prop} [Decidable p] {u : State} (ht : Tidy c t) (hu : Tidy c u) : Tidy c (if p then t else u) := by
  split
  · exact ht
  · exact hu

theorem Tidy.foldl {α : Type} {f : State → α → State} (step : ∀ t a, Tidy c t → Tidy c (f t a)) (xs : List α)
    (h : Tidy c t) : Tidy c (xs.foldl f t) := by
  induction xs generalizing t with
  | nil => exact h
  | cons x xs ih => exact ih (step _ x h)

/-! ## Writes -/

namespace Tidy

/-- A write of some records takes fresh check bits, and brings no bit error. -/
theorem noErr_write (h : Tidy c t) (w : RecordId → Bool) (clean : c) : passWhere w t.upsets = [] := by
  rw [h.noErr clean]
  rfl

theorem setPatron (h : Tidy c t) (n : Nat) (r : PatronRec) (sound : c → r.sound) : Tidy c (t.setPatron n r) := by
  refine { h with patrons := Tbl.wf_store _ _ _ h.patrons, noErr := h.noErr_write _, sound := fun clean e mem => ?_ }
  rcases Tbl.mem_store mem with rfl | old
  · exact sound clean
  · exact h.sound clean e old

theorem putPatrons (h : Tidy c t) (x : Tbl PatronRec) (wf : Tbl.wf x = true)
    (sound : (∀ e ∈ t.patrons, e.2.sound) → ∀ e ∈ x, e.2.sound) : Tidy c (t.putPatrons x) :=
  { h with patrons := wf, noErr := h.noErr_write _, sound := fun clean => sound (h.sound clean) }

/-- Records that leave the patron table. -/
theorem filterPatrons (h : Tidy c t) (p : Nat × PatronRec → Bool) : Tidy c (t.putPatrons (t.patrons.filter p)) :=
  h.putPatrons _ (Tbl.wf_filter _ _ h.patrons) fun sound e mem => sound e (List.mem_filter.mp mem).1

theorem freePatron (h : Tidy c t) (n : Nat) : Tidy c (t.freePatron n) :=
  { h with
    patrons := Tbl.wf_release _ _ h.patrons, noErr := h.noErr_write _
    sound := fun clean e mem => h.sound clean e (List.mem_filter.mp mem).1 }

theorem setLoan (h : Tidy c t) (n : Nat) (r : LoanRec) : Tidy c (t.setLoan n r) :=
  { h with loans := Tbl.wf_store _ _ _ h.loans, noErr := h.noErr_write _ }

theorem freeLoan (h : Tidy c t) (n : Nat) : Tidy c (t.freeLoan n) :=
  { h with loans := Tbl.wf_release _ _ h.loans, noErr := h.noErr_write _ }

theorem setTitle (h : Tidy c t) (n : Nat) (r : TitleRec) : Tidy c (t.setTitle n r) :=
  { h with titles := Tbl.wf_store _ _ _ h.titles, noErr := h.noErr_write _ }

theorem freeTitle (h : Tidy c t) (n : Nat) : Tidy c (t.freeTitle n) :=
  { h with titles := Tbl.wf_release _ _ h.titles, noErr := h.noErr_write _ }

theorem putTitles (h : Tidy c t) (x : Tbl TitleRec) (wf : Tbl.wf x = true) : Tidy c (t.putTitles x) :=
  { h with titles := wf, noErr := h.noErr_write _ }

theorem setPool (h : Tidy c t) (n : Nat) (r : PoolRec) : Tidy c (t.setPool n r) :=
  { h with pool := Tbl.wf_store _ _ _ h.pool, noErr := h.noErr_write fun q => decide (q = ⟨.pool, n⟩) }

theorem freePool (h : Tidy c t) (n : Nat) : Tidy c (t.freePool n) :=
  { h with pool := Tbl.wf_release _ _ h.pool, noErr := h.noErr_write fun q => decide (q = ⟨.pool, n⟩) }

theorem putPool (h : Tidy c t) (x : Tbl PoolRec) (wf : Tbl.wf x = true) : Tidy c (t.putPool x) :=
  { h with pool := wf, noErr := h.noErr_write _ }

theorem setTag (h : Tidy c t) (n : Fin 32) (x : Tag) (undamaged : c → x.state ≠ .damaged) : Tidy c (t.setTag n x) := by
  refine { h with noErr := h.noErr_write _, tags := fun clean k => ?_ }
  have get : (t.setTag n x).tags.get k = if n.val = k.val then x else t.tags.get k := by
    simp [State.setTag, State.putTags, vector_get, Vector.getElem_set]
  rw [get]
  split
  · exact undamaged clean
  · exact h.tags clean k

theorem mapPatron (h : Tidy c t) (n : Nat) (f : Patron → Patron) (sound : c → ∀ p, t.patronAt n = some p → (f p).sound) :
    Tidy c (t.mapPatron n f) := by
  unfold State.mapPatron
  split
  · rename_i p there
    exact h.setPatron _ _ fun clean => sound clean p there
  · exact h

/-- A change of a patron record that leaves its account, but for the blocked flag. -/
theorem mapPatron_same (h : Tidy c t) (n : Nat) {f : Patron → Patron} (pending : ∀ p, (f p).pending = p.pending)
    (balance : ∀ p, (f p).balance = p.balance) : Tidy c (t.mapPatron n f) :=
  h.mapPatron n f fun clean p there => by
    have sound := h.patron_sound clean there
    rwa [Patron.sound, pending, balance]

theorem mapTitle (h : Tidy c t) (n : Nat) (f : Title → Title) : Tidy c (t.mapTitle n f) := by
  unfold State.mapTitle
  split
  · exact h.setTitle _ _
  · exact h

theorem setSweep (h : Tidy c t) (w : Sweep) : Tidy c (t.setSweep w) := h.congr rfl
theorem mapCurrent (h : Tidy c t) (f : Summary → Summary) : Tidy c (t.mapCurrent f) := h.congr rfl
theorem toLineEnd (h : Tidy c t) (n : Nat) : Tidy c (t.toLineEnd n) := h.congr rfl
theorem mapOp (h : Tidy c t) (f : Op → Op) : Tidy c (t.mapOp f) := h.congr rfl

theorem allocateTag (h : Tidy c t) (n : Fin 32) (kind : TagKind) (subject reserve : Nat) (o : Option Origin)
    (k : Option Parked) : Tidy c (t.allocateTag n kind subject reserve o k) := h.setTag _ _ fun _ => nofun

theorem retireTag (h : Tidy c t) (n : Nat) : Tidy c (t.retireTag n) := by
  unfold State.retireTag
  split
  · exact (h.setTag _ (Tag.retired _) fun _ => by simp [Tag.retired]).congr rfl
  · exact h

theorem touchDay (h : Tidy c t) (n : Nat) : Tidy c (t.touchDay n) := by
  unfold State.touchDay
  split
  · exact h.setPatron _ _ fun _ => trivial
  · rename_i p there
    exact h.setPatron _ _ fun clean => h.patron_sound (p := p) clean (State.patronAt_eq_some.mpr there)
  · exact h.setPatron _ _ fun _ => trivial
  · exact h

theorem blockCompare (h : Tidy c t) (n : Nat) : Tidy c (t.blockCompare n) :=
  h.mapPatron_same n (fun _ => rfl) fun _ => rfl

/-! ## Posts and faults write no table -/

theorem onlyPosts (h : Tidy c s) (posts : OnlyPosts s t) : Tidy c t := by
  obtain ⟨q, f, g, rfl, -⟩ := posts
  exact h.congr rfl

theorem sameButLanes (h : Tidy c s) (same : SameButLanes s t) : Tidy c t :=
  h.congr (congrArg State.guarded same :)

theorem post (h : Tidy c t) (n : Notice) : Tidy c (t.post n) := h.onlyPosts (t.post_onlyPosts n)

theorem logFault (h : Tidy c t) (cls : FaultClass) (src : Source) (ctx : Context) : Tidy c (t.logFault cls src ctx) :=
  h.onlyPosts (t.logFault_onlyPosts cls src ctx)

theorem postBalance (h : Tidy c t) (n : Nat) : Tidy c (t.postBalance n) := by
  unfold State.postBalance
  split
  · exact (h.onlyPosts (t.postIfRoom_onlyPosts _)).ite (h.post _)
  · exact h

theorem hand (h : Tidy c t) (o : Option Origin) (n : StationNotice) : Tidy c (t.hand o n) := by
  cases o with
  | none => exact h
  | some o => exact h.mapOp _

theorem lineWorks (h : Tidy c s) (works : LineWorks s t) : Tidy c t := by
  induction works with
  | refl => exact h
  | lanes _ only ih => exact ih.sameButLanes only
  | logFault _ cls src ctx ih => exact ih.logFault cls src ctx
  | @announce u _ l ih =>
    rcases u.announce_cases l with ⟨q, -, e⟩ | ⟨-, ⟨-, e⟩ | ⟨-, e⟩⟩ <;> rw [e] <;> exact ih.congr rfl

theorem announce (h : Tidy c t) (l : Lane) : Tidy c (t.announce l) := h.lineWorks (LineWorks.refl.announce l)

/-! ## Claims, searches and completions write no table -/

theorem append (h : Tidy c t) (n : Notice) : Tidy c (t.append n) := h.congr rfl

theorem postOwedFault (h : Tidy c t) : Tidy c t.postOwedFault := by
  unfold State.postOwedFault
  split
  · exact ite (h.congr rfl) h
  · exact h

theorem postOwedLaneState (h : Tidy c t) (l : Lane) : Tidy c (t.postOwedLaneState l) := (h.announce l).ite h

theorem confirmMarker (h : Tidy c t) : Tidy c t.confirmMarker := by
  unfold State.confirmMarker
  split
  · exact ite (h.congr rfl) h
  · exact h

theorem confirmOverrun (h : Tidy c t) : Tidy c t.confirmOverrun := by
  unfold State.confirmOverrun
  split
  · exact ite (ite (h.congr rfl) (ite (h.congr rfl) h)) h
  · exact h

theorem moveSideList (h : Tidy c t) : Tidy c t.moveSideList := by
  unfold State.moveSideList
  split
  · exact ite (h.congr rfl) h
  · exact h

theorem claimAll (h : Tidy c t) (cs : List Claim) : Tidy c (t.claimAll cs) := by
  refine h.foldl (fun u claim h => ?_) cs
  cases claim with
  | fault => exact h.postOwedFault
  | laneState l => exact h.postOwedLaneState l
  | overrun => exact h.confirmOverrun
  | sideList => exact h.moveSideList
  | marker => exact h.confirmMarker

theorem serviceLimited (h : Tidy c t) (p : Nat) : Tidy c (t.serviceLimited p) := by
  unfold State.serviceLimited
  split
  · dsimp only
    split
    · exact h.lineWorks (LineWorks.refl.takeAnswer _ _ _ _)
    · exact h
  · exact h

theorem grant (h : Tidy c t) (p : Nat) (k : OpKind) : Tidy c (t.grant p k) := by
  have marked : Tidy c (t.markGranted p) := by
    unfold State.markGranted
    split
    · dsimp only
      split
      · exact h.congr rfl
      · exact h
    · exact h
  exact marked.congr rfl

theorem search (h : Tidy c t) : Tidy c t.search := by
  refine ite ?_ h
  generalize rotation t.arbiter.pointer = ps
  induction ps generalizing t with
  | nil => exact h
  | cons p ps ih =>
    unfold State.searchOver
    split
    · exact ih h
    · exact (h.grant p _).ite ((ih (h.serviceLimited p)).ite (ih h))

theorem finishOp (h : Tidy c t) (op : Op) (cs : List Claim) : Tidy c (t.finishOp op cs) := by
  have left : Tidy c (t.leaveQueue op) := by
    unfold State.leaveQueue
    split <;> exact h.congr rfl
  have handed := left.sameButLanes (((SameButLanes.refl _).routeAnswer op).handNotices op.handed)
  have freed : Tidy c { ((t.leaveQueue op).routeAnswer op).handNotices op.handed with engine := .free } := handed.congr rfl
  exact ite (left.congr rfl) (freed.claimAll cs).search

theorem complete (h : Tidy c t) (cs : List Claim) : Tidy c (t.complete cs) := by
  unfold State.complete
  split
  · exact (h.finishOp _ cs).ite (h.congr rfl)
  · exact h

end Tidy

end Sys2Proof.Machine
end

section
/-! PROOF. Checked reads keep the memory tidy (R185, R186): without bit errors they change nothing, and a damaged record,
a repaired place and a recovered id are written to canonical tables. -/

namespace Sys2Proof.Machine.Tidy

variable {c : Prop} {s t : State}

/-! ## One check, and the damage it finds -/

theorem check (h : Tidy c t) (r : RecordId) : Tidy c (t.check r).2 := by
  have passed : Tidy c { t with upsets := passWhere (fun q => decide (q = r)) t.upsets } :=
    { h with noErr := h.noErr_write fun q => decide (q = r) }
  unfold State.check
  dsimp only
  split
  · exact passed
  · exact passed.logFault _ _ _
  · exact passed

theorem logDamage (h : Tidy c t) (r : RecordId) : Tidy c (t.logDamage r) := by
  unfold State.logDamage
  split <;> exact h.logFault _ _ _

section Reader

variable {read : Reader} (dirty : ¬ c) (reads : ∀ t r, Tidy c t → Tidy c (read r t))
include reads

theorem scanBy (h : Tidy c t) (tbl : Table) : Tidy c (State.scanBy read tbl t) :=
  h.foldl (fun _ _ h => reads _ _ h) _

theorem recountBy (h : Tidy c t) (n : Nat) : Tidy c (State.recountBy read n t) := by
  unfold State.recountBy
  split
  · exact (h.foldl (fun _ _ h => reads _ _ h) _).mapTitle _ _
  · exact h

include dirty

theorem markDamaged (h : Tidy c t) (r : RecordId) : Tidy c (State.markDamaged read r t) := by
  have forgotten : Tidy c (t.forgetEntry r.slot) := { h with pool := Tbl.wf_store _ _ _ h.pool }
  have scanned := scanBy reads forgotten .title
  unfold State.markDamaged
  split
  · split
    · exact h.setPatron _ _ fun clean => absurd clean dirty
    · exact h
  · split
    · exact h.setLoan _ _
    · exact h
  · split
    · exact h.setTitle _ _
    · exact h
  · dsimp only
    split
    · exact recountBy reads (scanned.setPool _ _) _
    · exact (scanned.setPool _ _).ite (scanned.freePool _)
  · split
    · exact ((h.setTag _ _ fun clean => absurd clean dirty).toLineEnd _).ite
        (h.setTag _ _ fun clean => absurd clean dirty)
    · exact h
  · exact h

theorem recoverPlace (h : Tidy c t) (r : RecordId) : Tidy c (State.recoverPlace read r t) := by
  have forgotten : Tidy c (t.forgetId r) := by
    unfold State.forgetId
    split
    · exact { h with patrons := Tbl.wf_store _ _ _ h.patrons, sound := fun clean => absurd clean dirty }
    · exact { h with titles := Tbl.wf_store _ _ _ h.titles }
    · exact h
  have others : Tidy c (State.scanOthers read r (t.forgetId r)) :=
    scanBy (read := fun q u => if q = r then u else read q u) (fun _ _ h => h.ite (reads _ _ h)) forgotten _
  have entries := scanBy reads others .pool
  have damaged (u : State) (h : Tidy c u) (id : Nat) : Tidy c (u.setPatron r.slot (.damaged id)) :=
    h.setPatron _ _ fun clean => absurd clean dirty
  unfold State.recoverPlace
  split
  · dsimp only
    split
    · exact damaged _ entries _
    · exact (damaged _ (scanBy reads entries _) 0).ite ((scanBy reads entries _).freePatron _)
  · dsimp only
    split
    · exact entries.setTitle _ _
    · exact entries.freeTitle _
  · exact h.setLoan _ _
  · dsimp only
    split
    · exact (h.setTag _ _ fun clean => absurd clean dirty).toLineEnd _
    · exact h
  · exact h

theorem bothLost (h : Tidy c t) (r p : RecordId) : Tidy c (State.bothLost read r p t) :=
  ((recoverPlace dirty reads h p).logDamage r).logDamage p

theorem lost (h : Tidy c t) (r : RecordId) : Tidy c (State.lost read r t) := by
  unfold State.lost
  split
  · exact ((recoverPlace dirty reads h _).logDamage _).ite
      ((bothLost dirty reads (h.check _) _ _).ite ((h.check _).logDamage _))
  · unfold State.recordLost
    split
    · exact markDamaged dirty reads (h.logDamage _) _
    · exact (bothLost dirty reads (h.check _) _ _).ite (markDamaged dirty reads ((h.check _).logDamage _) _)

end Reader

/-! ## Checked reads -/

theorem readRecord (h : Tidy c t) (r : RecordId) : Tidy c (t.readRecord r) := by
  by_cases clean : c
  · rwa [State.readRecord_clean (h.noErr clean)]
  · unfold State.readRecord
    generalize t.upsets.length + 1 = fuel
    induction fuel generalizing r t with
    | zero => exact h
    | succ fuel ih => exact h.ite ((lost clean (fun _ r h => ih h r) (h.check r) r).ite (h.check r))

theorem readTag (h : Tidy c t) (n : Nat) : Tidy c (t.readTag n) := (h.readRecord _).readRecord _

theorem scanTable (h : Tidy c t) (tbl : Table) : Tidy c (t.scanTable tbl) := scanBy (fun _ _ h => h.readRecord _) h _

theorem scanTags (h : Tidy c t) : Tidy c t.scanTags := (h.scanTable _).scanTable _

theorem searchFrom (h : Tidy c t) (tbl : Table) (start : Nat) (found : State → Option Nat) :
    Tidy c (t.searchFrom tbl start found) := h.foldl (fun _ _ h => h.ite (h.readRecord _)) _

theorem lookUpPatron (h : Tidy c t) (id : Nat) : Tidy c (t.lookUpPatron id) := by
  unfold State.lookUpPatron
  dsimp only
  split
  · exact (h.searchFrom _ _ _).readRecord _
  · exact h.searchFrom _ _ _

theorem lookUpCopy (h : Tidy c t) (copy : Nat) : Tidy c (t.lookUpCopy copy) := by
  unfold State.lookUpCopy
  dsimp only
  split
  · exact (h.searchFrom _ _ _).readRecord _
  · exact h.searchFrom _ _ _

theorem lookUpTitle (h : Tidy c t) (id : Nat) : Tidy c (t.lookUpTitle id) := by
  unfold State.lookUpTitle
  dsimp only
  split
  · exact (h.searchFrom _ _ _).readRecord _
  · exact h.searchFrom _ _ _

theorem readFree (h : Tidy c t) : Tidy c t.readFreePatron ∧ Tidy c t.readFreeLoan ∧ Tidy c t.readFreeTitle ∧
    Tidy c t.readFreePool := ⟨h.searchFrom _ _ _, h.searchFrom _ _ _, h.searchFrom _ _ _, h.searchFrom _ _ _⟩

theorem readQueue (h : Tidy c t) (q : List QueueItem) : Tidy c (t.readQueue q) := h.foldl (fun _ _ h => h.readRecord _) _

theorem readQueueOf (h : Tidy c t) (n : Nat) : Tidy c (t.readQueueOf n) := by
  unfold State.readQueueOf
  split
  · exact h.readQueue _
  · exact h

theorem readQueueById (h : Tidy c t) (title : Nat) : Tidy c (t.readQueueById title) := by
  unfold State.readQueueById
  split
  · exact h.readQueue _
  · exact h

theorem readTitleQueue (h : Tidy c t) (title : Nat) : Tidy c (t.readTitleQueue title) :=
  (h.lookUpTitle _).readQueueById _

theorem readFreeTag (h : Tidy c t) : Tidy c t.readFreeTag := by
  unfold State.readFreeTag
  generalize (0 : Nat) = start
  generalize Config.tagSlots = fuel
  induction fuel generalizing start t with
  | zero => exact h
  | succ fuel ih =>
    have searched := h.searchFrom .tagMap start fun s => s.freeTag.map Fin.val
    unfold State.readFreeTagFrom
    dsimp only
    split
    · exact searched
    · exact (searched.readRecord _).ite (ih (searched.readRecord _) _)

theorem readForSlot (h : Tidy c t) : Tidy c t.readForSlot :=
  ((h.readFree.1.scanTable _).scanTags.ite (h.readFree.1.scanTable _)).ite h.readFree.1

theorem readTagField (h : Tidy c t) (x : TagField) : Tidy c (t.readTagField x) := (h.readTag _).ite h

theorem readTagId (h : Tidy c t) (x : TagId) : Tidy c (t.readTagId x) := (h.readTag _).ite h

end Sys2Proof.Machine.Tidy
end

section
/-! PROOF. The shared operations of the engine keep the memory tidy: the evaluation of a loan, the catch-up, the start of
a request and of a message, payments, and what is done to the entries of a title. -/

namespace Sys2Proof.Machine

/-! ## Accounts within their ranges (R13) -/

/-- A walk raises the balance, and not above R13's bound (R61). -/
theorem Patron.sound.walk {p : Patron} (h : p.sound) (s : State) (l : Loan) :
    ({ p with balance := (s.walkLoan l p).balance } : Patron).sound := by
  obtain ⟨pending, bound⟩ := h
  have walked := s.walkLoan_balance l p
  unfold addToBalance Config.balanceCeiling at walked
  exact ⟨(by omega : p.pending ≤ (s.walkLoan l p).balance), (by omega : (s.walkLoan l p).balance ≤ 999999)⟩

/-- What is taken off a balance up to the payable amount leaves the pending credit covered (R113). -/
theorem Patron.sound.pay {p : Patron} (h : p.sound) (amount : Nat) :
    ({ p with balance := p.balance - min amount p.payable } : Patron).sound := by
  obtain ⟨pending, bound⟩ := h
  have payable : p.payable = p.balance - p.pending := rfl
  exact ⟨(by omega : p.pending ≤ p.balance - min amount p.payable),
    (by omega : p.balance - min amount p.payable ≤ 999999)⟩

/-- A reserve up to the payable amount leaves the pending credit within the balance (R116). -/
theorem Patron.sound.reserve {p : Patron} (h : p.sound) (amount : Nat) :
    ({ p with pending := p.pending + min amount p.payable } : Patron).sound := by
  obtain ⟨pending, bound⟩ := h
  have payable : p.payable = p.balance - p.pending := rfl
  exact ⟨(by omega : p.pending + min amount p.payable ≤ p.balance), bound⟩

/-- A released reserve (R119). -/
theorem Patron.sound.release {p : Patron} (h : p.sound) (reserve : Nat) :
    ({ p with pending := p.pending - reserve } : Patron).sound := ⟨(Nat.sub_le _ _).trans h.1, h.2⟩

/-- A card payment settled for no more than its reserve (R117). -/
theorem Patron.sound.settle {p : Patron} (h : p.sound) {amount reserve : Nat} (le : amount ≤ reserve) :
    ({ p with pending := p.pending - reserve, balance := p.balance - amount } : Patron).sound := by
  obtain ⟨pending, bound⟩ := h
  exact ⟨(by omega : p.pending - reserve ≤ p.balance - amount), (by omega : p.balance - amount ≤ 999999)⟩

theorem State.patronAt_mapPatron {s : State} {n : Nat} {p : Patron} (f : Patron → Patron) (there : s.patronAt n = some p) :
    (s.mapPatron n f).patronAt n = some (f p) := by
  rw [State.mapPatron, there]
  exact State.patronAt_eq_some.mpr (Tbl.lookup_store_same _ _ _)

namespace Tidy

variable {c : Prop} {s t : State}

/-! ## Serving a patron (R9, R16, R17, R19) -/

theorem evaluate (h : Tidy c t) (n : Nat) : Tidy c (t.evaluate n).1 := by
  have read := h.readRecord ⟨.loan, n⟩
  unfold State.evaluate State.readLoan State.readPatron
  dsimp only
  generalize t.readRecord ⟨.loan, n⟩ = u at read ⊢
  split
  · exact read
  · rename_i l _
    have read := read.readRecord ⟨.patron, l.patronSlot⟩
    generalize u.readRecord ⟨.patron, l.patronSlot⟩ = v at read ⊢
    split
    · exact read
    · rename_i p there
      split
      · have looked : Tidy c (if (v.schedule.cls l.cls).threshold = 0 then v else v.lookUpTitle l.title) :=
          read.ite (read.lookUpTitle _)
        generalize (if (v.schedule.cls l.cls).threshold = 0 then v else v.lookUpTitle l.title) = w at looked ⊢
        have walked : Tidy c (w.writeWalk n l p (w.walkLoan l p)) :=
          (looked.setLoan _ _).setPatron _ _ fun clean => (read.patron_sound clean there).walk w l
        exact walked.ite (walked.logFault _ _ _)
      · exact read

theorem catchUp (h : Tidy c t) (slot : Nat) : Tidy c (t.catchUp slot) := by
  unfold State.catchUp
  split
  · exact h
  · rename_i p _
    have evaluated : Tidy c (t.evaluateAll p.loans) := h.foldl (fun _ _ h => h.evaluate _) _
    exact (evaluated.blockCompare slot).ite ((evaluated.blockCompare slot).postBalance slot)

theorem served (h : Tidy c t) (slot : Nat) : Tidy c (t.served slot) := (h.catchUp slot).touchDay slot

theorem fetchOnMiss (h : Tidy c t) (id : Nat) : Tidy c (t.fetchOnMiss id).1 := by
  have read := h.readFreeTag
  unfold State.fetchOnMiss
  dsimp only
  generalize t.readFreeTag = u at read ⊢
  split
  · exact read
  · have read := read.readForSlot
    generalize u.readForSlot = v at read ⊢
    split
    · exact read
    · exact read
    · exact read
    · exact ((read.allocateTag _ _ _ _ _ _).setPatron _ (.fetching _ _ _) fun _ => trivial).post _

theorem servePatron {body : Nat → Patron → State → Served}
    (works : ∀ n p u, Tidy c u → u.patronAt n = some p → Tidy c (body n p u).1) (h : Tidy c t) (id width : Nat)
    (lost : Patron → Answer) : Tidy c (t.servePatron id width lost body).1 := by
  have found := h.lookUpPatron id
  unfold State.servePatron
  dsimp only
  split
  · exact found.fetchOnMiss id
  · split
    · split
      · rename_i there
        exact works _ _ _ (found.served _) there
      · exact found.served _
    · exact found.touchDay _
    · exact found
    · exact found.touchDay _

theorem namePatron {body : Nat → Patron → State → Confirmed}
    (works : ∀ n p u, Tidy c u → u.patronAt n = some p → Tidy c (body n p u).1) (h : Tidy c t) (id : Nat) :
    Tidy c (t.namePatron id body).1 := by
  have found := h.lookUpPatron id
  unfold State.namePatron
  dsimp only
  split
  · exact found
  · split
    · split
      · rename_i there
        exact works _ _ _ (found.served _) there
      · exact found.served _
    · exact found
    · exact found.touchDay _

theorem takeOff (h : Tidy c t) (slot amount : Nat)
    (sound : c → ∀ p, t.patronAt slot = some p → ({ p with balance := p.balance - amount } : Patron).sound) :
    Tidy c (t.takeOff slot amount) := ((h.mapPatron _ _ sound).blockCompare _).postBalance _

/-- A payment up to the payable amount. -/
theorem pay (h : Tidy c t) {slot : Nat} {p : Patron} (there : t.patronAt slot = some p) (amount : Nat) :
    Tidy c (t.takeOff slot (min amount p.payable)) :=
  h.takeOff _ _ fun clean q found => by
    obtain rfl : p = q := Option.some.inj (there.symm.trans found)
    exact (h.patron_sound clean there).pay amount

/-! ## Hold queues (R88 to R111) -/

theorem trap (h : Tidy c t) (n title : Nat) (x : QueueItem × Hold) (copy ret : Option Nat) :
    Tidy c (t.trap n title x copy ret) := (((h.setPool _ _).mapTitle _ _).post _).mapOp _

theorem offerCopy (h : Tidy c t) (n : Nat) (copy ret : Option Nat) : Tidy c (t.offerCopy n copy ret).1 := by
  have read := h.readQueueOf n
  unfold State.offerCopy
  dsimp only
  split
  · exact read
  · split
    · exact read.trap _ _ _ _ _
    · exact ((read.logFault _ _ _).post _).ite ((read.mapTitle _ _).post _)

theorem trapFromShelf (h : Tidy c t) (n title : Nat) (x : QueueItem × Hold) : Tidy c (t.trapFromShelf n title x) :=
  (h.mapTitle _ _).trap _ _ _ _ _

theorem drainRead (h : Tidy c t) (n : Nat) : Tidy c (t.drainRead n) := by
  have steps (k : Nat) : ∀ u, Tidy c u → Tidy c (State.drainSteps n k u) := by
    induction k with
    | zero => exact fun _ h => h
    | succ k ih =>
      intro u h
      unfold State.drainSteps
      split
      · exact h
      · refine h.ite ?_
        split
        · exact ih _ (h.trapFromShelf _ _ _)
        · exact h
  unfold State.drainRead
  split
  · exact steps _ _ h
  · exact h

theorem drain (h : Tidy c t) (n : Nat) : Tidy c (t.drain n) := (h.readQueueOf n).drainRead n

theorem removeEntry (h : Tidy c t) (n title : Nat) (i : QueueItem) (reason : HoldChange) :
    Tidy c (t.removeEntry n title i reason) := by
  have found := ((h.mapTitle n fun x => x.without i.slot ((t.holdAt i.slot).map Hold.state)).freePool i.slot).lookUpPatron
    i.patron
  refine post ?_ _
  unfold State.dropFromHolds
  split
  · exact found.mapPatron_same _ (fun _ => rfl) fun _ => rfl
  · exact found

theorem checkPatron (h : Tidy c t) (p : Patron) (title : Nat) : Tidy c (t.checkPatron p title).1 := by
  have read := h.foldl (f := State.readLoan) (fun _ _ h => h.readRecord _) p.loans
  unfold State.checkPatron
  split
  · exact h
  · split
    · exact h
    · dsimp only
      split
      · exact read
      · split <;> exact read

theorem makeEntry (h : Tidy c t) (n pslot tslot patron branch : Nat) (x : Title) (until_ : Option Nat) :
    Tidy c (t.makeEntry n pslot tslot patron branch x until_).1 := by
  have made := ((h.setPool n (.entry ⟨patron, x.id, branch, t.today, t.entryState x until_⟩)).mapTitle tslot fun y =>
    y.with ⟨n, patron⟩ (t.entryState x until_)).mapPatron_same pslot (f := fun p => { p with holds := p.holds ++ [x.id] })
      (fun _ => rfl) fun _ => rfl
  unfold State.makeEntry State.postPlaced
  dsimp only
  split
  · exact ((made.post _).post _).mapOp _
  · exact made.post _

theorem placeOn (h : Tidy c t) (pslot patron tslot branch : Nat) (until_ : Option Nat) :
    Tidy c (t.placeOn pslot patron tslot branch until_).1 := by
  have read : Tidy c (t.readForEntry tslot) := by
    have read := h.readQueueOf tslot
    unfold State.readForEntry
    dsimp only
    split
    · exact read.ite read.readFree.2.2.2
    · exact read
  unfold State.placeOn
  dsimp only
  split
  · exact read
  · split
    · exact read
    · exact read.makeEntry _ _ _ _ _ _ _

theorem nameEntry (h : Tidy c t) (p : Patron) (title : Nat) : Tidy c (t.nameEntry p title).1 := by
  have read := h.readTitleQueue title
  unfold State.nameEntry
  split
  · dsimp only
    split
    · exact read
    · split
      · exact read
      · split <;> exact read
    · exact read
  · exact h

theorem offerSetAside (h : Tidy c t) (n : Nat) (x : Hold) : Tidy c (t.offerSetAside n x) := by
  unfold State.offerSetAside
  split
  · exact h.offerCopy _ _ _
  · exact h

theorem cancelEntry (h : Tidy c t) (e : NamedEntry) : Tidy c (t.cancelEntry e) := (h.removeEntry _ _ _ _).offerSetAside _ _

theorem changeEntry (h : Tidy c t) (e : NamedEntry) (st : HoldState) : Tidy c (t.changeEntry e st) := (h.setPool _ _).post _

theorem resumeEntry (h : Tidy c t) (e : NamedEntry) : Tidy c (t.resumeEntry e) := by
  have waiting := (h.mapTitle e.tslot fun x => { x with waiting := x.waiting + 1 }).changeEntry e .waiting
  unfold State.resumeEntry
  dsimp only
  split
  · exact (waiting.trapFromShelf _ _ _).ite waiting
  · exact waiting

/-! ## Loan lists and tags (R27, R150, R154) -/

theorem listSearch (h : Tidy c t) (slot : Nat) : Tidy c (t.listSearch slot) := by
  have scanned := h.scanTable .patron
  refine scanned.putPatrons _ (Tbl.wf_mapSlots _ _ scanned.patrons) fun sound e mem => ?_
  obtain ⟨⟨n, r⟩, old, rfl⟩ := List.mem_map.mp mem
  have sound := sound _ old
  cases r <;> exact sound

theorem satisfyTag (h : Tidy c t) (tag : TagId) : Tidy c (t.satisfyTag tag) := by
  unfold State.satisfyTag
  split
  · exact (h.retireTag _).ite h
  · exact h

theorem raiseParked (h : Tidy c t) (o : Origin) : Tidy c (t.raiseParked o) := ite (h.congr rfl) h

end Tidy

end Sys2Proof.Machine
end

section
/-! PROOF. The work of every operation keeps the memory tidy. -/

namespace Sys2Proof.Machine.Tidy

variable {c : Prop} {s t : State}

/-! ## Lane requests -/

theorem renewOne (h : Tidy c t) (pslot : Nat) (loans : List Nat) (slot : Nat) : Tidy c (t.renewOne pslot loans slot).1 := by
  have read := h.readRecord ⟨.loan, slot⟩
  have checked (u : State) (h : Tidy c u) (patron : Nat) (l : Loan) : Tidy c (u.renewChecked patron slot l).1 := by
    have found := h.lookUpTitle l.title
    unfold State.renewChecked
    dsimp only
    split
    · exact h
    · split
      · exact h
      · split
        · exact found
        · split
          · exact found
          · exact (found.setLoan _ _).post _
  unfold State.renewOne
  dsimp only
  split
  · split
    · exact read
    · split
      · exact read.readRecord _
      · split
        · exact read.readRecord _
        · exact checked _ (read.readRecord _) _ _
  · exact h

theorem renewEach (pslot : Nat) (loans : List Nat) (ns : List Nat) (h : Tidy c t) :
    Tidy c (State.renewEach pslot loans ns t).1 := by
  induction ns generalizing t with
  | nil => exact h
  | cons n ns ih => exact ih (h.renewOne pslot loans n)

theorem payCardWork (h : Tidy c t) (op : Op) : Tidy c (State.payCardWork op t).1 := by
  refine servePatron (fun n p u h there => ?_) h _ _ _
  dsimp only
  split
  · exact h
  · split
    · exact h
    · split
      · exact h
      · split
        · exact h
        · have read := h.readFreeTag
          have same : c → u.readFreeTag = u := fun clean => State.readFreeTag_clean (h.noErr clean)
          generalize u.readFreeTag = v at read same ⊢
          split
          · exact read
          · have reserved := read.mapPatron n (fun q => { q with pending := q.pending + min (op.field 1) p.payable })
              fun clean q found => by
                rw [same clean, there] at found
                obtain rfl : p = q := Option.some.inj found
                exact (h.patron_sound clean there).reserve _
            exact (((reserved.allocateTag _ _ _ _ _ _).raiseParked _).postBalance _).post _

theorem parkPlacement (h : Tidy c t) (o : Origin) (patron title branch : Nat) (until_ : Option Nat) :
    Tidy c (t.parkPlacement o patron title branch until_).1 := by
  unfold State.parkPlacement
  split
  · exact h
  · split
    · exact h
    · have read := h.readFreeTag
      dsimp only
      generalize t.readFreeTag = u at read ⊢
      split
      · exact read
      · have read := read.readFree.2.2.1
        generalize u.readFreeTitle = v at read ⊢
        split
        · exact read
        · exact read
        · exact (((read.allocateTag _ _ _ _ _ _).setTitle _ _).raiseParked _).post _

theorem placeHoldWork (h : Tidy c t) (op : Op) : Tidy c (State.placeHoldWork op t).1 := by
  refine servePatron (fun n p u h _ => ?_) h _ _ _
  have checked := h.checkPatron p (op.field 1)
  split <;> rename_i e <;> rw [e] at checked
  · exact checked
  · have found := checked.lookUpTitle (op.field 1)
    dsimp only
    split
    · exact found.parkPlacement _ _ _ _ _
    · exact found
    · exact found
    · rename_i tslot _ _
      have placed := fun until_ => found.placeOn n p.id tslot (op.field 2) until_
      split <;> rename_i e <;> have placed := e ▸ placed _ <;> exact placed

theorem requestWork (h : Tidy c t) (code : ReqCode) (op : Op) : Tidy c (code.work op t).1 := by
  cases code with
  | account =>
    exact servePatron (fun _ _ _ h _ =>
      (h.foldl (fun _ _ h => h.readRecord _) _).foldl (fun _ _ h => h.readTitleQueue _) _) h _ _ _
  | renew =>
    refine servePatron (fun n p u h _ => ?_) h _ _ _
    dsimp only
    split
    · exact h.lookUpCopy _
    · exact (h.lookUpCopy _).renewOne _ _ _
  | renewAll =>
    refine servePatron (fun n p u h _ => ?_) h _ _ _
    dsimp only
    split
    · exact h
    · exact h.renewEach _ _ _
  | placeHold => exact h.placeHoldWork op
  | cancelHold =>
    refine servePatron (fun n p u h _ => ?_) h _ _ _
    have found := h.nameEntry p (op.field 1)
    split <;> rename_i e <;> rw [e] at found
    · exact found
    · exact found.cancelEntry _
  | suspendHold =>
    refine servePatron (fun n p u h _ => ?_) h _ _ _
    have found := h.nameEntry p (op.field 1)
    split <;> rename_i e <;> rw [e] at found
    · exact found
    · split
      · exact found
      · split
        · exact found
        · exact ((found.mapTitle _ _).ite found).changeEntry _ _
  | resumeHold =>
    refine servePatron (fun n p u h _ => ?_) h _ _ _
    have found := h.nameEntry p (op.field 1)
    split <;> rename_i e <;> rw [e] at found
    · exact found
    · split
      · exact found.resumeEntry _
      · exact found
  | payCash =>
    refine servePatron (fun n p u h there => ?_) h _ _ _
    split
    · exact h
    · split
      · exact h
      · exact h.pay there _
  | payCard => exact h.payCardWork op
  | detail => exact h
  | poll =>
    show Tidy c (State.pollWork op t).1
    unfold State.pollWork
    split
    · exact h
    · exact h.congr rfl

/-! ## LOAN_OPEN and RETURN -/

theorem loanOpenWork (h : Tidy c t) (m : Message) : Tidy c (State.loanOpenWork m t).1 := by
  have slots (u : State) (h : Tidy c u) (p : Patron) (copy : Nat) (isRestore : Bool) :
      Tidy c (u.loanSlot p copy isRestore).1 := by
    unfold State.loanSlot
    dsimp only
    split
    · exact h
    · split
      · exact h
      · split <;> exact h
    · split
      · exact h
      · split <;> exact h.readFree.2.1
  have opened (u : State) (h : Tidy c u) (n pslot : Nat) (overwrites : Bool) (l : Loan) :
      Tidy c (u.openLoan n pslot overwrites l) :=
    (((h.listSearch n).ite h).setLoan n (.active l)).mapPatron_same pslot (fun _ => rfl) fun _ => rfl
  have lowered (u : State) (h : Tidy c u) (n : Nat) (x : Title) : Tidy c (u.lowerShelf n x) :=
    (h.logFault _ _ _).ite (h.mapTitle _ _)
  have out (u : State) (h : Tidy c u) (title : Nat) : Tidy c (u.checkOut title) := by
    unfold State.checkOut
    split
    · exact lowered _ h _ _
    · exact h
  have picked (u : State) (h : Tidy c u) (patron title copy : Nat) : Tidy c (u.pickUp patron title copy) := by
    unfold State.pickUp
    split
    · rename_i n _ _
      have read := h.readQueueOf n
      dsimp only
      split
      · split
        · exact read.removeEntry _ _ _ _
        · exact lowered _ (read.logFault _ _ _) _ _
      · exact read.logFault _ _ _
    · exact h.logFault _ _ _
  unfold State.loanOpenWork
  split
  · rename_i copy title patron cls due pickup restore
    split
    · refine namePatron (fun n p u h _ => ?_) h _
      have found := slots _ (h.lookUpCopy copy) p copy restore.isSome
      dsimp only
      split <;> rename_i e <;> rw [e] at found
      · exact found
      · dsimp only at found ⊢
        split
        · exact out _ ((opened _ found _ _ _ _).lookUpTitle _) _
        · exact picked _ ((opened _ found _ _ _ _).lookUpTitle _) _ _ _
    · exact h
  · exact h

theorem endLoan (h : Tidy c t) (copy : Nat) : Tidy c (t.endLoan copy).1 := by
  have found := h.lookUpCopy copy
  have owner (u : State) (h : Tidy c u) (n : Nat) : Tidy c (u.readOwner n) := by
    unfold State.readOwner
    split
    · exact h.ite (h.readRecord _)
    · exact h
  unfold State.endLoan
  dsimp only
  split
  · exact found
  · rename_i n _
    have evaluated := owner _ (found.evaluate n) n
    split
    · exact ((((evaluated.blockCompare _).postBalance _).ite evaluated).mapPatron_same _
        (f := fun p => { p with loans := p.loans.filter (· != n), lastDay := State.today _ }) (fun _ => rfl)
        fun _ => rfl).freeLoan _
    · exact (evaluated.listSearch _).freeLoan _

theorem returnWork (h : Tidy c t) (m : Message) : Tidy c (State.returnWork m t).1 := by
  have offered (u : State) (h : Tidy c u) (copy title branch : Nat) : Tidy c (u.offerReturned copy title branch).1 := by
    have found := h.lookUpTitle title
    unfold State.offerReturned
    dsimp only
    split
    · exact found.offerCopy _ _ _
    · exact found
  unfold State.returnWork
  split
  · split
    · exact h
    · exact offered _ (h.endLoan _) _ _ _
  · exact h

/-! ## PATRON_LOAD -/

theorem newResident (h : Tidy c t) (slot id category balance : Nat) :
    Tidy c (t.newResident slot id category balance).1 := by
  have made : Tidy c ((t.setPatron slot
      (.resident ⟨id, category, clampBalance balance, 0, false, [], [], t.today⟩)).blockCompare slot) :=
    (h.setPatron _ (.resident _) fun _ => ⟨Nat.zero_le _, Nat.min_le_right _ _⟩).blockCompare _
  exact (made.postBalance _).ite made

/-- Only damage is restored. -/
theorem restorePatron (h : Tidy c t) (dirty : ¬ c) (slot id category balance : Nat) :
    Tidy c (t.restorePatron slot id category balance).1 := by
  have scanned := (h.scanTags.scanTable .loan).scanTable .title
  unfold State.restorePatron
  dsimp only
  generalize (t.scanTags.scanTable .loan).scanTable .title = u at scanned ⊢
  exact ((scanned.setPatron _ _ fun clean => absurd clean dirty).blockCompare _).postBalance _

theorem patronFound (h : Tidy c t) (id category balance : Nat) : Tidy c (t.patronFound id category balance).1 := by
  unfold State.patronFound
  split
  · rename_i absent
    have read := h.readForSlot
    have same : c → t.readForSlot = t := fun clean => State.readForSlot_clean (h.noErr clean)
    dsimp only
    generalize t.readForSlot = u at read same ⊢
    split
    · rename_i found
      have dirty : ¬ c := fun clean => by
        rw [same clean, absent] at found
        cases found
      exact read.restorePatron dirty _ _ _ _
    · exact read
    · exact read.newResident _ _ _ _
  · split
    · exact ((h.readTagId _).satisfyTag _).newResident _ _ _ _
    · rename_i slot _ _ _ _
      have changed := (h.mapPatron_same slot (f := fun p => { p with category := category }) (fun _ => rfl)
        fun _ => rfl).blockCompare slot
      exact changed.ite (changed.postBalance _)
    · exact h.newResident _ _ _ _
    · rename_i there
      exact h.restorePatron (fun clean => h.undamaged clean _ _ there) _ _ _ _
    · exact h

theorem patronNotFound (h : Tidy c t) (id : Nat) (isMatch : Bool) : Tidy c (t.patronNotFound id isMatch).1 := by
  unfold State.patronNotFound
  split
  · exact h
  · split
    · exact ((h.readTagId _).satisfyTag _).setPatron _ (.unknown _ _) fun _ => trivial
    · exact h.touchDay _
    · exact h
    · split
      · exact h.setPatron _ (.unknown _ _) fun _ => trivial
      · exact h
    · exact h

theorem patronLoadWork (h : Tidy c t) (m : Message) : Tidy c (State.patronLoadWork m t).1 := by
  have loads (u : State) (h : Tidy c u) (id found category balance : Nat) (isMatch : Bool) :
      Tidy c (u.loadPatron id found category balance isMatch).1 := by
    have looked := h.lookUpPatron id
    have caught : Tidy c ((u.lookUpPatron id).caughtUp id) := by
      unfold State.caughtUp
      split
      · exact (looked.served _).ite looked
      · exact looked
    unfold State.loadPatron
    dsimp only
    split
    · exact caught.patronNotFound _ _
    · exact caught.patronFound _ _ _
  unfold State.patronLoadWork
  split
  · rename_i tag _ _ _ _
    split
    · exact h
    · split
      · have read := h.readTagField tag
        dsimp only
        split
        · exact read.logFault _ _ _
        · exact loads _ (read.retireTag _) _ _ _ _ _
      · exact loads _ h _ _ _ _ _
  · exact h

/-! ## TITLE_LOAD -/

theorem checkOwner (h : Tidy c t) (n title : Nat) (i : QueueItem) : Tidy c (t.checkOwner n title i) := by
  have found := h.lookUpPatron i.patron
  unfold State.checkOwner
  dsimp only
  split
  · exact found.removeEntry _ _ _ _
  · rename_i k _
    have touched := found.touchDay k
    generalize (t.lookUpPatron i.patron).touchDay k = u at touched ⊢
    split
    · rename_i p there
      split
      · exact touched
      · split
        · exact touched.removeEntry _ _ _ _
        · exact touched.setPatron _ (.resident _) fun clean =>
            touched.patron_sound (p := p) clean (State.patronAt_eq_some.mpr there)
    · exact touched
    · exact touched.removeEntry _ _ _ _

theorem restoreTitle (h : Tidy c t) (n title shelf : Nat) : Tidy c (t.restoreTitle n title shelf) := by
  have rebuilt := (h.scanTable .pool).setTitle n (.resident ((t.scanTable .pool).rebuiltTitle title shelf))
  have owners := rebuilt.foldl (f := fun s i => s.checkOwner n title i) (fun _ _ h => h.checkOwner _ _ _)
    ((t.scanTable .pool).rebuiltTitle title shelf).queue
  have lists (u : State) (k : Nat) (h : Tidy c u) : Tidy c (u.checkHoldList n title k) := by
    unfold State.checkHoldList
    split
    · split
      · exact (h.mapPatron_same k (f := fun p => { p with holds := p.holds.filter (· != title) }) (fun _ => rfl)
          fun _ => rfl).post _
      · exact h
    · exact h
  have pools (u : State) (h : Tidy c u) : Tidy c u.freeDamagedPool := h.ite (h.putPool _ (Tbl.wf_filter _ _ h.pool))
  exact (pools _ (((owners.scanTable .patron).foldl lists _).scanTable .title)).drain n

theorem titleFound (h : Tidy c t) (title shelf : Nat) : Tidy c (t.titleFound title shelf).1 := by
  have read := h.readQueueById title
  unfold State.titleFound
  dsimp only
  generalize t.readQueueById title = u at read ⊢
  split
  · have read := read.readFree.2.2.1
    generalize u.readFreeTitle = v at read ⊢
    split
    · dsimp only
      exact read.restoreTitle _ _ _
    · exact read.setTitle _ _
    · exact read
  · exact (read.satisfyTag _).setTitle _ _
  · exact (read.mapTitle _ _).drainRead _
  · dsimp only
    exact read.restoreTitle _ _ _

theorem completeParked (h : Tidy c t) (k : Parked) (title n : Nat) : Tidy c (t.completeParked k title n).1 := by
  have found := h.lookUpPatron k.patron
  unfold State.completeParked
  dsimp only
  split
  · exact found
  · rename_i pslot _
    split
    · have touched := found.touchDay pslot
      split
      · exact touched
      · rename_i p _
        have checked := touched.checkPatron p title
        split <;> rename_i e <;> rw [e] at checked
        · exact checked
        · have placed := checked.placeOn pslot p.id n k.branch k.until_
          split <;> rename_i e <;> rw [e] at placed <;> exact placed
    · exact found
    · exact found.touchDay _

theorem handHoldResult (h : Tidy c t) (q : Question) (number : Nat) (o : NoticeOutcome) :
    Tidy c (t.handHoldResult q number o) := by
  unfold State.handHoldResult
  split
  · exact h.hand _ _
  · exact h

theorem loadTitle (h : Tidy c t) (title found shelf : Nat) (qs : List (Question × Nat)) :
    Tidy c (t.loadTitle title found shelf qs).1 := by
  have notFound : Tidy c (t.titleNotFound title).1 := by
    unfold State.titleNotFound
    split
    · exact h
    · exact (h.satisfyTag _).freeTitle _
    · exact h
    · exact h
  have completes (slot : Option Nat) (u : State) (q : Question × Nat) (h : Tidy c u) :
      Tidy c (u.completeQuestion title slot q.1 q.2) := by
    unfold State.completeQuestion
    split
    · exact ((h.completeParked _ _ _).handHoldResult _ _ _).drain _
    · exact h.handHoldResult _ _ _
  unfold State.loadTitle
  split
  · exact notFound.foldl (fun _ _ h => h.handHoldResult _ _ _) _
  · exact (h.titleFound _ _).foldl (completes _) _

theorem titleLoadWork (h : Tidy c t) (m : Message) : Tidy c (State.titleLoadWork m t).1 := by
  have fetch (u : State) (h : Tidy c u) (title : Nat) : Tidy c (u.readFetchTag title) := by
    unfold State.readFetchTag
    split
    · exact h.readTagId _
    · exact h
  unfold State.titleLoadWork
  split
  · rename_i tag _ _ _
    split
    · exact h
    · split
      · have read := h.readTagField tag
        dsimp only
        split
        · exact read.logFault _ _ _
        · exact (fetch _ ((read.retireTag _).lookUpTitle _) _).loadTitle _ _ _ _
      · exact (fetch _ (h.lookUpTitle _) _).loadTitle _ _ _ _
  · exact h

/-! ## AUTH_RESULT -/

theorem applyAuth (h : Tidy c t) (slot : Nat) (q : Question) (number amount : Nat) (clamped : Bool)
    (le : amount ≤ q.reserve) : Tidy c (t.applyAuth slot q number amount clamped).1 := by
  have released := h.mapPatron slot (fun p => { p with pending := p.pending - q.reserve }) fun clean p there =>
    (h.patron_sound clean there).release _
  have settled := released.takeOff slot amount fun clean p' found => by
    cases there : t.patronAt slot with
    | none =>
      rw [State.mapPatron, there] at found
      exact absurd (there.symm.trans found) nofun
    | some p =>
      obtain rfl := Option.some.inj ((State.patronAt_mapPatron _ there).symm.trans found)
      exact (h.patron_sound clean there).settle le
  unfold State.applyAuth
  dsimp only
  split <;> exact settled.hand _ _

theorem authMatched (h : Tidy c t) (q : Question) (number amount : Nat) : Tidy c (t.authMatched q number amount).1 := by
  have found := h.lookUpPatron q.subject
  unfold State.authMatched
  dsimp only
  split
  · exact found.hand _ _
  · split
    · split
      · exact (found.served _).applyAuth _ _ _ _ _ (Nat.min_le_right _ _)
      · exact (found.served _).hand _ _
    · exact (found.touchDay _).hand _ _

theorem authResultWork (h : Tidy c t) (m : Message) : Tidy c (State.authResultWork m t).1 := by
  unfold State.authResultWork
  split
  · rename_i tag _
    have read := h.readTagField tag
    dsimp only
    split
    · exact read.logFault _ _ _
    · exact (read.retireTag _).authMatched _ _ _
  · exact h

/-! ## The other messages -/

theorem setMarks_wf (cal : Calendar) (wf : Tbl.wf cal.marks = true) (day : Nat) (ms : List Mark) :
    Tbl.wf (cal.setMarks day ms).1.marks = true := by
  induction ms generalizing cal day with
  | nil => exact wf
  | cons m ms ih =>
    simp only [Calendar.setMarks]
    split
    · exact ih _ (Tbl.wf_store _ _ _ wf) _
    · exact ih _ wf _

theorem dayCloseWork (h : Tidy c t) (m : Message) : Tidy c (State.dayCloseWork m t).1 := by
  unfold State.dayCloseWork
  split
  · dsimp only
    split
    · exact h
    · exact { h with marks := Tbl.wf_filter _ _ h.marks, window := t.calendar.advance_withinWindow _ }
  · exact h

theorem calendarWork (h : Tidy c t) (m : Message) : Tidy c (State.calendarWork m t).1 := by
  unfold State.calendarWork
  split
  · split
    · exact h
    · split
      · exact h
      · exact { h with
          marks := setMarks_wf _ h.marks _ _, window := Calendar.setMarks_withinWindow h.window _ _ }
  · exact h

theorem scheduleWork (h : Tidy c t) (m : Message) : Tidy c (State.scheduleWork m t).1 := by
  unfold State.scheduleWork
  split
  · split
    · exact h
    · dsimp only
      split
      · exact h
      · exact h.congr rfl
  · exact h

theorem waiveWork (h : Tidy c t) (m : Message) : Tidy c (State.waiveWork m t).1 := by
  unfold State.waiveWork
  split
  · refine namePatron (fun n p u h there => ?_) h _
    split
    · exact h
    · split
      · exact h
      · exact h.pay there _
  · exact h

theorem holdPlaceWork (h : Tidy c t) (m : Message) : Tidy c (State.holdPlaceWork m t).1 := by
  unfold State.holdPlaceWork
  split
  · rename_i patron title branch until_
    split
    · exact h
    · refine namePatron (fun n p u h _ => ?_) h _
      have checked := h.checkPatron p title
      split <;> rename_i e <;> rw [e] at checked
      · exact checked
      · have found := checked.lookUpTitle title
        dsimp only
        split
        · exact found
        · exact found
        · exact found
        · rename_i tslot _ _
          have placed := found.placeOn n p.id tslot branch until_
          split <;> rename_i e <;> rw [e] at placed <;> exact placed
  · exact h

theorem holdCancelWork (h : Tidy c t) (m : Message) : Tidy c (State.holdCancelWork m t).1 := by
  unfold State.holdCancelWork
  split
  · rename_i patron title
    refine namePatron (fun n p u h _ => ?_) h _
    have found := h.nameEntry p title
    split <;> rename_i e <;> rw [e] at found
    · exact found
    · exact found.cancelEntry _
  · exact h

theorem controlLane (h : Tidy c t) (l : Lane) (u : LaneUnit) : Tidy c (t.controlLane l u) :=
  congr (post (h.congr (t := t.setLane l u) rfl) _) rfl

theorem laneControlWork {act : State → Lane → State × Status} (acts : ∀ u l, Tidy c u → Tidy c (act u l).1)
    (action : Nat) (h : Tidy c t) (m : Message) : Tidy c (State.laneControlWork action act m t).1 := by
  unfold State.laneControlWork
  split
  · split
    · exact acts _ _ h
    · exact h
  · exact h

theorem enableLane (h : Tidy c t) (l : Lane) : Tidy c (t.enableLane l).1 := by
  unfold State.enableLane
  dsimp only
  split
  · exact (h.controlLane _ _).congr rfl
  · exact (h.controlLane _ _).congr rfl
  · exact h
  · exact h

theorem disableLane (h : Tidy c t) (l : Lane) : Tidy c (t.disableLane l).1 := by
  unfold State.disableLane
  dsimp only
  split
  · exact h
  · exact h
  · split
    · exact (h.controlLane _ _).sameButLanes ((SameButLanes.refl _).answerHeldCall _)
    · exact h.controlLane _ _
  · exact h.controlLane _ _

theorem abortLane (h : Tidy c t) (l : Lane) : Tidy c (t.abortLane l).1 := by
  unfold State.abortLane
  split
  · exact h
  · exact h.controlLane _ _

/-! ## Sweep steps -/

theorem nextLoan (ns : List Nat) (h : Tidy c t) : Tidy c (State.nextLoan ns t).1 := by
  induction ns generalizing t with
  | nil => exact h
  | cons n ns ih =>
    have read := h.readRecord ⟨.copyIndex, n⟩
    unfold State.nextLoan
    dsimp only
    split
    · exact read
    · exact ih (((read.listSearch _).freeLoan _).ite read)
    · exact ih read

theorem loansStepWork (h : Tidy c t) : Tidy c t.loansStepWork := by
  have next := h.nextLoan (t.slotsFrom .copyIndex (t.loans.map Prod.fst) t.sweep.cursor)
  have reported (u : State) (h : Tidy c u) (n : Nat) (f : Figures) : Tidy c (u.reportCharge n f) := by
    unfold State.reportCharge
    split
    · exact ((h.blockCompare _).postBalance _).ite h
    · exact h
  unfold State.loansStepWork
  split <;> rename_i e <;> rw [e] at next
  · exact next.setSweep _
  · exact ((reported _ (next.evaluate _) _ _).mapCurrent _).setSweep _

theorem nextTitle (ns : List Nat) (h : Tidy c t) : Tidy c (State.nextTitle ns t).1 := by
  induction ns generalizing t with
  | nil => exact h
  | cons n ns ih =>
    have read := h.readRecord ⟨.titleIndex, n⟩
    unfold State.nextTitle
    dsimp only
    generalize t.readRecord ⟨.titleIndex, n⟩ = u at read ⊢
    have read : Tidy c (if (Tbl.lookup u.titles n).isSome then u.readTitle n else u) := (read.readRecord _).ite read
    generalize (if (Tbl.lookup u.titles n).isSome then u.readTitle n else u) = v at read ⊢
    split
    · exact read
    · exact ih read

theorem makeChange (h : Tidy c t) (n title : Nat) (change : Change) : Tidy c (t.makeChange n title change) := by
  unfold State.makeChange
  cases change with
  | resume i x => exact (h.resumeEntry _).mapCurrent _
  | expire i x => exact ((h.removeEntry _ _ _ _).offerSetAside _ _).mapCurrent _
  | remove i => exact h.removeEntry _ _ _ _

theorem makeChanges (n k : Nat) (h : Tidy c t) : Tidy c (State.makeChanges n k t) := by
  induction k generalizing t with
  | zero => exact h
  | succ k ih =>
    have read := h.readQueueOf n
    unfold State.makeChanges
    dsimp only
    split
    · exact read
    · split
      · exact read
      · exact ih (read.makeChange _ _ _)

theorem workTitle (h : Tidy c t) (n : Nat) : Tidy c (t.workTitle n) := by
  have changed := (h.makeChanges n 4).readQueueOf n
  have finished (u : State) (h : Tidy c u) (x : Title) : Tidy c (u.finishTitle n x) := by
    have read : Tidy c (if x.queue.isEmpty then u.scanTags else u) := h.scanTags.ite h
    unfold State.finishTitle
    dsimp only
    generalize (if x.queue.isEmpty then u.scanTags else u) = v at read ⊢
    exact (((read.freeTitle _).mapCurrent _).ite read).setSweep _
  unfold State.workTitle
  dsimp only
  split
  · exact changed.setSweep _
  · split
    · exact changed.setSweep _
    · exact finished _ changed _

theorem closeSweep (h : Tidy c t) : Tidy c t.closeSweep := by
  have read : Tidy c t.readToClose := by
    have read := (h.scanTable .patronIndex).scanTable .patron
    unfold State.readToClose
    dsimp only
    generalize (t.scanTable .patronIndex).scanTable .patron = u at read ⊢
    exact (read.scanTable _).ite read
  exact (((read.filterPatrons _).mapCurrent _).post _).setSweep _

theorem holdsStepWork (h : Tidy c t) : Tidy c t.holdsStepWork := by
  have next := h.nextTitle (t.slotsFrom .titleIndex (t.titles.map Prod.fst) t.sweep.cursor)
  unfold State.holdsStepWork
  split <;> rename_i e <;> rw [e] at next
  · exact next.closeSweep
  · exact next.workTitle _

/-! ## TAG_EXPIRY -/

theorem expireQuestion (h : Tidy c t) (q : Question) (tag : TagId) : Tidy c (t.expireQuestion q tag) := by
  unfold State.expireQuestion
  split
  · have found := h.lookUpPatron q.subject
    unfold State.endPatronFetch
    dsimp only
    split
    · exact found
    · split
      · exact (found.freePatron _).ite found
      · exact found
  · have found := h.lookUpTitle q.subject
    have ended : Tidy c (t.endTitleFetch q.subject tag) := by
      unfold State.endTitleFetch
      dsimp only
      split
      · exact (found.freeTitle _).ite found
      · exact found
    exact ended.handHoldResult _ _ _
  · have found := h.lookUpPatron q.subject
    have ended : Tidy c (t.endCardAuth q) := by
      unfold State.endCardAuth
      dsimp only
      split
      · exact found
      · split
        · exact (found.mapPatron _ _ fun clean p there => (found.patron_sound clean there).release _).postBalance _
        · exact found
    exact ended.hand _ _

/-- Only a DAMAGED number has such an expiry. -/
theorem expireDamaged (h : Tidy c t) (dirty : ¬ c) (x : Tag) (n : Nat) : Tidy c (t.expireDamaged x n) := by
  have settles (u : State) (n : Nat) (h : Tidy c u) : Tidy c (u.settlePending n) := by
    unfold State.settlePending
    split
    · exact h.ite ((h.setPatron _ _ fun clean => absurd clean dirty).postBalance _)
    · exact h
  have recounts (u : State) (l : Lane) (h : Tidy c u) : Tidy c (u.recountParked l) := ite (h.congr rfl) h
  have scanned := (h.scanTags.scanTable .patron).scanTable .title
  have freed : Tidy c (((t.scanTags.scanTable .patron).scanTable .title).freeFetchesOf x n) :=
    (scanned.filterPatrons _).putTitles _ (Tbl.wf_filter _ _ scanned.titles)
  unfold State.expireDamaged
  dsimp only
  generalize ((t.scanTags.scanTable .patron).scanTable .title).freeFetchesOf x n = u at freed ⊢
  exact ((freed.foldl settles _).foldl recounts _).retireTag _

theorem expiryWork (h : Tidy c t) (n : Nat) : Tidy c (State.expiryWork n t) := by
  have read := h.readTag n
  unfold State.expiryWork
  split
  · rename_i fits
    dsimp only
    split
    · rename_i damaged
      exact read.expireDamaged (fun clean => read.tags clean ⟨n, fits⟩ damaged) _ _
    · split
      · exact (read.retireTag _).expireQuestion _ _
      · exact read
  · exact h

end Sys2Proof.Machine.Tidy
end

section
/-! PROOF. Every step keeps the tables canonical, the calendar's marks in the window and, without damage, the accounts
within their ranges (R13, R14, R27, R36, R41, R86). -/

namespace Sys2Proof.Machine

/-! ## The rows of the operations -/

/-- A row performs, of the operations that `mine` recognises, a work that keeps the memory tidy. -/
def KeepsTidy (row : Crossing → Instr) : Prop :=
  ∃ mine work, (∀ c op u, Tidy c u → Tidy c (work op u)) ∧
    ∀ x s, exec (row x) s = State.command (State.perform mine work x) s

theorem KeepsTidy.message {row : Crossing → Instr} {mine : OpKind → Bool} {work : Message → State → Confirmed}
    (works : ∀ c m u, Tidy c u → Tidy c (work m u).1) (e : ∀ x s, exec (row x) s = State.message mine work x s) :
    KeepsTidy row := by
  refine ⟨mine, _, fun c op u h => ?_, e⟩
  split
  · exact (works c _ u h).post _
  · exact h

theorem Message.keepsTidy (m : Message) : KeepsTidy m.command := by
  cases m with
  | loanOpen => exact .message (fun _ m _ h => h.loanOpenWork m) fun _ _ => rfl
  | returnCopy => exact .message (fun _ m _ h => h.returnWork m) fun _ _ => rfl
  | patronLoad => exact .message (fun _ m _ h => h.patronLoadWork m) fun _ _ => rfl
  | titleLoad => exact .message (fun _ m _ h => h.titleLoadWork m) fun _ _ => rfl
  | authResult => exact .message (fun _ m _ h => h.authResultWork m) fun _ _ => rfl
  | dayClose => exact .message (fun _ m _ h => h.dayCloseWork m) fun _ _ => rfl
  | calendar => exact .message (fun _ m _ h => h.calendarWork m) fun _ _ => rfl
  | schedule => exact .message (fun _ m _ h => h.scheduleWork m) fun _ _ => rfl
  | waive => exact .message (fun _ m _ h => h.waiveWork m) fun _ _ => rfl
  | holdPlace => exact .message (fun _ m _ h => h.holdPlaceWork m) fun _ _ => rfl
  | holdCancel => exact .message (fun _ m _ h => h.holdCancelWork m) fun _ _ => rfl
  | laneControl lane action =>
    match action with
    | 0 => exact .message (fun _ m _ h => h.laneControlWork (fun _ l h => h.enableLane l) 0 m) fun _ _ => rfl
    | 1 => exact .message (fun _ m _ h => h.laneControlWork (fun _ l h => h.disableLane l) 1 m) fun _ _ => rfl
    | _ + 2 => exact .message (fun _ m _ h => h.laneControlWork (fun _ l h => h.abortLane l) 2 m) fun _ _ => rfl
  | statusRead => exact .message (fun _ _ _ h => h.scanTable _) fun _ _ => rfl
  | faultRead => exact .message (fun _ _ _ h => h) fun _ _ => rfl
  | faultClear => exact .message (fun _ _ _ h => h.congr rfl) fun _ _ => rfl
  | restart => exact .message (fun _ _ _ h => h) fun _ _ => rfl

theorem OpKind.keepsTidy (k : OpKind) : KeepsTidy k.command := by
  cases k with
  | request code fields => exact ⟨_, _, fun _ op _ h => (h.requestWork code op).mapOp _, code.exec_command⟩
  | message kind m => exact m.keepsTidy
  | loansStep => exact ⟨_, _, fun _ _ _ h => h.loansStepWork, fun _ _ => rfl⟩
  | holdsStep => exact ⟨_, _, fun _ _ _ h => h.holdsStepWork, fun _ _ => rfl⟩
  | tagExpiry n =>
    refine ⟨_, _, fun c op u h => ?_, fun _ _ => rfl⟩
    split
    · exact h.expiryWork _
    · exact h

namespace Tidy

variable {c : Prop} {s t : State}

/-! ## Warm reset and the frame of a command -/

theorem resetPatrons_sound {tbl : Tbl PatronRec} (sound : ∀ e ∈ tbl, e.2.sound) : ∀ e ∈ resetPatrons tbl, e.2.sound := by
  intro e mem
  obtain ⟨⟨n, r⟩, old, kept⟩ := List.mem_filterMap.mp mem
  have sound := sound _ old
  cases r with
  | fetching id day tag => cases kept
  | resident p =>
    cases kept
    exact ⟨Nat.zero_le _, sound.2⟩
  | unknown id day =>
    cases kept
    exact trivial
  | damaged id => exact sound.elim

theorem warmReset (h : Tidy c t) : Tidy c t.warmReset := by
  have patrons : Tidy c (t.putPatrons (resetPatrons t.patrons)) := by
    refine h.putPatrons _ (Tbl.wf_filterMapSlots _ _ (fun e g kept => ?_) h.patrons) resetPatrons_sound
    split at kept <;> cases kept <;> rfl
  have titles := patrons.putTitles (resetTitles t.titles) (Tbl.wf_filter _ _ h.titles)
  have tags : Tidy c (((t.putPatrons (resetPatrons t.patrons)).putTitles (resetTitles t.titles)).putTags
      (t.tags.map Tag.retired)) :=
    { titles with
      noErr := titles.noErr_write _
      tags := fun _ n => by simp [State.putTags, vector_get, Tag.retired] }
  exact search (tags.congr rfl)

theorem command {f : State → State} (keeps : ∀ u, Tidy c u → Tidy c (f u)) (h : Tidy c s)
    (e : State.command f s = .next t) : Tidy c t := by
  cases e
  exact congr (keeps _ (h.warmReset.ite h)) rfl

theorem flips (h : Tidy c t) {fs : List Flip} (quiet : c → fs = []) : Tidy c { t with upsets := t.upsets ++ fs } :=
  { h with noErr := fun clean => by rw [h.noErr clean, quiet clean]; rfl }

theorem operation (h : Tidy c s) (k : OpKind) (x : Crossing) (quiet : c → x.flips = [])
    (e : exec (k.command x) s = .next t) : Tidy c t := by
  obtain ⟨mine, work, works, exec_eq⟩ := k.keepsTidy
  rw [exec_eq] at e
  refine command (fun u h => ?_) h e
  unfold State.perform
  split
  · split
    · exact (works c _ _ (h.flips quiet)).complete _
    · exact h
  · exact h

theorem ofLane (h : Tidy c s) {i : Instr} (ofLane : Instr.ofLane i = true) (e : exec i s = .next t) : Tidy c t := by
  obtain ⟨f, works, exec_eq | exec_eq⟩ := Instr.ofLane.works ofLane <;> rw [exec_eq] at e
  · exact command (fun u h => h.lineWorks (works u)) h e
  · exact command (fun u h => (h.lineWorks (works u)).search) h e

/-! ## The other commands -/

theorem takeFrame (h : Tidy c t) (kind : Byte) (payload : List Byte) (check : BitVec 16) :
    Tidy c (t.takeFrame kind payload check) := by
  have counted : Tidy c t.countFrame := h.congr rfl
  have placed (content : PlaceContent) : Tidy c (t.countFrame.place content t.link.frameCount) := counted.congr rfl
  unfold State.takeFrame
  dsimp only
  split
  · exact (counted.logFault _ _ _).congr rfl
  · split
    · split
      · exact placed _
      · exact placed _
    · exact (placed _).logFault _ _ _

theorem postWaiting (h : Tidy c t) (cs : List Claim) : Tidy c (t.postWaiting cs) := by
  unfold State.postWaiting
  split
  · rename_i op _
    split
    · rename_i n _ _
      split
      · rename_i u e
        have placed : Tidy c u := by
          rcases t.placeWaiting_cases op n with ⟨q, -, e'⟩ | ⟨-, ⟨-, e'⟩ | ⟨-, e'⟩⟩ <;> rw [e'] at e <;> cases e <;>
            exact h.congr rfl
        have held (e : Engine) : Tidy c { u with engine := e } := placed.congr rfl
        dsimp only
        split
        · exact (held _).complete cs
        · exact held _
      · exact h
    · exact h
  · exact h

theorem passDeadlines (h : Tidy c t) (ns : List (Fin 32)) : Tidy c (ns.foldl State.passDeadline t) := by
  refine h.foldl (fun u n h => ?_) ns
  unfold State.passDeadline
  dsimp only
  split
  · exact (h.setTag n { u.tags.get n with state := .due } fun _ => nofun).congr rfl
  · exact h

theorem scrubRead (h : Tidy c t) {flips : List Flip} (quiet : c → flips = []) : Tidy c (t.scrubRead flips) := by
  have scrubbed (u : State) (h : Tidy c u) (r : RecordId) : Tidy c (u.scrubOne r) := by
    unfold State.scrubOne
    split
    · exact (h.readRecord _).readRecord _
    · exact h.readRecord _
  unfold State.scrubRead
  split
  · exact search ((scrubbed _ (h.flips quiet) _).congr rfl)
  · exact h

theorem reset : Tidy c State.reset :=
  tidy_iff.mpr ⟨resetMeetsTheInvariants.1, fun _ => resetMeetsTheInvariants.2.2.2.2.2.1⟩

theorem linkUp (h : Tidy c s) (e : execLinkUp s = .next t) : Tidy c t := by
  unfold execLinkUp at e
  refine command (fun u h => ?_) h e
  have raised : Tidy c { u with link := { u.link with up := true } } := h.congr rfl
  exact h.ite raised.search

theorem linkDown (h : Tidy c s) (e : execLinkDown s = .next t) : Tidy c t := by
  unfold execLinkDown at e
  refine command (fun u h => ?_) h e
  have dropped : Tidy c u.dropLine := h.congr rfl
  exact dropped.search.ite h

theorem entrySent (h : Tidy c s) {cs : List Claim} (e : execEntrySent cs s = .next t) : Tidy c t := by
  unfold execEntrySent at e
  refine command (fun u h => ?_) h e
  split
  · rename_i n rest _
    have out : Tidy c (u.entryOut n rest) := h.congr rfl
    exact (out.claimAll cs).search.ite h
  · exact h

/-- Every command keeps the memory tidy; a clean one, where it brings no bit error. -/
theorem exec (h : Tidy c s) (i : Instr) (quiet : c → i.flips = []) (e : exec i s = .next t) : Tidy c t := by
  cases i with
  | powerOn => cases e; exact reset.congr rfl
  | resetLineAsserted =>
    refine command (fun u h => ?_) h e
    unfold State.assertReset
    split <;> exact h.congr rfl
  | warmReset => exact command (fun _ h => h) h e
  | linkUp => exact h.linkUp e
  | linkDown => exact h.linkDown e
  | inboundFrame kind payload check => exact command (fun u h => ite (h.takeFrame _ _ _).search h) h e
  | markerConfirm => exact command (fun _ h => h.confirmMarker.search) h e
  | overrunConfirm => exact command (fun _ h => h.confirmOverrun.search) h e
  | sideListMove => exact command (fun _ h => h.moveSideList.search) h e
  | entrySent cs => exact h.entrySent e
  | owedFaultPost => exact command (fun _ h => h.postOwedFault) h e
  | owedLaneStatePost l => exact command (fun _ h => h.postOwedLaneState l) h e
  | waitingRoomPost cs => exact command (fun _ h => h.postWaiting cs) h e
  | account x => exact h.operation (.request .account []) x quiet e
  | renew x => exact h.operation (.request .renew []) x quiet e
  | renewAll x => exact h.operation (.request .renewAll []) x quiet e
  | placeHold x => exact h.operation (.request .placeHold []) x quiet e
  | cancelHold x => exact h.operation (.request .cancelHold []) x quiet e
  | suspendHold x => exact h.operation (.request .suspendHold []) x quiet e
  | resumeHold x => exact h.operation (.request .resumeHold []) x quiet e
  | payCash x => exact h.operation (.request .payCash []) x quiet e
  | payCard x => exact h.operation (.request .payCard []) x quiet e
  | detail x => exact h.operation (.request .detail []) x quiet e
  | poll x => exact h.operation (.request .poll []) x quiet e
  | loanOpen x => exact h.operation (.message 1 (.loanOpen 0 0 0 0 0 0 none)) x quiet e
  | returnCopy x => exact h.operation (.message 2 (.returnCopy 0 0 0)) x quiet e
  | patronLoad x => exact h.operation (.message 3 (.patronLoad ⟨false, 0, 0⟩ 0 0 0 0)) x quiet e
  | titleLoad x => exact h.operation (.message 4 (.titleLoad ⟨false, 0, 0⟩ 0 0 0)) x quiet e
  | authResult x => exact h.operation (.message 5 (.authResult ⟨false, 0, 0⟩ 0)) x quiet e
  | dayClose x => exact h.operation (.message 6 (.dayClose 0)) x quiet e
  | calendar x => exact h.operation (.message 7 (.calendar 0 0 [])) x quiet e
  | schedule x => exact h.operation (.message 8 (.schedule 0 0 [])) x quiet e
  | waive x => exact h.operation (.message 9 (.waive 0 0)) x quiet e
  | holdPlace x => exact h.operation (.message 10 (.holdPlace 0 0 0 none)) x quiet e
  | holdCancel x => exact h.operation (.message 11 (.holdCancel 0 0)) x quiet e
  | laneControlEnable x => exact h.operation (.message 12 (.laneControl 0 0)) x quiet e
  | laneControlDisable x => exact h.operation (.message 12 (.laneControl 0 1)) x quiet e
  | laneControlAbort x => exact h.operation (.message 12 (.laneControl 0 2)) x quiet e
  | statusRead x => exact h.operation (.message 13 .statusRead) x quiet e
  | faultRead x => exact h.operation (.message 14 .faultRead) x quiet e
  | faultClear x => exact h.operation (.message 15 .faultClear) x quiet e
  | restart x => exact h.operation (.message 16 .restart) x quiet e
  | loansStep x => exact h.operation .loansStep x quiet e
  | holdsStep x => exact h.operation .holdsStep x quiet e
  | tagExpiry x => exact h.operation (.tagExpiry 0) x quiet e
  | tagDeadline ns => exact command (fun _ h => (h.passDeadlines _).search) h e
  | carrierPresent => exact h.ofLane rfl e
  | carrierLost => exact h.ofLane rfl e
  | settleTimerExpiry => exact h.ofLane rfl e
  | identifyTimerExpiry => exact h.ofLane rfl e
  | roll => exact h.ofLane rfl e
  | replyTimerExpiry => exact h.ofLane rfl e
  | call => exact h.ofLane rfl e
  | req => exact h.ofLane rfl e
  | field => exact h.ofLane rfl e
  | accept => exact h.ofLane rfl e
  | stop => exact h.ofLane rfl e
  | halt => exact h.ofLane rfl e
  | acceptOffer => exact h.ofLane rfl e
  | defer => exact h.ofLane rfl e
  | wordCheckFailure => exact h.ofLane rfl e
  | scrubRead flips => exact command (fun _ h => h.scrubRead quiet) h e

theorem step (h : Tidy c s) (quiet : ∀ i rest, s.pending = i :: rest → c → i.flips = [])
    (e : step s = .next t) : Tidy c t := by
  unfold Machine.step at e
  split at e
  · cases e
    exact h
  · rename_i i rest first
    exact exec (s := { s with pending := rest }) (h.congr rfl) i (quiet i rest first) e

end Tidy

/-- Settles O4: every write keeps its table canonical, whatever the reads find; and in a memory without damage each change
of an account keeps the pending credit covered by the balance. -/
theorem stepKeepsTablesCanonical : Obligations.StepKeepsTablesCanonical := by
  refine ⟨fun s t canonical e => ?_, fun s t canonical credits quiet e => ?_⟩
  · have h : Tidy False s := tidy_iff.mpr ⟨canonical, False.elim⟩
    exact (tidy_iff.mp (h.step (fun _ _ _ => False.elim) e)).1
  · have h : Tidy True s := tidy_iff.mpr ⟨canonical, fun _ => credits⟩
    exact (tidy_iff.mp (h.step (fun i rest first _ => quiet i rest first) e)).2 trivial

end Sys2Proof.Machine
end

section
/-! PROOF. What a message's completion leaves of its work (R10): the tables, the notices, the BALANCE notices, and the
classes of the Fault Log. -/

namespace Sys2Proof.Machine

/-! ## BALANCE notices -/

def Notice.isBalance : Notice → Bool
  | .balance .. => true
  | _ => false

/-- The BALANCE notices of the outbound queue. -/
def State.balances (s : State) : List Notice := s.link.outbound.filter Notice.isBalance

/-- From s to t no BALANCE is posted, and no class leaves the Fault Log. -/
structure PostsNoBalance (s t : State) : Prop where
  balances : t.balances = s.balances
  logged : ∀ cls, s.faults.has cls = true → t.faults.has cls = true

variable {s t : State}

theorem PostsNoBalance.refl (s : State) : PostsNoBalance s s := ⟨rfl, fun _ h => h⟩

theorem PostsNoBalance.trans {u : State} (h : PostsNoBalance s t) (h' : PostsNoBalance t u) : PostsNoBalance s u :=
  ⟨h'.balances.trans h.balances, fun cls there => h'.logged cls (h.logged cls there)⟩

theorem PostsNoBalance.of_same (link : t.link = s.link) (faults : t.faults = s.faults) : PostsNoBalance s t :=
  ⟨by rw [State.balances, link]; rfl, by rw [faults]; exact fun _ h => h⟩

theorem PostsNoBalance.same (h : PostsNoBalance s t) : SameBalances s t := by
  intro id balance pending blocked
  have mem (u : State) : .balance id balance pending blocked ∈ u.link.outbound ↔
      .balance id balance pending blocked ∈ u.balances := by simp [State.balances, Notice.isBalance]
  rw [mem, mem, h.balances]

theorem coalesceIn_balances {n : Notice} (other : n.isBalance = false) {q r : List Notice} (h : coalesceIn n q = some r) :
    r.filter Notice.isBalance = q.filter Notice.isBalance := by
  induction q generalizing r with
  | nil => cases h
  | cons old rest ih =>
    simp only [coalesceIn] at h
    split at h
    · rename_i same
      cases h
      have old_other : old.isBalance = false := by
        cases n <;> cases old <;> simp_all [Notice.sameSubject, Notice.isBalance]
      simp [other, old_other]
    · obtain ⟨r', merged, rfl⟩ := Option.map_eq_some_iff.mp h
      simp [List.filter_cons, ih merged]

theorem Link.coalesce_balances {k : Link} {n : Notice} (other : n.isBalance = false) {q : List Notice}
    (h : k.coalesce n = some q) : q.filter Notice.isBalance = k.outbound.filter Notice.isBalance := by
  unfold Link.coalesce at h
  split at h
  · split at h
    · cases h
    · rename_i e
      obtain ⟨r, merged, rfl⟩ := Option.map_eq_some_iff.mp h
      simp [e, List.filter_cons, coalesceIn_balances other merged]
  · exact coalesceIn_balances other h

theorem PostsNoBalance.setOutbound {q : List Notice}
    (h : q.filter Notice.isBalance = s.link.outbound.filter Notice.isBalance) : PostsNoBalance s (s.setOutbound q) :=
  ⟨h, fun _ there => there⟩

theorem PostsNoBalance.append (s : State) {n : Notice} (other : n.isBalance = false) : PostsNoBalance s (s.append n) :=
  .setOutbound (by simp [List.filter_append, other])

theorem PostsNoBalance.post (s : State) {n : Notice} (other : n.isBalance = false) : PostsNoBalance s (s.post n) := by
  unfold State.post
  split
  · rename_i merged
    exact .setOutbound (Link.coalesce_balances other merged)
  · split
    · split
      · exact .of_same rfl rfl
      · split
        · exact (append s other).trans (.of_same rfl rfl)
        · split
          · exact append s other
          · exact .of_same rfl rfl
    · exact .refl s

/-- A class counted stands in the log, and those that stood there stay (R189). -/
theorem FaultLog.has_count (f : FaultLog) (cls other : FaultClass) :
    (f.count cls).has other = true ↔ f.has other = true ∨ other = cls := by
  unfold FaultLog.count FaultLog.has
  cases other <;> cases cls <;> simp [FaultClass.number]

theorem State.logFault_has (s : State) (cls : FaultClass) (src : Source) (ctx : Context) (other : FaultClass) :
    (s.logFault cls src ctx).faults.has other = true ↔ s.faults.has other = true ∨ other = cls := by
  rw [← FaultLog.has_count]
  unfold State.logFault
  dsimp only
  split
  · rfl
  · split <;> rfl

theorem PostsNoBalance.logFault (s : State) (cls : FaultClass) (src : Source) (ctx : Context) :
    PostsNoBalance s (s.logFault cls src ctx) := by
  refine ⟨?_, fun other there => (s.logFault_has cls src ctx other).mpr (.inl there)⟩
  unfold State.logFault
  dsimp only
  split
  · rfl
  · split
    · exact (append _ rfl).balances
    · rfl

/-! ## Completion -/

theorem PostsNoBalance.announce (s : State) (l : Lane) : PostsNoBalance s (s.announce l) := by
  rcases s.announce_cases l with ⟨q, merged, e⟩ | ⟨-, ⟨-, e⟩ | ⟨-, e⟩⟩ <;> rw [e]
  · exact (setOutbound (Link.coalesce_balances rfl merged)).trans (.of_same rfl rfl)
  · exact (append s rfl).trans (.of_same rfl rfl)
  · exact .of_same rfl rfl

theorem PostsNoBalance.postOwedFault (s : State) : PostsNoBalance s s.postOwedFault := by
  unfold State.postOwedFault
  split
  · split
    · exact ⟨(append s rfl).balances, fun _ h => h⟩
    · exact .refl s
  · exact .refl s

theorem PostsNoBalance.confirmOverrun (s : State) : PostsNoBalance s s.confirmOverrun := by
  unfold State.confirmOverrun
  split
  · split
    · split
      · exact ⟨(append s rfl).balances, fun _ h => h⟩
      · split
        · exact ⟨rfl, fun _ h => h⟩
        · exact .refl s
    · exact .refl s
  · exact .refl s

theorem PostsNoBalance.moveSideList (s : State) : PostsNoBalance s s.moveSideList := by
  unfold State.moveSideList
  split
  · split
    · exact ⟨(append s rfl).balances, fun _ h => h⟩
    · exact .refl s
  · exact .refl s

theorem PostsNoBalance.confirmMarker (s : State) : PostsNoBalance s s.confirmMarker := by
  unfold State.confirmMarker
  split
  · split
    · exact ⟨(append s rfl).balances, fun _ h => h⟩
    · exact .refl s
  · exact .refl s

theorem PostsNoBalance.claim (s : State) (claim : Claim) : PostsNoBalance s (s.claim claim) := by
  cases claim with
  | fault => exact postOwedFault s
  | laneState l =>
    show PostsNoBalance s (s.postOwedLaneState l)
    unfold State.postOwedLaneState
    split
    · exact announce s l
    · exact .refl s
  | overrun => exact confirmOverrun s
  | sideList => exact moveSideList s
  | marker => exact confirmMarker s

theorem PostsNoBalance.claimAll (s : State) (cs : List Claim) : PostsNoBalance s (s.claimAll cs) := by
  unfold State.claimAll
  induction cs generalizing s with
  | nil => exact .refl s
  | cons c cs ih => exact (claim s c).trans (ih _)

theorem SameButLanes.faults (h : SameButLanes s t) : t.faults = s.faults := (congrArg State.faults h.eq :)

theorem State.serviceLimited_faults (s : State) (p : Nat) : (s.serviceLimited p).faults = s.faults := by
  unfold State.serviceLimited
  split
  · dsimp only
    split
    · exact ((SameButLanes.refl s).takeAnswer _ _ _ _).faults
    · rfl
  · rfl

theorem State.markGranted_faults (s : State) (p : Nat) : (s.markGranted p).faults = s.faults := by
  unfold State.markGranted
  split
  · dsimp only
    split <;> rfl
  · rfl

theorem State.search_faults (s : State) : s.search.faults = s.faults := by
  have searched (ps : List Nat) : ∀ u : State, (u.searchOver ps).faults = u.faults := by
    induction ps with
    | nil => exact fun _ => rfl
    | cons p ps ih =>
      intro u
      unfold State.searchOver
      split
      · exact ih u
      · split
        · exact u.markGranted_faults p
        · split
          · exact (ih _).trans (u.serviceLimited_faults p)
          · exact ih u
  unfold State.search
  split
  · exact searched _ s
  · rfl

theorem PostsNoBalance.finishOp (s : State) (op : Op) (cs : List Claim) : PostsNoBalance s (s.finishOp op cs) := by
  have left : PostsNoBalance s (s.leaveQueue op) := by
    unfold State.leaveQueue
    split <;> exact ⟨rfl, fun _ h => h⟩
  unfold State.finishOp
  dsimp only
  split
  · exact left.trans (.of_same rfl rfl)
  · have same := ((SameButLanes.refl (s.leaveQueue op)).routeAnswer op).handNotices op.handed
    have handed := left.trans (.of_same same.link same.faults)
    have claimed := claimAll { ((s.leaveQueue op).routeAnswer op).handNotices op.handed with engine := .free } cs
    exact (handed.trans ⟨claimed.balances, claimed.logged⟩).trans
      (.of_same (State.search_link _) (State.search_faults _))

/-! ## The row of a message -/

/-- t is what the completion of a message leaves of w, the state of its work, with its CONFIRM. -/
structure MessageEnds (s w t : State) (kind : Nat) (status : Status) (fields : List CField) : Prop where
  tables : t.tables = w.tables
  confirms : Confirms s t kind status fields
  noBalance : PostsNoBalance w t
  kept : ∀ n ∈ w.link.outbound, n.isLaneState = false → n ∈ t.link.outbound

/-- A granted message whose work leaves an entry of its reservation: its tables, its notices and its CONFIRM stand. -/
theorem Performs.message_row {w : State} {op : Op} {x : Crossing} {m : Message} {row : Crossing → Instr}
    {mine : OpKind → Bool} {work : Message → State → Confirmed} {status : Status} {fields : List CField}
    (h : Performs s op x m) (isMine : mine op.kind = true) (performs : exec (row x) s = State.message mine work x s)
    (served : work m s = (w, status, fields)) (works : Works Adjusts s w) (room : w.hasRoom 1) :
    ∃ t, exec (row x) s = .next t ∧ MessageEnds s w t m.kind status fields := by
  have named : op.message = some m := by simp [Op.message, h.kind]
  have headSeq : w.headSeq = s.headSeq := by
    unfold State.headSeq
    rw [works.carries.inbound]
  generalize hn : Notice.confirm s.headSeq m.kind status fields = n
  have other : n.isBalance = false ∧ n.isLaneState = false ∧ ∀ old, n.sameSubject old = false := by
    subst hn
    exact ⟨rfl, rfl, fun _ => rfl⟩
  obtain ⟨notBalance, notLane, single⟩ := other
  have e : exec (row x) s = .next ((w.post n).complete x.claims).startSending := by
    rw [performs]
    unfold State.message
    rw [State.command_perform h.noReset h.busy isMine, h.crossed]
    simp only [named, State.confirm, served, headSeq, hn]
  obtain ⟨posted, done, busy, quiet, -⟩ := State.post_room room n
  rw [State.complete_done busy quiet] at e
  refine ⟨_, e, ?_, ?_, ?_, fun old mem notLane => ?_⟩
  · show ((w.post n).finishOp done x.claims).tables = _
    rw [State.finishOp_tables, State.post_tables]
  · rw [← hn] at posted
    rw [← hn]
    exact State.finishOp_confirms posted done x.claims
  · have finished := (PostsNoBalance.post w notBalance).trans (.finishOp (w.post n) done x.claims)
    exact ⟨finished.balances, finished.logged⟩
  · exact (w.post n).finishOp_mem done x.claims (w.post_mem mem (single old)) notLane

end Sys2Proof.Machine
end

section
/-! PROOF. A request or message for a patron that is not RESIDENT (R15, R16, R19, R28). -/

namespace Sys2Proof.Machine

variable {s t : State}

/-! ## The activity day (R15) -/

theorem SameButTables.engine (h : SameButTables s t) : t.engine = s.engine := (congrArg State.engine h :)
theorem SameButTables.link (h : SameButTables s t) : t.link = s.link := (congrArg State.link h :)
theorem SameButTables.lanes (h : SameButTables s t) : t.lanes = s.lanes := (congrArg State.lanes h :)

theorem State.touchDay_onlyTables (s : State) (slot : Nat) : SameButTables s (s.touchDay slot) := by
  unfold State.touchDay
  split <;> rfl

theorem State.touchDay_damaged {slot id : Nat} (here : Tbl.lookup s.patrons slot = some (.damaged id)) :
    s.touchDay slot = s := by
  unfold State.touchDay
  rw [here]

theorem State.touchDay_fetching {slot id day : Nat} {tag : TagId}
    (here : Tbl.lookup s.patrons slot = some (.fetching id day tag)) :
    s.touchDay slot = s.setPatron slot (.fetching id s.today tag) := by
  unfold State.touchDay
  rw [here]

theorem State.touchDay_unknown {slot id day : Nat} (here : Tbl.lookup s.patrons slot = some (.unknown id day)) :
    s.touchDay slot = s.setPatron slot (.unknown id s.today) := by
  unfold State.touchDay
  rw [here]

theorem State.hasRoom_congr {k : Nat} (engine : t.engine = s.engine) (h : s.hasRoom k) : t.hasRoom k := by
  unfold State.hasRoom
  rw [engine]
  exact h

theorem Performs.hasRoom {op : Op} {x : Crossing} {m : Message} {k : Nat} (h : Performs s op x m)
    (room : k ≤ op.reservation) :
    s.hasRoom k := ⟨op, h.busy, h.noWait, room⟩

/-! ## The start of a request (R16) -/

/-- The table of R16, past the RESIDENT row. -/
theorem State.servePatron_unserved {id slot : Nat} {r : PatronRec} {refusal : Refused} (clean : s.upsets = [])
    (found : s.findPatron id = some slot) (here : Tbl.lookup s.patrons slot = some r) (refused : r.refusal = some refusal)
    (width : Nat) (lost : Patron → Answer) (body : Nat → Patron → State → Served) :
    s.servePatron id width lost body = (s.touchDay slot, refusedZero width refusal) := by
  unfold State.servePatron
  simp only [State.lookUpPatron_clean clean, found, here]
  cases r with
  | fetching => cases refused; rfl
  | unknown => cases refused; rfl
  | damaged => cases refused; rw [State.touchDay_damaged here]
  | resident => cases refused

/-! ## The start of a message (R19) -/

theorem State.namePatron_absent {id : Nat} (clean : s.upsets = []) (absent : s.findPatron id = none)
    (body : Nat → Patron → State → Confirmed) : s.namePatron id body = (s, .unknownPatron, []) := by
  unfold State.namePatron
  simp only [State.lookUpPatron_clean clean, absent]

theorem State.namePatron_fetching {id slot i day : Nat} {tag : TagId} (clean : s.upsets = [])
    (found : s.findPatron id = some slot) (here : Tbl.lookup s.patrons slot = some (.fetching i day tag))
    (body : Nat → Patron → State → Confirmed) : s.namePatron id body = (s.touchDay slot, .unknownPatron, []) := by
  unfold State.namePatron
  simp only [State.lookUpPatron_clean clean, found, here]

theorem State.namePatron_unknown {id slot i day : Nat} (clean : s.upsets = [])
    (found : s.findPatron id = some slot) (here : Tbl.lookup s.patrons slot = some (.unknown i day))
    (body : Nat → Patron → State → Confirmed) : s.namePatron id body = (s.touchDay slot, .unknownPatron, []) := by
  unfold State.namePatron
  simp only [State.lookUpPatron_clean clean, found, here]

theorem State.namePatron_damaged {id slot i : Nat} (clean : s.upsets = [])
    (found : s.findPatron id = some slot) (here : Tbl.lookup s.patrons slot = some (.damaged i))
    (body : Nat → Patron → State → Confirmed) : s.namePatron id body = (s, .damaged, []) := by
  unfold State.namePatron
  simp only [State.lookUpPatron_clean clean, found, here]

/-- The row of a message that names a patron, and its work once its own fields pass. -/
structure NamesByRow (m : Message) (id : Nat) (row : Crossing → Instr) (mine : OpKind → Bool)
    (work : Message → State → Confirmed) (body : Nat → Patron → State → Confirmed) : Prop where
  isMine : ∀ kind, mine (.message kind m) = true
  performs : ∀ x s, exec (row x) s = State.message mine work x s
  named : ∀ s, work m s = s.namePatron id body

theorem Message.names.byRow {m : Message} {id : Nat} {row : Crossing → Instr} (h : m.names id row) :
    ∃ mine work body, NamesByRow m id row mine work body := by
  rcases h with ⟨copy, title, cls, due, pickup, restore, rfl, ok, rfl⟩ | ⟨amount, rfl, rfl⟩ |
    ⟨title, branch, until_, rfl, noTitle, branchOk, noId, rfl⟩ | ⟨title, rfl, rfl⟩
  · exact ⟨_, State.loanOpenWork, _, fun _ => rfl, fun _ _ => rfl, fun s => if_pos ok⟩
  · exact ⟨_, State.waiveWork, _, fun _ => rfl, fun _ _ => rfl, fun s => by unfold State.waiveWork; rfl⟩
  · exact ⟨_, State.holdPlaceWork, _, fun _ => rfl, fun _ _ => rfl, fun s => if_neg (by omega)⟩
  · exact ⟨_, State.holdCancelWork, _, fun _ => rfl, fun _ _ => rfl, fun s => by unfold State.holdCancelWork; rfl⟩

/-- A message whose work is to touch tables, and whose CONFIRM carries no fields. -/
theorem Performs.named_row {op : Op} {x : Crossing} {m : Message} {id : Nat} {row : Crossing → Instr} {u : State}
    {status : Status} (h : Performs s op x m) (names : m.names id row) (room : 1 ≤ op.reservation)
    (onlyTables : SameButTables s u) (served : ∀ body, s.namePatron id body = (u, status, [])) :
    ∃ t, exec (row x) s = .next t ∧ t.tables = u.tables ∧ Confirms s t m.kind status [] := by
  obtain ⟨mine, work, body, isMine, performs, named⟩ := names.byRow
  obtain ⟨t, next, ends⟩ := h.message_row (by rw [h.kind]; exact isMine _) (performs x s) ((named s).trans (served body))
    (Works.refl.tables onlyTables) (State.hasRoom_congr onlyTables.engine (h.hasRoom room))
  exact ⟨t, next, ends.tables, ends.confirms⟩

/-- Settles O13: the lookup that opens every patron request and every message that names a patron, by the record's state. -/
theorem unservedPatronIsRefused : Obligations.UnservedPatronIsRefused := by
  refine ⟨fun code s op x id rest slot r refusal names h kind found here refused => ?_, fun s slot => ?_,
    fun m id row s op x names h room => ?_⟩
  · have field : op.field 0 = id := by simp [Op.field, kind]
    obtain ⟨lost, body, work⟩ := code.work_serves names op s
    rw [field, State.servePatron_unserved h.noErr found here refused] at work
    have only := s.touchDay_onlyTables slot
    obtain ⟨t, next, tables, answers, -⟩ :=
      h.request_row kind work (only.engine.trans h.busy) h.noWait (.refl op) only.lanes
    exact ⟨t, next, tables, answers⟩
  · refine ⟨fun i day tag here => ?_, fun i day here => ?_, fun i here => ?_⟩
    · rw [State.touchDay_fetching here]
      rfl
    · rw [State.touchDay_unknown here]
      rfl
    · rw [State.touchDay_damaged here]
  · refine ⟨fun absent => h.named_row names room rfl (State.namePatron_absent h.noErr absent), fun slot found =>
      ⟨fun i day tag here => ?_, fun i day here => ?_, fun i here => ?_⟩⟩
    · exact h.named_row names room (s.touchDay_onlyTables slot) (State.namePatron_fetching h.noErr found here)
    · exact h.named_row names room (s.touchDay_onlyTables slot) (State.namePatron_unknown h.noErr found here)
    · exact h.named_row names room rfl (State.namePatron_damaged h.noErr found here)

end Sys2Proof.Machine
end

section
/-! PROOF. Serving a patron in a memory without damage (R9, R15): which tables it changes, and the reservation it uses. -/

namespace Sys2Proof.Machine

variable {s t : State}

/-! ## Ids of the patron slots (R14) -/

/-- The patron ids of the occupied slots. -/
def State.patronIds (s : State) : List (Nat × Nat) := s.patrons.map fun e => (e.1, e.2.id)

theorem Tbl.map_store_same {α β : Type} {t : Tbl α} {n : Nat} {v w : α} (wf : Tbl.wf t = true) (f : α → β)
    (here : Tbl.lookup t n = some v) (same : f w = f v) :
    ((Tbl.store t n w).map fun e => (e.1, f e.2)) = t.map fun e => (e.1, f e.2) := by
  rw [Tbl.wf_iff_pairwise] at wf
  induction t with
  | nil => cases here
  | cons e t ih =>
    obtain ⟨k, u⟩ := e
    obtain ⟨above, wf⟩ := List.pairwise_cons.mp wf
    rw [Tbl.lookup] at here
    split at here
    · rename_i eq
      cases here
      simp [Tbl.store, ← eq, same]
    · rename_i other
      have later : k < n := above n (List.mem_map.mpr ⟨_, Tbl.mem_of_lookup here, rfl⟩)
      have past : ¬ n < k := Nat.not_lt_of_lt later
      simp [Tbl.store, past, Ne.symm other, ih wf here]

theorem Tbl.findSlot_map {α β : Type} (t : Tbl α) (f : α → β) (p : β → Bool) :
    Tbl.findSlot (t.map fun e => (e.1, f e.2)) p = Tbl.findSlot t fun a => p (f a) := by
  simp [Tbl.findSlot, List.find?_map, Function.comp_def]

theorem State.findPatron_of_ids (h : t.patronIds = s.patronIds) (id : Nat) : t.findPatron id = s.findPatron id := by
  have slot (u : State) : Tbl.findSlot u.patrons (fun r => r.id == id) = Tbl.findSlot u.patronIds (· == id) :=
    (Tbl.findSlot_map u.patrons PatronRec.id (· == id)).symm
  unfold State.findPatron
  rw [slot, slot, h]

/-- What the index finds is a slot that holds the id. -/
theorem Tbl.findSlot_spec {α : Type} {t : Tbl α} (wf : Tbl.wf t = true) {p : α → Bool} {n : Nat}
    (found : Tbl.findSlot t p = some n) : ∃ v, Tbl.lookup t n = some v ∧ p v = true := by
  obtain ⟨⟨k, v⟩, first, rfl⟩ := Option.map_eq_some_iff.mp found
  exact ⟨v, Tbl.lookup_of_mem wf (List.mem_of_find?_eq_some first),
    List.find?_some (p := fun e : Nat × α => p e.2) first⟩

theorem State.findPatron_spec (wf : Tbl.wf s.patrons = true) {id slot : Nat} (found : s.findPatron id = some slot) :
    ∃ r, Tbl.lookup s.patrons slot = some r ∧ r.id = id := by
  unfold State.findPatron at found
  split at found
  · cases found
  · obtain ⟨r, here, same⟩ := Tbl.findSlot_spec wf found
    exact ⟨r, here, by simpa using same⟩

theorem State.findPatron_resident (wf : Tbl.wf s.patrons = true) {id slot : Nat} {p : Patron}
    (found : s.findPatron id = some slot) (resident : s.patronAt slot = some p) : p.id = id := by
  obtain ⟨r, here, rfl⟩ := State.findPatron_spec wf found
  rw [State.patronAt_eq_some.mp resident] at here
  cases here
  rfl

/-! ## What serving changes -/

/-- From s to t no more than patron and loan records have been rewritten, no patron slot takes another id, and no bit error
stands. -/
structure ServesOnly (s t : State) : Prop where
  clean : t.upsets = []
  frame : { t.tables with patrons := s.patrons, loans := s.loans } = s.tables
  lanes : t.lanes = s.lanes
  ids : t.patronIds = s.patronIds
  wf : Tbl.wf t.patrons = true

namespace ServesOnly

theorem refl (clean : s.upsets = []) (wf : Tbl.wf s.patrons = true) : ServesOnly s s := ⟨clean, rfl, rfl, rfl, wf⟩

theorem setLoan (h : ServesOnly s t) (n : Nat) (r : LoanRec) : ServesOnly s (t.setLoan n r) :=
  ⟨by simp [State.setLoan, h.clean], h.frame, h.lanes, h.ids, h.wf⟩

theorem setPatron (h : ServesOnly s t) {n : Nat} {old r : PatronRec} (here : Tbl.lookup t.patrons n = some old)
    (same : r.id = old.id) : ServesOnly s (t.setPatron n r) :=
  ⟨by simp [State.setPatron, h.clean], h.frame, h.lanes,
    (Tbl.map_store_same h.wf PatronRec.id here same).trans h.ids, Tbl.wf_store _ _ _ h.wf⟩

theorem onlyPosts {u : State} (h : ServesOnly s t) (posts : OnlyPosts t u) : ServesOnly s u := by
  obtain ⟨q, f, g, rfl, -⟩ := posts
  exact ⟨h.clean, h.frame, h.lanes, h.ids, h.wf⟩

theorem mapPatron (h : ServesOnly s t) (n : Nat) {f : Patron → Patron} (same : ∀ p, (f p).id = p.id) :
    ServesOnly s (t.mapPatron n f) := by
  unfold State.mapPatron
  split
  · rename_i p resident
    exact h.setPatron (State.patronAt_eq_some.mp resident) (same p)
  · exact h

theorem blockCompare (h : ServesOnly s t) (n : Nat) : ServesOnly s (t.blockCompare n) := h.mapPatron n fun _ => rfl

theorem postBalance (h : ServesOnly s t) (n : Nat) : ServesOnly s (t.postBalance n) := by
  unfold State.postBalance
  split
  · split
    · exact h.onlyPosts (t.postIfRoom_onlyPosts _)
    · exact h.onlyPosts (t.post_onlyPosts _)
  · exact h

theorem touchDay (h : ServesOnly s t) (n : Nat) : ServesOnly s (t.touchDay n) := by
  unfold State.touchDay
  split
  · rename_i here
    exact h.setPatron here rfl
  · rename_i here
    exact h.setPatron here rfl
  · rename_i here
    exact h.setPatron here rfl
  · exact h

end ServesOnly

/-! ## The evaluation of a loan, with its figures (R57, R62) -/

/-- The figures of a walk. -/
def State.figures (s : State) (l : Loan) (w : Walk) : Figures :=
  ⟨s.calendar.closeDay - l.charged, w.daysCharged, w.accruedAdded, w.balanceAdded, w.accruedAdded - w.balanceAdded⟩

/-- The state that the walk of a loan leaves. -/
def State.afterWalk (s : State) (n : Nat) (l : Loan) (p : Patron) : State :=
  (s.writeWalk n l p (s.walkLoan l p)).logCeiling p l
    ((s.walkLoan l p).accruedAdded - (s.walkLoan l p).balanceAdded)

theorem State.evaluate_behind {n : Nat} {l : Loan} {p : Patron} (clean : s.upsets = []) (loan : s.loanAt n = some l)
    (patron : s.patronAt l.patronSlot = some p) (behind : l.charged < s.calendar.closeDay) :
    s.evaluate n = (s.afterWalk n l p, s.figures l (s.walkLoan l p)) := by
  unfold State.evaluate
  simp only [State.readLoan_clean clean, loan, State.readPatron_clean clean, patron, behind, ↓reduceIte,
    State.lookUpTitle_clean clean, ite_self]
  rfl

/-- A slot that is not ACTIVE, the loan of a record that is not RESIDENT and a loan that stands at C are not walked. -/
theorem State.evaluate_still {n : Nat} (clean : s.upsets = [])
    (still : ∀ l, s.loanAt n = some l → (s.patronAt l.patronSlot).isSome = true → s.calendar.closeDay ≤ l.charged) :
    s.evaluate n = (s, .zero) := by
  unfold State.evaluate
  simp only [State.readLoan_clean clean]
  cases loan : s.loanAt n with
  | none => rfl
  | some l =>
    simp only [State.readPatron_clean clean]
    cases patron : s.patronAt l.patronSlot with
    | none => rfl
    | some p => exact if_neg (Nat.not_lt_of_le (still l loan (by simp [patron])))

/-- An evaluation walks a loan, or leaves the state. -/
theorem State.evaluate_cases (clean : s.upsets = []) (n : Nat) :
    (∃ l p, s.loanAt n = some l ∧ s.patronAt l.patronSlot = some p ∧
        s.evaluate n = (s.afterWalk n l p, s.figures l (s.walkLoan l p))) ∨
      s.evaluate n = (s, .zero) := by
  by_cases walks : ∃ l p, s.loanAt n = some l ∧ s.patronAt l.patronSlot = some p ∧ l.charged < s.calendar.closeDay
  · obtain ⟨l, p, loan, patron, behind⟩ := walks
    exact .inl ⟨l, p, loan, patron, State.evaluate_behind clean loan patron behind⟩
  · refine .inr (State.evaluate_still clean fun l loan resident => Nat.le_of_not_lt fun behind => walks ?_)
    obtain ⟨p, patron⟩ := Option.isSome_iff_exists.mp resident
    exact ⟨l, p, loan, patron, behind⟩

theorem State.logCeiling_onlyPosts (s : State) (p : Patron) (l : Loan) (cents : Nat) :
    OnlyPosts s (s.logCeiling p l cents) := by
  unfold State.logCeiling
  split
  · exact .refl s
  · exact s.logFault_onlyPosts _ _ _

theorem State.afterWalk_engine (s : State) (n : Nat) (l : Loan) (p : Patron) : (s.afterWalk n l p).engine = s.engine :=
  ((s.writeWalk n l p _).logCeiling_onlyLogs p l _).1.engine

theorem State.evaluate_engine (clean : s.upsets = []) (n : Nat) : (s.evaluate n).1.engine = s.engine := by
  rcases State.evaluate_cases clean n with ⟨l, p, -, -, e⟩ | e <;> rw [e]
  exact s.afterWalk_engine n l p

namespace ServesOnly

theorem evaluate (h : ServesOnly s t) (n : Nat) : ServesOnly s (t.evaluate n).1 := by
  rcases State.evaluate_cases h.clean n with ⟨l, p, -, resident, e⟩ | e <;> rw [e]
  · have written : ServesOnly s (t.writeWalk n l p (t.walkLoan l p)) :=
      (h.setLoan n _).setPatron (State.patronAt_eq_some.mp resident) rfl
    exact written.onlyPosts (State.logCeiling_onlyPosts _ _ _ _)
  · exact h

theorem calendar (h : ServesOnly s t) : t.calendar = s.calendar := (congrArg Tables.calendar h.frame :)
theorem schedule (h : ServesOnly s t) : t.schedule = s.schedule := (congrArg Tables.schedule h.frame :)

theorem today (h : ServesOnly s t) : t.today = s.today := congrArg (fun c : Calendar => c.closeDay + 1) h.calendar

theorem blockDue (h : ServesOnly s t) (q : Patron) : t.blockDue q = s.blockDue q := by
  unfold State.blockDue
  rw [h.schedule]

theorem evaluateAll (h : ServesOnly s t) (ns : List Nat) :
    ServesOnly s (t.evaluateAll ns) ∧ (t.evaluateAll ns).engine = t.engine := by
  unfold State.evaluateAll
  induction ns generalizing t with
  | nil => exact ⟨h, rfl⟩
  | cons n ns ih =>
    obtain ⟨rest, engine⟩ := ih (h.evaluate n)
    exact ⟨rest, engine.trans (State.evaluate_engine h.clean n)⟩

theorem catchUp (h : ServesOnly s t) (slot : Nat) : ServesOnly s (t.catchUp slot) := by
  unfold State.catchUp
  split
  · exact h
  · rename_i p resident
    have compared := (h.evaluateAll p.loans).1.blockCompare slot
    dsimp only
    split
    · exact compared
    · exact compared.postBalance slot

theorem served (h : ServesOnly s t) (slot : Nat) : ServesOnly s (t.served slot) := (h.catchUp slot).touchDay slot

end ServesOnly

/-! ## The reservation that serving uses (R3, R9) -/

/-- An operation other than ACCOUNT and PATRON_LOAD posts its BALANCE against one entry of its reservation. -/
theorem State.postBalance_room {k : Nat} (h : s.hasRoom (k + 1)) (slot : Nat) : (s.postBalance slot).hasRoom k := by
  have less : s.hasRoom k := by
    obtain ⟨op, busy, quiet, room⟩ := h
    exact ⟨op, busy, quiet, by omega⟩
  unfold State.postBalance
  split
  · split
    · unfold State.postIfRoom
      split
      · exact less
      · split
        · exact less
        · exact less
    · exact (State.post_room h _).2
  · exact less

/-- ACCOUNT and PATRON_LOAD post theirs beside the reservation (R9). -/
theorem State.postBalance_optional {k : Nat} (optional : s.balanceIsOptional = true) (h : s.hasRoom k) (slot : Nat) :
    (s.postBalance slot).hasRoom k := by
  unfold State.postBalance
  split
  · rw [if_pos optional]
    unfold State.postIfRoom
    split
    · exact h
    · split
      · exact h
      · exact h
  · exact h

theorem State.hasRoom_succ {k : Nat} (h : s.hasRoom (k + 1)) : s.hasRoom k := by
  obtain ⟨op, busy, quiet, room⟩ := h
  exact ⟨op, busy, quiet, by omega⟩

theorem State.mapPatron_engine (s : State) (n : Nat) (f : Patron → Patron) : (s.mapPatron n f).engine = s.engine := by
  unfold State.mapPatron
  split <;> rfl

theorem State.compared_engine (clean : s.upsets = []) (wf : Tbl.wf s.patrons = true) (slot : Nat) (p : Patron) :
    (s.compared slot p).engine = s.engine :=
  (State.mapPatron_engine _ _ _).trans ((ServesOnly.refl clean wf).evaluateAll p.loans).2

/-- The state after a catch-up, but for its BALANCE. -/
theorem State.catchUp_cases (s : State) (slot : Nat) :
    s.catchUp slot = s ∨
      ∃ p, s.catchUp slot = s.compared slot p ∨ s.catchUp slot = (s.compared slot p).postBalance slot := by
  cases resident : s.patronAt slot with
  | none =>
    left
    unfold State.catchUp
    rw [resident]
  | some p =>
    right
    rw [State.catchUp_eq resident]
    split
    · exact ⟨p, .inl rfl⟩
    · exact ⟨p, .inr rfl⟩

theorem State.served_room {k : Nat} (clean : s.upsets = []) (wf : Tbl.wf s.patrons = true) (h : s.hasRoom (k + 1)) (slot : Nat) :
    (s.served slot).hasRoom k := by
  refine State.hasRoom_congr (State.touchDay_onlyTables _ slot).engine ?_
  rcases s.catchUp_cases slot with e | ⟨p, e | e⟩ <;> rw [e]
  · exact State.hasRoom_succ h
  · exact State.hasRoom_congr (State.compared_engine clean wf slot p) (State.hasRoom_succ h)
  · exact State.postBalance_room (State.hasRoom_congr (State.compared_engine clean wf slot p) h) slot

theorem State.served_room_optional {k : Nat} (clean : s.upsets = []) (wf : Tbl.wf s.patrons = true)
    (optional : s.balanceIsOptional = true) (h : s.hasRoom k) (slot : Nat) : (s.served slot).hasRoom k := by
  refine State.hasRoom_congr (State.touchDay_onlyTables _ slot).engine ?_
  rcases s.catchUp_cases slot with e | ⟨p, e | e⟩ <;> rw [e]
  · exact h
  · exact State.hasRoom_congr (State.compared_engine clean wf slot p) h
  · have engine := State.compared_engine clean wf slot p
    exact State.postBalance_optional ((State.balanceIsOptional_congr engine).trans optional) (State.hasRoom_congr engine h) slot

end Sys2Proof.Machine
end

section
/-! PROOF. ACCOUNT reports the account (R33). -/

namespace Sys2Proof.Machine

variable {s u : State}

/-! ## A RESIDENT patron served -/

theorem State.patronAt_isSome {slot : Nat} (resident : (s.patronAt slot).isSome = true) :
    ∃ p, Tbl.lookup s.patrons slot = some (.resident p) := by
  obtain ⟨p, there⟩ := Option.isSome_iff_exists.mp resident
  exact ⟨p, State.patronAt_eq_some.mp there⟩

theorem State.servePatron_served {id slot : Nat} {p : Patron} (clean : s.upsets = [])
    (found : s.findPatron id = some slot) (resident : (s.patronAt slot).isSome = true)
    (patron : (s.served slot).patronAt slot = some p) (width : Nat) (lost : Patron → Answer)
    (body : Nat → Patron → State → Served) : s.servePatron id width lost body = body slot p (s.served slot) := by
  obtain ⟨old, here⟩ := State.patronAt_isSome resident
  unfold State.servePatron
  simp only [State.lookUpPatron_clean clean, found, here]
  rw [State.served] at patron
  rw [patron]
  rfl

/-! ## The figures of the account -/

/-- The four fields of a loan in ACCOUNT. -/
def Loan.accountRow (l : Loan) : List RField := [.num l.copy, .num l.due, .num l.accrued, .num l.used]

/-- The record of a readable slot, its four fields in the list. -/
theorem State.flatMap_listLoan (s : State) (ns : List Nat) :
    ns.flatMap s.listLoan = (ns.filterMap s.loanAt).flatMap Loan.accountRow := by
  induction ns with
  | nil => rfl
  | cons n ns ih =>
    rw [List.flatMap_cons, ih, State.listLoan]
    cases loan : s.loanAt n with
    | none => simp [loan]
    | some l => simp [loan, Loan.accountRow]

theorem length_filter_isSome {α β : Type} (f : α → Option β) (xs : List α) :
    (xs.filter fun x => (f x).isSome).length = (xs.filterMap f).length := by
  induction xs with
  | nil => rfl
  | cons x xs ih =>
    cases fx : f x with
    | none => simp [fx, ih]
    | some y => simp [fx, ih]

theorem State.accountFields_eq (s : State) (p : Patron) :
    s.accountFields p =
      [.num p.balance, .num p.pending, .flag p.blocked, .num (p.loans.filterMap s.loanAt).length] ++
        (p.loans.filterMap s.loanAt).flatMap Loan.accountRow ++ [.num p.holds.length] ++
          p.holds.flatMap (s.listHold p.id) := by
  unfold State.accountFields
  rw [length_filter_isSome, State.flatMap_listLoan]

/-- The reads of an account find nothing to change. -/
theorem State.accountReads_clean (clean : s.upsets = []) (p : Patron) :
    p.holds.foldl State.readTitleQueue (p.loans.foldl State.readLoan s) = s := by
  rw [List.foldl_fixed' fun n => State.readLoan_clean clean n, List.foldl_fixed' fun n => State.readTitleQueue_clean clean n]

/-! ## The patron's entry in a queue (R33, R88) -/

theorem State.listEntry_gone {title : Nat} (patron : Nat) (gone : s.residentTitle title = none) :
    s.listEntry patron title = (.unavailable, 0, 0) := by
  unfold State.listEntry
  rw [gone]

theorem State.listEntry_unlisted {patron title : Nat} {tt : Title} (resident : s.residentTitle title = some tt)
    (unlisted : tt.itemOf patron = none) : s.listEntry patron title = (.unavailable, 0, 0) := by
  unfold State.listEntry
  simp only [resident, unlisted]

theorem State.listEntry_lost {patron title : Nat} {tt : Title} {i : QueueItem} (resident : s.residentTitle title = some tt)
    (item : tt.itemOf patron = some i) (lost : s.holdAt i.slot = none) :
    s.listEntry patron title = (.unavailable, 0, 0) := by
  unfold State.listEntry
  simp only [resident, item, lost, Option.map_none]

/-- The figures that the patron's readable entry gives. -/
def State.entryFigures (s : State) (tt : Title) (i : QueueItem) : HoldState → ListedState × Nat × Nat
  | .waiting => (.waiting, s.position tt i.slot, 0)
  | .suspended day => (.suspended, s.position tt i.slot, day)
  | .ready deadline _ => (.ready, 0, deadline)

theorem State.listEntry_held {patron title : Nat} {tt : Title} {i : QueueItem} {h : Hold}
    (resident : s.residentTitle title = some tt) (item : tt.itemOf patron = some i) (held : s.holdAt i.slot = some h) :
    s.listEntry patron title = s.entryFigures tt i h.state := by
  unfold State.listEntry
  simp only [resident, item, held, Option.map_some]
  cases h.state <;> rfl

/-- The items before the first of a slot are the ones ahead. -/
theorem takeWhile_other_slot {i : QueueItem} {ahead behind : List QueueItem} (before : ∀ j ∈ ahead, j.slot ≠ i.slot) :
    ((ahead ++ i :: behind).takeWhile fun j => j.slot != i.slot) = ahead := by
  rw [List.takeWhile_append_of_pos (by simpa using before)]
  simp

/-- Counting over the readable entries of a queue. -/
theorem State.countHolds_eq (s : State) (q : List QueueItem) (f : Hold → Bool) :
    s.countHolds q f = ((q.filterMap fun j => s.holdAt j.slot).filter f).length := by
  unfold State.countHolds
  induction q with
  | nil => rfl
  | cons j q ih =>
    cases held : s.holdAt j.slot with
    | none => simpa [held] using ih
    | some h => cases counts : f h <;> simpa [held, counts] using ih

theorem State.position_eq {tt : Title} {i : QueueItem} {ahead behind : List QueueItem}
    (queue : tt.queue = ahead ++ i :: behind) (before : ∀ j ∈ ahead, j.slot ≠ i.slot) :
    s.position tt i.slot =
      1 + ((ahead.filterMap fun j => s.holdAt j.slot).filter fun g => g.isWaiting || g.isSuspended).length := by
  unfold State.position
  rw [queue, takeWhile_other_slot before, State.countHolds_eq]

/-! ## The statement -/

/-- The engine after serving is BUSY with the same grant, and nothing waits. -/
theorem Granted.served_engine {op : Op} {x : Crossing} {slot : Nat} (h : Granted s op x) (room : (s.served slot).hasRoom 0) :
    ∃ left, (s.served slot).engine = .busy left ∧ left.waiting = [] ∧ SameGrant op left := by
  obtain ⟨left, busy, quiet, -⟩ := room
  have works : Works Adjusts s (s.served slot) := (Works.refl.catchUp slot).touchDay slot
  obtain ⟨done, busyDone, same⟩ := works.carries.op op h.busy
  obtain rfl : left = done := Engine.busy.inj (busy.symm.trans busyDone)
  exact ⟨left, busy, quiet, same⟩

theorem accountAnswers {op : Op} {x : Crossing} {id slot : Nat} {p : Patron} (h : Serves s op x .account [id] slot u p) :
    ∃ t, exec (.account x) s = .next t ∧ t.tables = u.tables ∧ Answers s t op ⟨u.accountFields p, .ok⟩ := by
  obtain ⟨granted, kind, found, resident, rfl, patron⟩ := h
  have clean := granted.noErr
  have wf : Tbl.wf s.patrons = true := granted.canon.1
  have field : op.field 0 = id := by simp [Op.field, kind]
  have only := (ServesOnly.refl clean wf).served slot
  have optional : s.balanceIsOptional = true := by
    unfold State.balanceIsOptional State.op?
    simp [granted.busy, kind]
  have room : (s.served slot).hasRoom 0 :=
    State.served_room_optional clean wf optional ⟨op, granted.busy, granted.noWait, Nat.zero_le _⟩ slot
  obtain ⟨left, busy, quiet, same⟩ := granted.served_engine room
  have work : ReqCode.account.work op s = (s.served slot, ⟨(s.served slot).accountFields p, .ok⟩) := by
    show State.accountWork op s = _
    unfold State.accountWork
    rw [field, State.servePatron_served (id := id) clean found resident patron]
    simp only [State.accountReads_clean only.clean]
  obtain ⟨t, next, tables, answers, -⟩ := granted.request_row kind work busy quiet same only.lanes
  exact ⟨t, next, tables, answers⟩

/-- Settles O14: the account's fields row by row, and the patron's entry by the state of its record. -/
theorem accountReportsTheAccount : Obligations.AccountReportsTheAccount := by
  intro s op x id slot u p h
  refine ⟨?_, fun title => ⟨State.listEntry_gone p.id, fun tt resident => ⟨State.listEntry_unlisted resident, fun i item =>
    ⟨State.listEntry_lost resident item, fun g ahead behind held queue before => ?_⟩⟩⟩⟩
  · obtain ⟨t, next, tables, answers⟩ := accountAnswers h
    rw [State.accountFields_eq] at answers
    exact ⟨t, next, tables, answers⟩
  · have entry := State.listEntry_held resident item held
    have position := State.position_eq (s := u) queue before
    refine ⟨fun state => ?_, fun day state => ?_, fun deadline copy state => ?_⟩ <;>
      rw [entry, state, State.entryFigures]
    · rw [position]
    · rw [position]

end Sys2Proof.Machine
end

section
/-! PROOF. LOAN_OPEN in a memory without damage: the slot it takes, the loan it opens, and the shelf or the READY entry that
hands the copy out (R28 to R30, R98, R99). -/

namespace Sys2Proof.Machine

variable {s t : State}

/-! ## The RESIDENT patron that a message names (R19) -/

theorem State.namePatron_served {id slot : Nat} {p : Patron} (clean : s.upsets = [])
    (found : s.findPatron id = some slot) (resident : (s.patronAt slot).isSome = true)
    (patron : (s.served slot).patronAt slot = some p) (body : Nat → Patron → State → Confirmed) :
    s.namePatron id body = body slot p (s.served slot) := by
  obtain ⟨old, here⟩ := State.patronAt_isSome resident
  unfold State.namePatron
  simp only [State.lookUpPatron_clean clean, found, here]
  rw [State.served] at patron
  rw [patron]
  rfl

/-! ## Writes in a memory without errors -/

theorem State.setPatron_clean (h : s.upsets = []) (n : Nat) (r : PatronRec) :
    s.setPatron n r = { s with patrons := Tbl.store s.patrons n r } := by
  simp only [State.setPatron, h, passWhere, List.filterMap_nil]

theorem State.setLoan_clean (h : s.upsets = []) (n : Nat) (r : LoanRec) :
    s.setLoan n r = { s with loans := Tbl.store s.loans n r } := by
  simp only [State.setLoan, h, passWhere, List.filterMap_nil]

theorem State.freePool_clean (h : s.upsets = []) (n : Nat) : s.freePool n = { s with pool := Tbl.release s.pool n } := by
  simp only [State.freePool, h, passWhere, List.filterMap_nil]

theorem State.mapPatron_clean (h : s.upsets = []) {n : Nat} {p : Patron} (resident : s.patronAt n = some p)
    (f : Patron → Patron) : s.mapPatron n f = { s with patrons := Tbl.store s.patrons n (.resident (f p)) } := by
  simp only [State.mapPatron, resident, State.setPatron_clean h]

/-! ## The slot (R28) -/

section Slot

variable {p : Patron} {copy n : Nat}

theorem State.loanSlot_onLoan {l : Loan} (found : s.findCopy copy = some n) (active : s.loanAt n = some l) (restores : Bool) :
    s.loanSlot p copy restores = (s, .error .copyOnLoan) := by
  unfold State.loanSlot
  simp only [found, Option.bind_some, active]

theorem State.loanSlot_damaged (found : s.findCopy copy = some n) (lost : s.loanAt n = none) (restores : Bool) :
    s.loanSlot p copy restores =
      if restores = false then (s, .error .damaged)
      else if 64 ≤ p.loans.length ∧ n ∉ p.loans then (s, .error .loanLimit) else (s, .ok (n, true)) := by
  unfold State.loanSlot
  simp only [found, Option.bind_some, lost]
  cases restores with
  | false => rfl
  | true => simp [Config.loanLimit]

theorem State.loanSlot_new (clean : s.upsets = []) (absent : s.findCopy copy = none) (restores : Bool) :
    s.loanSlot p copy restores =
      if 64 ≤ p.loans.length then (s, .error .loanLimit)
      else
        match Tbl.firstFree s.loans 16384 with
        | some n => (s, .ok (n, false))
        | none => (s, .error .loanTableFull) := by
  unfold State.loanSlot
  simp only [absent, Option.bind_none, State.readFreeLoan_clean clean]
  rfl

theorem State.loanAt_damaged {c : Nat} (here : Tbl.lookup s.loans n = some (.damaged c)) : s.loanAt n = none := by
  unfold State.loanAt
  rw [here]

end Slot

/-! ## The loan (R29, R30) -/

/-- A loan list once a DAMAGED slot has left it. -/
def clearedList (overwrites : Bool) (n : Nat) (l : List Nat) : List Nat := if overwrites then l.filter (· != n) else l

/-- The patron records once a DAMAGED slot has left every list. -/
def State.delisted (s : State) (overwrites : Bool) (n : Nat) : Tbl PatronRec :=
  if overwrites then s.patrons.map fun e => (e.1, e.2.withoutLoan n) else s.patrons

/-- A record with a DAMAGED slot out of its list. -/
def PatronRec.cleared (overwrites : Bool) (n : Nat) : PatronRec → PatronRec
  | .resident q => .resident { q with loans := clearedList overwrites n q.loans }
  | r => r

theorem PatronRec.cleared_id (overwrites : Bool) (n : Nat) (r : PatronRec) : (r.cleared overwrites n).id = r.id := by
  cases r <;> rfl

theorem State.delisted_eq (s : State) (overwrites : Bool) (n : Nat) :
    s.delisted overwrites n = s.patrons.map fun e => (e.1, e.2.cleared overwrites n) := by
  unfold State.delisted
  cases overwrites with
  | true =>
    refine List.map_congr_left fun e _ => ?_
    cases e.2 <;> rfl
  | false =>
    have same (e : Nat × PatronRec) : (e.1, e.2.cleared false n) = e := by
      obtain ⟨k, r⟩ := e
      cases r <;> rfl
    simp [same]

theorem State.delisted_lookup (s : State) (overwrites : Bool) (n k : Nat) :
    Tbl.lookup (s.delisted overwrites n) k = (Tbl.lookup s.patrons k).map (PatronRec.cleared overwrites n) := by
  rw [State.delisted_eq, Tbl.lookup_mapSlots]

theorem State.openLoan_clean {slot : Nat} {p : Patron} (clean : s.upsets = []) (resident : s.patronAt slot = some p)
    (n : Nat) (overwrites : Bool) (l : Loan) :
    s.openLoan n slot overwrites l = { s with
      loans := Tbl.store s.loans n (.active l)
      patrons := Tbl.store (s.delisted overwrites n) slot
        (.resident { p with loans := clearedList overwrites n p.loans ++ [n] }) } := by
  have listed : Tbl.lookup (s.delisted overwrites n) slot =
      some (.resident { p with loans := clearedList overwrites n p.loans }) := by
    rw [State.delisted_lookup, State.patronAt_eq_some.mp resident]
    rfl
  have searched : (if overwrites then s.listSearch n else s) = { s with patrons := s.delisted overwrites n } := by
    cases overwrites with
    | false => rfl
    | true => simp [State.listSearch, State.scanTable_clean clean, State.putPatrons, State.delisted, clean, passWhere]
  unfold State.openLoan
  rw [searched]
  dsimp only
  rw [State.setLoan_clean (s := { s with patrons := s.delisted overwrites n }) clean]
  exact State.mapPatron_clean (s := { s with patrons := s.delisted overwrites n, loans := Tbl.store s.loans n (.active l) })
    clean (State.patronAt_eq_some.mpr listed) _

end Sys2Proof.Machine
end

section
/-! PROOF. A copy handed out: its title's shelf, or the READY entry that it fills (R98, R99). -/

namespace Sys2Proof.Machine

variable {y : State} {title k patron slot : Nat} {tt : Title}

/-! ## The title -/

theorem State.titleAt_eq_some {s : State} {n : Nat} {t : Title} :
    s.titleAt n = some t ↔ Tbl.lookup s.titles n = some (.resident t) := by
  unfold State.titleAt
  split <;> simp_all

theorem State.titlePlace_resident (found : y.findTitle title = some k) (resident : y.titleAt k = some tt) :
    y.titlePlace title = .resident k tt := by
  unfold State.titlePlace
  simp only [found, State.titleAt_eq_some.mp resident]

theorem State.residentTitle_eq (found : y.findTitle title = some k) (resident : y.titleAt k = some tt) :
    y.residentTitle title = some tt := by
  simp [State.residentTitle, found, resident]

theorem State.residentTitle_some (h : y.residentTitle title = some tt) :
    ∃ k, y.findTitle title = some k ∧ y.titleAt k = some tt := Option.bind_eq_some_iff.mp h

theorem State.titlePlace_other (gone : y.residentTitle title = none) (n : Nat) (t : Title) :
    y.titlePlace title ≠ .resident n t := by
  intro place
  unfold State.titlePlace at place
  split at place
  · cases place
  · rename_i m found
    split at place <;> cases place
    rename_i here
    rw [State.residentTitle_eq found (State.titleAt_eq_some.mpr here)] at gone
    cases gone

/-! ## The shelf (R99) -/

/-- From y to z the shelf count of a RESIDENT title falls by one, or stays at 0 with a COUNT_CLAMP. -/
structure LowersShelf (y z : State) (k : Nat) (tt : Title) : Prop where
  frame : { z.tables with titles := y.titles } = y.tables
  title : z.titleAt k = some { tt with shelf := tt.shelf - 1 }
  others : ∀ j, j ≠ k → Tbl.lookup z.titles j = Tbl.lookup y.titles j
  clamps : tt.shelf = 0 → z.faults.has .countClamp = true
  logged : ∀ cls, y.faults.has cls = true → z.faults.has cls = true
  engine : z.engine = y.engine

theorem State.lowerShelf_lowers (clean : y.upsets = []) (resident : y.titleAt k = some tt) :
    LowersShelf y (y.lowerShelf k tt) k tt := by
  unfold State.lowerShelf
  split
  · rename_i empty
    have tables : (y.logCountClamp tt.id).tables = y.tables := y.logFault_tables _ _ _
    have titles : (y.logCountClamp tt.id).titles = y.titles := congrArg Tables.titles tables
    refine ⟨by rw [tables]; rfl, ?_, fun j _ => by rw [titles], fun _ => ?_, fun cls there => ?_, ?_⟩
    · rw [State.titleAt_eq_some, titles, ← State.titleAt_eq_some, resident]
      obtain ⟨id, shelf, queue, waiting, ready⟩ := tt
      obtain rfl : shelf = 0 := empty
      rfl
    · exact (y.logFault_has _ _ _ _).mpr (.inr rfl)
    · exact (y.logFault_has _ _ _ _).mpr (.inl there)
    · exact (y.logFault_onlyLogs _ _ _).engine
  · rename_i stocked
    rw [State.mapTitle_clean clean resident]
    exact ⟨rfl, State.titleAt_eq_some.mpr (Tbl.lookup_store_same _ _ _), fun j other => Tbl.lookup_store_ne _ _ _ _ other,
      fun empty => absurd empty stocked, fun _ there => there, rfl⟩

/-! ## HOLD_MISMATCH (R98) -/

theorem State.logMismatch_has (y : State) (patron title copy : Nat) :
    (y.logMismatch patron title copy).faults.has .holdMismatch = true := (y.logFault_has _ _ _ _).mpr (.inr rfl)

theorem State.logMismatch_tables (y : State) (patron title copy : Nat) :
    (y.logMismatch patron title copy).tables = y.tables := y.logFault_tables _ _ _

theorem State.logMismatch_engine (y : State) (patron title copy : Nat) :
    (y.logMismatch patron title copy).engine = y.engine := (y.logFault_onlyLogs _ _ _).engine

/-- The shelf falls after a HOLD_MISMATCH as it would without. -/
theorem LowersShelf.afterMismatch {z : State} {copy : Nat} (h : LowersShelf (y.logMismatch patron title copy) z k tt) :
    LowersShelf y z k tt ∧ z.faults.has .holdMismatch = true := by
  have tables := y.logMismatch_tables patron title copy
  have titles : (y.logMismatch patron title copy).titles = y.titles := congrArg Tables.titles tables
  obtain ⟨frame, here, others, clamps, logged, engine⟩ := h
  rw [titles] at frame others
  exact ⟨⟨frame.trans tables, here, others, clamps, fun cls there => logged cls ((y.logFault_has _ _ _ _).mpr (.inl there)),
    engine.trans (y.logMismatch_engine patron title copy)⟩, logged _ (y.logMismatch_has patron title copy)⟩

/-! ## The READY entry (R98, R111) -/

theorem State.readyItem_none (none_ : ∀ i h, tt.itemOf patron = some i → y.holdAt i.slot = some h → h.isReady = false) :
    y.readyItem tt patron = none := by
  unfold State.readyItem
  cases item : tt.itemOf patron with
  | none => rfl
  | some i =>
    cases held : y.holdAt i.slot with
    | none => simp [held]
    | some h => simp [held, none_ i h item held]

theorem State.readyItem_some {i : QueueItem} {h : Hold} (item : tt.itemOf patron = some i) (held : y.holdAt i.slot = some h)
    (ready : h.isReady = true) : y.readyItem tt patron = some i := by
  unfold State.readyItem
  simp [item, held, ready]

theorem State.readyItem_spec {i : QueueItem} (ready : y.readyItem tt patron = some i) :
    tt.itemOf patron = some i ∧ ∃ h, y.holdAt i.slot = some h ∧ h.isReady = true := by
  obtain ⟨j, item, e⟩ := Option.bind_eq_some_iff.mp ready
  split at e
  · rename_i isReady
    cases e
    refine ⟨item, ?_⟩
    cases held : y.holdAt i.slot with
    | none => simp [held] at isReady
    | some h => exact ⟨h, rfl, by simpa [held] using isReady⟩
  · cases e

theorem Title.itemOf_patron {i : QueueItem} (item : tt.itemOf patron = some i) : i.patron = patron := by
  simpa using List.find?_some (p := fun j : QueueItem => j.patron == patron) item

/-- The state without an entry of a RESIDENT patron: its pool slot, its item and the listings of its title. -/
def State.withoutEntry (y : State) (k title slot : Nat) (i : QueueItem) (tt : Title) (p : Patron) : State :=
  { y with
    titles := Tbl.store y.titles k (.resident (tt.without i.slot ((y.holdAt i.slot).map Hold.state)))
    pool := Tbl.release y.pool i.slot
    patrons := Tbl.store y.patrons slot (.resident { p with holds := p.holds.filter (· != title) }) }

theorem State.removeEntry_clean {i : QueueItem} {p : Patron} (clean : y.upsets = []) (resident : y.titleAt k = some tt)
    (found : y.findPatron i.patron = some slot) (patron : y.patronAt slot = some p) (reason : HoldChange) :
    y.removeEntry k title i reason =
      (y.withoutEntry k title slot i tt p).post (.holdChange title i.patron reason 0) := by
  let w : State :=
    { y with
      titles := Tbl.store y.titles k (.resident (tt.without i.slot ((y.holdAt i.slot).map Hold.state)))
      pool := Tbl.release y.pool i.slot }
  have freed : (y.mapTitle k fun t => t.without i.slot ((y.holdAt i.slot).map Hold.state)).freePool i.slot = w := by
    rw [State.mapTitle_clean clean resident]
    exact State.freePool_clean (s := { y with titles := Tbl.store y.titles k _ }) clean i.slot
  have dropped : w.dropFromHolds i.patron title = y.withoutEntry k title slot i tt p := by
    have here : w.findPatron i.patron = some slot := found
    unfold State.dropFromHolds
    rw [here]
    exact State.mapPatron_clean (s := w) clean patron _
  unfold State.removeEntry
  dsimp only
  rw [freed, State.lookUpPatron_clean (s := w) clean, dropped]

/-! ## The copy handed out -/

/-- LOAN_OPEN's last step: the checkout, with or without the pickup flag (R98, R99). -/
def State.handOut (y : State) (pickup title patron copy : Nat) : State :=
  if pickup = 0 then y.checkOut title else y.pickUp patron title copy

theorem State.handOut_gone (gone : y.residentTitle title = none) (pickup patron copy : Nat) :
    (y.handOut pickup title patron copy).tables = y.tables ∧ (y.handOut pickup title patron copy).engine = y.engine ∧
      (pickup ≠ 0 → (y.handOut pickup title patron copy).faults.has .holdMismatch = true) := by
  have other := State.titlePlace_other gone
  unfold State.handOut
  split
  · rename_i plain
    have e : y.checkOut title = y := by
      unfold State.checkOut
      split
      · rename_i place
        exact absurd place (other _ _)
      · rfl
    rw [e]
    exact ⟨rfl, rfl, fun picked => absurd plain picked⟩
  · have e : y.pickUp patron title copy = y.logMismatch patron title copy := by
      unfold State.pickUp
      split
      · rename_i place
        exact absurd place (other _ _)
      · rfl
    rw [e]
    exact ⟨y.logMismatch_tables _ _ _, y.logMismatch_engine _ _ _, fun _ => y.logMismatch_has _ _ _⟩

theorem State.pickUp_ready {i : QueueItem} (clean : y.upsets = []) (found : y.findTitle title = some k)
    (resident : y.titleAt k = some tt) (ready : y.readyItem tt patron = some i) (copy : Nat) :
    y.pickUp patron title copy = y.removeEntry k title i .filled := by
  unfold State.pickUp
  simp only [State.titlePlace_resident found resident, State.readQueueOf_clean clean, resident, ready]

theorem State.pickUp_mismatch (clean : y.upsets = []) (found : y.findTitle title = some k)
    (resident : y.titleAt k = some tt) (noEntry : y.readyItem tt patron = none) (copy : Nat) :
    y.pickUp patron title copy = (y.logMismatch patron title copy).lowerShelf k tt := by
  unfold State.pickUp
  simp only [State.titlePlace_resident found resident, State.readQueueOf_clean clean, resident, noEntry]

theorem State.handOut_lowers (clean : y.upsets = []) (found : y.findTitle title = some k)
    (resident : y.titleAt k = some tt) {pickup : Nat} (noEntry : pickup ≠ 0 → y.readyItem tt patron = none) (copy : Nat) :
    LowersShelf y (y.handOut pickup title patron copy) k tt ∧
      (pickup ≠ 0 → (y.handOut pickup title patron copy).faults.has .holdMismatch = true) := by
  unfold State.handOut
  split
  · rename_i plain
    have e : y.checkOut title = y.lowerShelf k tt := by
      unfold State.checkOut
      rw [State.titlePlace_resident found resident]
    rw [e]
    exact ⟨State.lowerShelf_lowers clean resident, fun picked => absurd plain picked⟩
  · rename_i picked
    rw [State.pickUp_mismatch clean found resident (noEntry picked)]
    have tables := y.logMismatch_tables patron title copy
    have lowers : LowersShelf (y.logMismatch patron title copy) _ k tt := State.lowerShelf_lowers
      ((y.logFault_upsets _ _ _).trans clean)
      (by rw [State.titleAt_eq_some, show (y.logMismatch patron title copy).titles = y.titles from
        congrArg Tables.titles tables, ← State.titleAt_eq_some, resident])
    obtain ⟨lowered, mismatch⟩ := lowers.afterMismatch
    exact ⟨lowered, fun _ => mismatch⟩

theorem State.handOut_fills {i : QueueItem} {p : Patron} {pickup : Nat} (clean : y.upsets = [])
    (found : y.findTitle title = some k) (resident : y.titleAt k = some tt) (picked : pickup ≠ 0)
    (ready : y.readyItem tt patron = some i) (named : y.findPatron patron = some slot) (patronHere : y.patronAt slot = some p)
    (copy : Nat) :
    y.handOut pickup title patron copy =
      (y.withoutEntry k title slot i tt p).post (.holdChange title patron .filled 0) := by
  obtain ⟨item, -⟩ := State.readyItem_spec ready
  have own := Title.itemOf_patron item
  unfold State.handOut
  rw [if_neg picked, State.pickUp_ready clean found resident ready,
    State.removeEntry_clean clean resident (by rw [own]; exact named) patronHere, own]

/-- What handing out a copy leaves: of the patron records it writes only the named one, besides titles and the pool. -/
structure HandsOut (y z : State) (slot : Nat) : Prop where
  frame : { z.tables with patrons := y.patrons, titles := y.titles, pool := y.pool } = y.tables
  others : ∀ k, k ≠ slot → Tbl.lookup z.patrons k = Tbl.lookup y.patrons k
  room : ∀ r, y.hasRoom (r + 1) → z.hasRoom r

theorem HandsOut.of_tables {z : State} (tables : { z.tables with titles := y.titles } = y.tables)
    (engine : z.engine = y.engine) (slot : Nat) : HandsOut y z slot := by
  have patrons : z.patrons = y.patrons := congrArg Tables.patrons tables
  have pool : z.pool = y.pool := congrArg Tables.pool tables
  refine ⟨?_, fun k _ => by rw [patrons], fun r room => State.hasRoom_congr engine (State.hasRoom_succ room)⟩
  rw [← tables, ← patrons, ← pool]
  rfl

theorem State.handOut_handsOut {p : Patron} (clean : y.upsets = []) (named : y.findPatron patron = some slot)
    (patronHere : y.patronAt slot = some p) (pickup title copy : Nat) :
    HandsOut y (y.handOut pickup title patron copy) slot := by
  cases place : y.residentTitle title with
  | none =>
    obtain ⟨tables, engine, -⟩ := State.handOut_gone place pickup patron copy
    exact .of_tables (by rw [tables]; rfl) engine slot
  | some tt =>
    obtain ⟨k, found, resident⟩ := State.residentTitle_some place
    by_cases fills : pickup ≠ 0 ∧ ∃ i, y.readyItem tt patron = some i
    · obtain ⟨picked, i, ready⟩ := fills
      rw [State.handOut_fills clean found resident picked ready named patronHere]
      have tables := State.post_tables (s := y.withoutEntry k title slot i tt p) (.holdChange title patron .filled 0)
      refine ⟨by rw [tables]; rfl, fun j other => ?_, fun r room =>
        (State.post_room (s := y.withoutEntry k title slot i tt p) room _).2⟩
      have patrons := congrArg Tables.patrons tables
      exact (congrArg (Tbl.lookup · j) patrons).trans (Tbl.lookup_store_ne _ _ _ _ other)
    · have noEntry (picked : pickup ≠ 0) : y.readyItem tt patron = none :=
        Option.eq_none_iff_forall_not_mem.mpr fun i ready => fills ⟨picked, i, ready⟩
      obtain ⟨lowers, -⟩ := State.handOut_lowers clean found resident noEntry copy
      exact .of_tables lowers.frame lowers.engine slot

end Sys2Proof.Machine
end

section
/-! PROOF. LOAN_OPEN's answer (R28 to R30). -/

namespace Sys2Proof.Machine

variable {s u : State} {op : Op} {x : Crossing}

/-! ## The served patron -/

theorem Names.servesOnly {m : Message} {id slot : Nat} {p : Patron} (h : Names s op x m id slot u p) : ServesOnly s u := by
  rw [h.after]
  exact (ServesOnly.refl h.noErr h.canon.1).served slot

theorem Names.room {m : Message} {id slot k : Nat} {p : Patron} (h : Names s op x m id slot u p)
    (room : k + 1 ≤ op.reservation) : u.hasRoom k := by
  rw [h.after]
  exact State.served_room h.noErr h.canon.1 (h.toPerforms.hasRoom room) slot

theorem Names.named {m : Message} {id slot : Nat} {p : Patron} (h : Names s op x m id slot u p)
    (body : Nat → Patron → State → Confirmed) : s.namePatron id body = body slot p u := by
  have patron := h.patron
  rw [h.after] at patron ⊢
  exact State.namePatron_served h.noErr h.found h.resident patron body

/-! ## The row -/

/-- The end of a LOAN_OPEN that a work of it makes. -/
theorem Performs.loanOpen_row {m : Message} {w : State} {status : Status} {fields : List CField} (h : Performs s op x m)
    (kind : m.kind = 1) (served : State.loanOpenWork m s = (w, status, fields)) (room : w.hasRoom 1) :
    ∃ t, exec (.loanOpen x) s = .next t ∧ MessageEnds s w t 1 status fields := by
  have works : Works Adjusts s w := by
    have made := (Works.refl (extra := Adjusts) (s := s)).loanOpenWork m
    rwa [served] at made
  rw [← kind]
  exact h.message_row (mine := OpKind.isMessage 1) (by simp [h.kind, OpKind.isMessage, kind]) rfl served works room

section

variable {copy title patron cls due pickup : Nat} {restore : Option RestoreFields} {slot n : Nat} {p : Patron}

/-- The loan that LOAN_OPEN opens on a served patron. -/
def State.opens (u : State) (copy title cls due : Nat) (restore : Option RestoreFields) (slot n : Nat) (overwrites : Bool) :
    State :=
  u.openLoan n slot overwrites (u.openedLoan copy title slot cls due restore)

theorem State.loanOpenWork_malformed (bad : loanFieldsOk copy title patron cls due restore = false) (s : State) :
    State.loanOpenWork (.loanOpen copy title patron cls due pickup restore) s = (s, .badMessage, []) := by
  unfold State.loanOpenWork
  simp only [bad, Bool.false_eq_true, ↓reduceIte]
  rfl

theorem Names.loanOpenWork_slot (h : Names s op x (.loanOpen copy title patron cls due pickup restore) patron slot u p)
    (ok : loanFieldsOk copy title patron cls due restore = true) :
    State.loanOpenWork (.loanOpen copy title patron cls due pickup restore) s =
      match u.loanSlot p copy restore.isSome with
      | (v, .error status) => (v, status, [])
      | (v, .ok (n, overwrites)) =>
        let y := (v.opens copy title cls due restore slot n overwrites).lookUpTitle title
        (y.handOut pickup title patron copy, (y.handOut pickup title patron copy).loanStatus restore, [⟨2, n⟩]) := by
  unfold State.loanOpenWork
  simp only [ok, ↓reduceIte]
  rw [h.named]
  simp only [State.lookUpCopy_clean h.servesOnly.clean]
  rfl

/-- A refused LOAN_OPEN leaves the tables as the catch-up did. -/
theorem Names.loanOpen_refused (h : Names s op x (.loanOpen copy title patron cls due pickup restore) patron slot u p)
    (room : 4 ≤ op.reservation) (ok : loanFieldsOk copy title patron cls due restore = true) {status : Status}
    (refused : u.loanSlot p copy restore.isSome = (u, .error status)) :
    ∃ t, exec (.loanOpen x) s = .next t ∧ t.tables = u.tables ∧ Confirms s t 1 status [] := by
  have work := h.loanOpenWork_slot ok
  rw [refused] at work
  obtain ⟨t, next, ends⟩ := h.toPerforms.loanOpen_row rfl work (h.room (Nat.le_trans (by decide) room))
  exact ⟨t, next, ends.tables, ends.confirms⟩

/-! ## The opened loan -/

/-- A patron with the loan at the end of its list. -/
def Patron.withLoan (p : Patron) (overwrites : Bool) (n : Nat) : Patron :=
  { p with loans := clearedList overwrites n p.loans ++ [n] }

theorem State.opens_clean (clean : u.upsets = []) (resident : u.patronAt slot = some p) (overwrites : Bool) :
    u.opens copy title cls due restore slot n overwrites = { u with
      loans := Tbl.store u.loans n (.active (u.openedLoan copy title slot cls due restore))
      patrons := Tbl.store (u.delisted overwrites n) slot (.resident (p.withLoan overwrites n)) } :=
  State.openLoan_clean clean resident n overwrites _

/-- What LOAN_OPEN leaves before the copy is handed out. -/
structure OpensLoan (u y : State) (slot n : Nat) (overwrites : Bool) (p : Patron) (l : Loan) : Prop where
  clean : y.upsets = []
  engine : y.engine = u.engine
  frame : { y.tables with patrons := u.patrons, loans := u.loans } = u.tables
  loans : y.loans = Tbl.store u.loans n (.active l)
  patron : y.patronAt slot = some (p.withLoan overwrites n)
  others : ∀ k, k ≠ slot → Tbl.lookup y.patrons k = (Tbl.lookup u.patrons k).map (PatronRec.cleared overwrites n)
  ids : y.patronIds = u.patronIds

theorem State.opens_opensLoan (clean : u.upsets = []) (wf : Tbl.wf u.patrons = true) (resident : u.patronAt slot = some p)
    (overwrites : Bool) :
    OpensLoan u (u.opens copy title cls due restore slot n overwrites) slot n overwrites p
      (u.openedLoan copy title slot cls due restore) := by
  have here : Tbl.lookup (u.delisted overwrites n) slot =
      some (.resident { p with loans := clearedList overwrites n p.loans }) := by
    rw [State.delisted_lookup, State.patronAt_eq_some.mp resident]
    rfl
  have wfCleared : Tbl.wf (u.delisted overwrites n) = true := by
    rw [State.delisted_eq]
    exact Tbl.wf_mapSlots u.patrons _ wf
  have ids : (u.delisted overwrites n).map (fun e => (e.1, e.2.id)) = u.patronIds := by
    rw [State.delisted_eq, List.map_map]
    exact List.map_congr_left fun e _ => by simp [PatronRec.cleared_id]
  rw [State.opens_clean clean resident]
  refine ⟨clean, rfl, rfl, rfl, State.patronAt_eq_some.mpr (Tbl.lookup_store_same _ _ _), fun k other => ?_, ?_⟩
  · exact (Tbl.lookup_store_ne _ _ _ _ other).trans (u.delisted_lookup overwrites n k)
  · exact (Tbl.map_store_same (w := .resident (p.withLoan overwrites n)) wfCleared PatronRec.id here rfl).trans ids

/-- The opened record goes by C alone. -/
theorem State.openedLoan_congr {v : State} (calendar : v.calendar = u.calendar) :
    v.openedLoan copy title slot cls due restore = u.openedLoan copy title slot cls due restore := by
  unfold State.openedLoan
  rw [calendar]

theorem State.loanStatus_congr {v : State} (calendar : v.calendar = u.calendar) : v.loanStatus restore = u.loanStatus restore := by
  unfold State.loanStatus
  rw [calendar]

end

end Sys2Proof.Machine
end

section
/-! PROOF. LOAN_OPEN makes the loan, or is refused (R27 to R30, R98, R99). -/

namespace Sys2Proof.Machine

variable {s t u v y z : State} {op : Op} {x : Crossing} {copy title patron cls due pickup slot n : Nat}
  {restore : Option RestoreFields} {p : Patron} {l : Loan} {overwrites : Bool}

theorem State.patronAt_of_table (same : v.patrons = u.patrons) (k : Nat) : v.patronAt k = u.patronAt k := by
  unfold State.patronAt
  rw [same]

theorem State.titleAt_of_table (same : v.titles = u.titles) (k : Nat) : v.titleAt k = u.titleAt k := by
  unfold State.titleAt
  rw [same]

theorem State.findTitle_of_table (same : v.titles = u.titles) (k : Nat) : v.findTitle k = u.findTitle k := by
  unfold State.findTitle
  rw [same]

theorem State.residentTitle_of_table (same : v.titles = u.titles) (k : Nat) : v.residentTitle k = u.residentTitle k := by
  unfold State.residentTitle
  rw [State.findTitle_of_table same, funext (State.titleAt_of_table same)]

theorem State.holdAt_of_table (same : v.pool = u.pool) (k : Nat) : v.holdAt k = u.holdAt k := by
  unfold State.holdAt
  rw [same]

/-! ## The slot taken -/

/-- A LOAN_OPEN passes its checks with a FREE slot, or with the copy's own DAMAGED one. -/
def State.takesSlot (u : State) (p : Patron) (copy : Nat) (restore : Option RestoreFields) (n : Nat) (overwrites : Bool) : Prop :=
  overwrites = false ∧ u.findCopy copy = none ∧ p.loans.length < 64 ∧ Tbl.firstFree u.loans 16384 = some n ∨
    overwrites = true ∧ u.findCopy copy = some n ∧ (∃ c, Tbl.lookup u.loans n = some (.damaged c)) ∧
      restore ≠ none ∧ (p.loans.length < 64 ∨ n ∈ p.loans)

theorem State.takesSlot.loanSlot (h : u.takesSlot p copy restore n overwrites) (clean : u.upsets = []) :
    u.loanSlot p copy restore.isSome = (u, .ok (n, overwrites)) := by
  rcases h with ⟨rfl, absent, below, free⟩ | ⟨rfl, found, ⟨c, here⟩, restores, below⟩
  · rw [State.loanSlot_new clean absent, if_neg (Nat.not_le_of_lt below), free]
  · rw [State.loanSlot_damaged found (State.loanAt_damaged here), if_neg (by simpa using restores), if_neg]
    rintro ⟨full, outside⟩
    exact below.elim (fun less => absurd full (Nat.not_le_of_lt less)) outside

/-! ## The loan made -/

/-- A LOAN_OPEN on a slot: y is the state with the loan opened, and t what the message leaves. -/
structure MakesLoan (s u y t : State) (slot n : Nat) (overwrites : Bool) (p : Patron) (l : Loan)
    (pickup title patron copy : Nat) (status : Status) : Prop where
  opens : OpensLoan u y slot n overwrites p l
  named : y.findPatron patron = some slot
  room : y.hasRoom 2
  handed : HandsOut y (y.handOut pickup title patron copy) slot
  ends : MessageEnds s (y.handOut pickup title patron copy) t 1 status [⟨2, n⟩]

theorem Names.loanOpen_opens (h : Names s op x (.loanOpen copy title patron cls due pickup restore) patron slot u p)
    (room : 4 ≤ op.reservation) (ok : loanFieldsOk copy title patron cls due restore = true)
    (takes : u.takesSlot p copy restore n overwrites) :
    ∃ y t, exec (.loanOpen x) s = .next t ∧
      MakesLoan s u y t slot n overwrites p (s.openedLoan copy title slot cls due restore) pickup title patron copy
        (s.loanStatus restore) := by
  have serves := h.servesOnly
  have opens : OpensLoan u (u.opens copy title cls due restore slot n overwrites) slot n overwrites p _ :=
    State.opens_opensLoan serves.clean serves.wf h.patron overwrites
  rw [State.openedLoan_congr serves.calendar] at opens
  have work := h.loanOpenWork_slot ok
  rw [takes.loanSlot serves.clean] at work
  dsimp only at work
  rw [State.lookUpTitle_clean opens.clean] at work
  generalize u.opens copy title cls due restore slot n overwrites = y at opens work
  have named : y.findPatron patron = some slot :=
    (State.findPatron_of_ids (opens.ids.trans serves.ids) patron).trans h.found
  have enough : y.hasRoom 2 := State.hasRoom_congr opens.engine (h.room (Nat.le_trans (by decide) room))
  have handed : HandsOut y (y.handOut pickup title patron copy) slot :=
    State.handOut_handsOut opens.clean named opens.patron pickup title copy
  have calendar : (y.handOut pickup title patron copy).calendar = s.calendar :=
    ((congrArg Tables.calendar handed.frame :).trans (congrArg Tables.calendar opens.frame :)).trans serves.calendar
  rw [State.loanStatus_congr calendar] at work
  obtain ⟨t, next, ends⟩ := h.toPerforms.loanOpen_row rfl work (handed.room 1 enough)
  exact ⟨y, t, next, opens, named, enough, handed, ends⟩

/-! ## Where the copy came from -/

theorem OpensLoan.pool (h : OpensLoan u y slot n overwrites p l) : y.pool = u.pool := congrArg Tables.pool h.frame
theorem OpensLoan.titles (h : OpensLoan u y slot n overwrites p l) : y.titles = u.titles := congrArg Tables.titles h.frame

theorem OpensLoan.findTitle {k : Nat} (h : OpensLoan u y slot n overwrites p l) (found : u.findTitle title = some k) :
    y.findTitle title = some k := (State.findTitle_of_table h.titles title).trans found

theorem OpensLoan.titleAt {k : Nat} {tt : Title} (h : OpensLoan u y slot n overwrites p l) (resident : u.titleAt k = some tt) :
    y.titleAt k = some tt := (State.titleAt_of_table h.titles k).trans resident

/-- Nothing but the loan and its list has changed. -/
theorem OpensLoan.kept (h : OpensLoan u y slot n overwrites p l) (same : t.tables = y.tables) :
    t.patronAt slot = some (p.withLoan overwrites n) ∧ t.pool = u.pool ∧ t.titles = u.titles :=
  ⟨(State.patronAt_of_table (congrArg Tables.patrons same) slot).trans h.patron, (congrArg Tables.pool same).trans h.pool,
    (congrArg Tables.titles same).trans h.titles⟩

/-- The title's shelf has fallen. -/
theorem OpensLoan.lowered {k : Nat} {tt : Title} (h : OpensLoan u y slot n overwrites p l) (lowers : LowersShelf y z k tt)
    (same : t.tables = z.tables) (logged : ∀ c, z.faults.has c = true → t.faults.has c = true) :
    t.patronAt slot = some (p.withLoan overwrites n) ∧ t.pool = u.pool ∧ t.titleAt k = some { tt with shelf := tt.shelf - 1 } ∧
      (tt.shelf = 0 → t.faults.has .countClamp = true) ∧ ∀ j, j ≠ k → Tbl.lookup t.titles j = Tbl.lookup u.titles j := by
  have titles : t.titles = z.titles := congrArg Tables.titles same
  have patrons : t.patrons = y.patrons := (congrArg Tables.patrons same).trans (congrArg Tables.patrons lowers.frame)
  refine ⟨(State.patronAt_of_table patrons slot).trans h.patron, ?_, ?_, fun empty => logged _ (lowers.clamps empty),
    fun j other => ?_⟩
  · exact ((congrArg Tables.pool same :).trans (congrArg Tables.pool lowers.frame :)).trans h.pool
  · exact (State.titleAt_of_table titles k).trans lowers.title
  · rw [titles, lowers.others j other, h.titles]

/-- The patron's READY entry has been filled. -/
theorem OpensLoan.filled {k : Nat} {tt : Title} {i : QueueItem} {g : Hold} (h : OpensLoan u y slot n overwrites p l)
    (held : u.holdAt i.slot = some g)
    (same : t.tables = (y.withoutEntry k title slot i tt (p.withLoan overwrites n)).tables) :
    t.patronAt slot = some { p.withLoan overwrites n with holds := p.holds.filter (· != title) } ∧
      Tbl.lookup t.pool i.slot = none ∧ (∀ j, j ≠ i.slot → Tbl.lookup t.pool j = Tbl.lookup u.pool j) ∧
      t.titleAt k = some (tt.without i.slot (some g.state)) ∧ ∀ j, j ≠ k → Tbl.lookup t.titles j = Tbl.lookup u.titles j := by
  have patrons : t.patrons = Tbl.store y.patrons slot _ := congrArg Tables.patrons same
  have pool : t.pool = Tbl.release y.pool i.slot := congrArg Tables.pool same
  have titles : t.titles = Tbl.store y.titles k _ := congrArg Tables.titles same
  refine ⟨?_, ?_, fun j other => ?_, ?_, fun j other => ?_⟩
  · rw [State.patronAt_eq_some, patrons, Tbl.lookup_store_same]
    rfl
  · rw [pool, Tbl.lookup_release_same]
  · rw [pool, Tbl.lookup_release_ne _ _ _ other, h.pool]
  · rw [State.titleAt_eq_some, titles, Tbl.lookup_store_same, State.holdAt_of_table h.pool, held]
    rfl
  · rw [titles, Tbl.lookup_store_ne _ _ _ _ other, h.titles]

namespace MakesLoan

variable {status : Status} (h : MakesLoan s u y t slot n overwrites p l pickup title patron copy status)
include h

/-- The tables but for the patron records, the titles and the pool. -/
theorem frame : { t.tables with patrons := y.patrons, titles := y.titles, pool := y.pool } = y.tables := by
  rw [h.ends.tables]
  exact h.handed.frame

theorem rest :
    t.tags = u.tags ∧ t.tagLine = u.tagLine ∧ t.calendar = u.calendar ∧ t.schedule = u.schedule ∧ t.sweep = u.sweep :=
  ⟨(congrArg Tables.tags h.frame :).trans (congrArg Tables.tags h.opens.frame :),
    (congrArg Tables.tagLine h.frame :).trans (congrArg Tables.tagLine h.opens.frame :),
    (congrArg Tables.calendar h.frame :).trans (congrArg Tables.calendar h.opens.frame :),
    (congrArg Tables.schedule h.frame :).trans (congrArg Tables.schedule h.opens.frame :),
    (congrArg Tables.sweep h.frame :).trans (congrArg Tables.sweep h.opens.frame :)⟩

theorem loans : t.loans = Tbl.store u.loans n (.active l) := (congrArg Tables.loans h.frame :).trans h.opens.loans

theorem others {k : Nat} (other : k ≠ slot) :
    Tbl.lookup t.patrons k = (Tbl.lookup u.patrons k).map (PatronRec.cleared overwrites n) := by
  have patrons : t.patrons = (y.handOut pickup title patron copy).patrons := congrArg Tables.patrons h.ends.tables
  rw [patrons, h.handed.others k other, h.opens.others k other]

/-- With no RESIDENT title no copy is handed out. -/
theorem gone (none_ : u.residentTitle title = none) :
    (t.patronAt slot = some (p.withLoan overwrites n) ∧ t.pool = u.pool ∧ t.titles = u.titles) ∧
      (pickup ≠ 0 → t.faults.has .holdMismatch = true) := by
  obtain ⟨tables, -, mismatch⟩ :=
    State.handOut_gone ((State.residentTitle_of_table h.opens.titles title).trans none_) pickup patron copy
  exact ⟨h.opens.kept (h.ends.tables.trans tables), fun picked => h.ends.noBalance.logged _ (mismatch picked)⟩

/-- Without a READY entry to fill the copy comes off the shelf. -/
theorem lowered {k : Nat} {tt : Title} (found : u.findTitle title = some k) (resident : u.titleAt k = some tt)
    (noEntry : pickup ≠ 0 → ∀ i g, tt.itemOf patron = some i → u.holdAt i.slot = some g → g.isReady = false) :
    (t.patronAt slot = some (p.withLoan overwrites n) ∧ t.pool = u.pool ∧
        t.titleAt k = some { tt with shelf := tt.shelf - 1 } ∧ (tt.shelf = 0 → t.faults.has .countClamp = true) ∧
          ∀ j, j ≠ k → Tbl.lookup t.titles j = Tbl.lookup u.titles j) ∧
      (pickup ≠ 0 → t.faults.has .holdMismatch = true) := by
  have unready (picked : pickup ≠ 0) : y.readyItem tt patron = none := State.readyItem_none fun i g item held =>
    noEntry picked i g item ((State.holdAt_of_table h.opens.pool i.slot).symm.trans held)
  obtain ⟨lowers, mismatch⟩ :=
    State.handOut_lowers h.opens.clean (h.opens.findTitle found) (h.opens.titleAt resident) unready copy
  exact ⟨h.opens.lowered lowers h.ends.tables h.ends.noBalance.logged, fun picked => h.ends.noBalance.logged _ (mismatch picked)⟩

/-- The patron's READY entry is filled and leaves. -/
theorem filled {k : Nat} {tt : Title} {i : QueueItem} {g : Hold} (found : u.findTitle title = some k)
    (resident : u.titleAt k = some tt) (picked : pickup ≠ 0) (item : tt.itemOf patron = some i)
    (held : u.holdAt i.slot = some g) (ready : g.isReady = true) :
    t.patronAt slot = some { p.withLoan overwrites n with holds := p.holds.filter (· != title) } ∧
      Tbl.lookup t.pool i.slot = none ∧ (∀ j, j ≠ i.slot → Tbl.lookup t.pool j = Tbl.lookup u.pool j) ∧
      t.titleAt k = some (tt.without i.slot (some g.state)) ∧ (∀ j, j ≠ k → Tbl.lookup t.titles j = Tbl.lookup u.titles j) ∧
      .holdChange title patron .filled 0 ∈ t.link.outbound := by
  have fills := State.handOut_fills h.opens.clean (h.opens.findTitle found) (h.opens.titleAt resident) picked
    (State.readyItem_some item ((State.holdAt_of_table h.opens.pool i.slot).trans held) ready) h.named h.opens.patron copy
  have posted : Notice.holdChange title patron .filled 0 ∈ (y.handOut pickup title patron copy).link.outbound := by
    rw [fills]
    exact (State.post_room (s := y.withoutEntry k title slot i tt (p.withLoan overwrites n)) h.room _).1
  have tables := h.ends.tables
  rw [fills, State.post_tables] at tables
  obtain ⟨record, freed, pool, title', titles⟩ := h.opens.filled held tables
  exact ⟨record, freed, pool, title', titles, h.ends.kept _ posted rfl⟩

end MakesLoan

/-! ## The statement -/

theorem loanOpenRefusals (s : State) (op : Op) (x : Crossing)
    (h : Performs s op x (.loanOpen copy title patron cls due pickup restore)) (room : 1 ≤ op.reservation) :
    (loanFieldsOk copy title patron cls due restore = false →
        ∃ t, exec (.loanOpen x) s = .next t ∧ t.tables = s.tables ∧ Confirms s t 1 .badMessage []) ∧
      (loanFieldsOk copy title patron cls due restore = true → s.findPatron patron = none →
        ∃ t, exec (.loanOpen x) s = .next t ∧ t.tables = s.tables ∧ Confirms s t 1 .unknownPatron []) := by
  refine ⟨fun bad => ?_, fun ok absent => ?_⟩
  · obtain ⟨t, next, ends⟩ := h.loanOpen_row rfl (State.loanOpenWork_malformed bad s) (h.hasRoom room)
    exact ⟨t, next, ends.tables, ends.confirms⟩
  · have names : Message.names (.loanOpen copy title patron cls due pickup restore) patron .loanOpen :=
      .inl ⟨copy, title, cls, due, pickup, restore, rfl, ok, rfl⟩
    exact h.named_row names room rfl (State.namePatron_absent h.noErr absent)

/-- Settles O32: the checks in order, and the loan opened on the slot they leave, whose copy comes off the shelf or from the
patron's READY entry. -/
theorem loanOpenMakesTheLoan : Obligations.LoanOpenMakesTheLoan := by
  refine ⟨fun s op x copy title patron cls due pickup restore h room => loanOpenRefusals s op x h room,
    fun s op x copy title patron cls due pickup restore slot u p h room ok => ?_⟩
  have serves := h.servesOnly
  refine ⟨fun n l found active => ?_, fun n c found lost => ⟨fun plain => ?_, fun restores full outside => ?_⟩,
    fun absent => ⟨fun full => ?_, fun below none_ => ?_⟩, fun n overwrites takes => ?_⟩
  · exact h.loanOpen_refused room ok (State.loanSlot_onLoan found active _)
  · refine h.loanOpen_refused room ok ?_
    rw [State.loanSlot_damaged found (State.loanAt_damaged lost), if_pos (by simp [plain])]
  · refine h.loanOpen_refused room ok ?_
    rw [State.loanSlot_damaged found (State.loanAt_damaged lost), if_neg (by simpa using restores), if_pos ⟨full, outside⟩]
  · refine h.loanOpen_refused room ok ?_
    rw [State.loanSlot_new serves.clean absent, if_pos full]
  · refine h.loanOpen_refused room ok ?_
    rw [State.loanSlot_new serves.clean absent, if_neg (Nat.not_le_of_lt below), none_]
  · obtain ⟨y, t, next, made⟩ := h.loanOpen_opens room ok takes
    obtain ⟨tags, tagLine, calendar, schedule, sweep⟩ := made.rest
    have opened : Tbl.lookup t.loans n = some (.active (s.openedLoan copy title slot cls due restore)) := by
      rw [made.loans, Tbl.lookup_store_same]
    refine ⟨t, next, opened, fun k other => ?_, fun k other => ?_, tags, tagLine, calendar, schedule, sweep,
      by cases restore <;> exact made.ends.confirms, fun plain => ⟨fun gone => (made.gone gone).1, fun k tt found resident =>
        (made.lowered found resident fun picked => absurd plain picked).1⟩, fun picked => ⟨fun gone => ?_,
          fun k tt found resident => ⟨fun noEntry => ?_, fun i g item held ready =>
            made.filled found resident picked item held ready⟩⟩⟩
    · rw [made.loans, Tbl.lookup_store_ne _ _ _ _ other]
    · rw [made.others other]
      cases Tbl.lookup u.patrons k with
      | none => rfl
      | some r => cases r <;> rfl
    · obtain ⟨kept, mismatch⟩ := made.gone gone
      exact ⟨kept, mismatch picked⟩
    · obtain ⟨lowered, mismatch⟩ := made.lowered found resident fun _ => noEntry
      exact ⟨lowered, mismatch picked⟩

end Sys2Proof.Machine
end

section
/-! PROOF. A copy offered to its title in a memory without damage (R94): the records it writes, and its notices. -/

namespace Sys2Proof.Machine

variable {s t v : State} {k : Nat} {tt : Title}

/-! ## What the offer writes -/

/-- The title records after a copy has been offered to one of them. -/
def State.offeredTitles (s : State) (k : Nat) (tt : Title) : Tbl TitleRec :=
  match s.firstWaiting tt with
  | some _ => Tbl.store s.titles k (.resident { tt with waiting := tt.waiting - 1, ready := tt.ready + 1 })
  | none => if 255 ≤ tt.shelf then s.titles else Tbl.store s.titles k (.resident { tt with shelf := tt.shelf + 1 })

/-- The hold pool after a copy has been offered to a title. -/
def State.offeredPool (s : State) (tt : Title) (copy : Option Nat) : Tbl PoolRec :=
  match s.firstWaiting tt with
  | some x => Tbl.store s.pool x.1.slot (.entry { x.2 with state := .ready s.pickupDeadline copy })
  | none => s.pool

theorem State.trap_tables (clean : s.upsets = []) (resident : s.titleAt k = some tt) (title : Nat) (x : QueueItem × Hold)
    (copy ret : Option Nat) :
    (s.trap k title x copy ret).tables = { s.tables with
      pool := Tbl.store s.pool x.1.slot (.entry { x.2 with state := .ready s.pickupDeadline copy })
      titles := Tbl.store s.titles k (.resident { tt with waiting := tt.waiting - 1, ready := tt.ready + 1 }) } := by
  unfold State.trap
  dsimp only
  rw [State.setPool_clean clean]
  generalize hv : ({ s with pool := Tbl.store s.pool x.1.slot _ } : State) = v
  have here : v.titleAt k = some tt := by rw [← hv]; exact resident
  rw [State.mapTitle_clean (by rw [← hv]; exact clean) here]
  refine (State.post_tables _ _).trans ?_
  rw [← hv]
  rfl

theorem State.shelve_tables (clean : s.upsets = []) (resident : s.titleAt k = some tt) (copy ret : Option Nat) :
    (s.shelve k tt copy ret).tables = { s.tables with
      titles := if 255 ≤ tt.shelf then s.titles else Tbl.store s.titles k (.resident { tt with shelf := tt.shelf + 1 }) } := by
  unfold State.shelve
  split
  · rw [State.post_tables]
    exact s.logFault_tables _ _ _
  · rw [State.post_tables, State.mapTitle_clean clean resident]
    rfl

/-- A first WAITING entry traps the copy (R94). -/
theorem State.offerCopy_traps (clean : s.upsets = []) (resident : s.titleAt k = some tt) {w : QueueItem × Hold}
    (first : s.firstWaiting tt = some w) (copy ret : Option Nat) :
    s.offerCopy k copy ret = (s.trap k tt.id w copy ret, true) := by
  unfold State.offerCopy
  simp only [State.readQueueOf_clean clean, resident, first]

/-- With none the copy goes to the shelf (R94). -/
theorem State.offerCopy_shelves (clean : s.upsets = []) (resident : s.titleAt k = some tt)
    (none_ : s.firstWaiting tt = none) (copy ret : Option Nat) : s.offerCopy k copy ret = (s.shelve k tt copy ret, false) := by
  unfold State.offerCopy
  simp only [State.readQueueOf_clean clean, resident, none_]

theorem State.offerCopy_tables (clean : s.upsets = []) (resident : s.titleAt k = some tt) (copy ret : Option Nat) :
    (s.offerCopy k copy ret).1.tables =
      { s.tables with titles := s.offeredTitles k tt, pool := s.offeredPool tt copy } := by
  rw [State.offeredTitles, State.offeredPool]
  cases first : s.firstWaiting tt with
  | some w =>
    rw [State.offerCopy_traps clean resident first]
    exact State.trap_tables clean resident tt.id w copy ret
  | none =>
    rw [State.offerCopy_shelves clean resident first]
    exact State.shelve_tables clean resident copy ret

theorem State.offerCopy_trapped (clean : s.upsets = []) (resident : s.titleAt k = some tt) (copy ret : Option Nat) :
    (s.offerCopy k copy ret).2 = (s.firstWaiting tt).isSome := by
  cases first : s.firstWaiting tt with
  | some w => rw [State.offerCopy_traps clean resident first]; rfl
  | none => rw [State.offerCopy_shelves clean resident first]; rfl

/-- The title offered to stays RESIDENT. -/
theorem State.offeredTitles_resident (resident : s.titleAt k = some tt) :
    ∃ after, Tbl.lookup (s.offeredTitles k tt) k = some (.resident after) := by
  unfold State.offeredTitles
  split
  · exact ⟨_, Tbl.lookup_store_same _ _ _⟩
  · split
    · exact ⟨tt, State.titleAt_eq_some.mp resident⟩
    · exact ⟨_, Tbl.lookup_store_same _ _ _⟩

/-! ## Its notices -/

theorem PostsNoBalance.mapTitle (s : State) (n : Nat) (f : Title → Title) : PostsNoBalance s (s.mapTitle n f) := by
  unfold State.mapTitle
  split
  · exact .of_same rfl rfl
  · exact .refl s

theorem PostsNoBalance.trap (s : State) (k title : Nat) (x : QueueItem × Hold) (copy ret : Option Nat) :
    PostsNoBalance s (s.trap k title x copy ret) := by
  have pool (r : PoolRec) : PostsNoBalance s (s.setPool x.1.slot r) := .of_same rfl rfl
  have counted (v : State) (f : Op → Op) : PostsNoBalance v (v.mapOp f) := .of_same rfl rfl
  unfold State.trap
  dsimp only
  exact (((pool _).trans (.mapTitle _ k _)).trans (.post _ rfl)).trans (counted _ _)

theorem PostsNoBalance.shelve (s : State) (k : Nat) (tt : Title) (copy ret : Option Nat) :
    PostsNoBalance s (s.shelve k tt copy ret) := by
  unfold State.shelve
  split
  · exact (PostsNoBalance.logFault s _ _ _).trans (.post _ rfl)
  · exact (PostsNoBalance.mapTitle s _ _).trans (.post _ rfl)

theorem PostsNoBalance.offerCopy (clean : s.upsets = []) (resident : s.titleAt k = some tt) (copy ret : Option Nat) :
    PostsNoBalance s (s.offerCopy k copy ret).1 := by
  cases first : s.firstWaiting tt with
  | some w =>
    rw [State.offerCopy_traps clean resident first]
    exact .trap s k tt.id w copy ret
  | none =>
    rw [State.offerCopy_shelves clean resident first]
    exact .shelve s k tt copy ret

theorem State.mapTitle_engine (s : State) (n : Nat) (f : Title → Title) : (s.mapTitle n f).engine = s.engine := by
  unfold State.mapTitle
  split <;> rfl

theorem State.trap_room {r : Nat} (room : s.hasRoom (r + 1)) (title : Nat) (x : QueueItem × Hold) (copy ret : Option Nat) :
    (s.trap k title x copy ret).hasRoom r := by
  unfold State.trap
  dsimp only
  generalize hv : State.mapTitle _ _ _ = v
  have engine : v.engine = s.engine := by
    rw [← hv, State.mapTitle_engine]
    rfl
  obtain ⟨op, busy, quiet, left⟩ := (State.post_room (State.hasRoom_congr engine room)
    (.trapped title x.2.patron x.2.branch s.pickupDeadline copy ret)).2
  exact ⟨{ op with traps := op.traps + 1 }, by simp [busy, Engine.mapOp], quiet, left⟩

theorem State.shelve_room {r : Nat} (room : s.hasRoom (r + 1)) (tt : Title) (copy ret : Option Nat) :
    (s.shelve k tt copy ret).hasRoom r := by
  unfold State.shelve
  split
  · exact (State.post_room (State.hasRoom_congr (s.logFault_onlyLogs _ _ _).engine room) _).2
  · exact (State.post_room (State.hasRoom_congr (s.mapTitle_engine _ _) room) _).2

/-- The offer posts one notice. -/
theorem State.offerCopy_room {r : Nat} (clean : s.upsets = []) (resident : s.titleAt k = some tt) (copy ret : Option Nat)
    (room : s.hasRoom (r + 1)) : (s.offerCopy k copy ret).1.hasRoom r := by
  cases first : s.firstWaiting tt with
  | some w =>
    rw [State.offerCopy_traps clean resident first]
    exact State.trap_room room _ _ _ _
  | none =>
    rw [State.offerCopy_shelves clean resident first]
    exact State.shelve_room room _ _ _

/-! ## The offer depends on the shelves alone -/

/-- The tables that an offer reads are the same. -/
structure SameShelves (s v : State) : Prop where
  titles : v.titles = s.titles
  pool : v.pool = s.pool
  calendar : v.calendar = s.calendar
  schedule : v.schedule = s.schedule

theorem SameShelves.firstWaiting (h : SameShelves s v) (tt : Title) : v.firstWaiting tt = s.firstWaiting tt := by
  unfold State.firstWaiting State.firstHold
  simp only [State.holdAt_of_table h.pool]

theorem SameShelves.offeredTitles (h : SameShelves s v) (k : Nat) (tt : Title) :
    v.offeredTitles k tt = s.offeredTitles k tt := by
  unfold State.offeredTitles
  rw [h.firstWaiting, h.titles]

theorem SameShelves.offeredPool (h : SameShelves s v) (tt : Title) (copy : Option Nat) :
    v.offeredPool tt copy = s.offeredPool tt copy := by
  unfold State.offeredPool State.pickupDeadline State.today
  rw [h.firstWaiting, h.pool, h.calendar, h.schedule]

/-! ## A returned copy (R96) -/

/-- What becomes of a returned copy, as its CONFIRM numbers it (R31). -/
def State.offerOutcome (s : State) (title : Nat) : Nat :=
  match s.residentTitle title with
  | none => 2
  | some tt => if (s.firstWaiting tt).isSome then 0 else 1

theorem State.offerReturned_gone (clean : s.upsets = []) {title : Nat} (gone : s.residentTitle title = none)
    (copy branch : Nat) : s.offerReturned copy title branch = (s, s.offerOutcome title) := by
  have other := State.titlePlace_other gone
  unfold State.offerReturned State.offerOutcome
  simp only [State.lookUpTitle_clean clean, gone]

theorem State.offerReturned_offers (clean : s.upsets = []) {title : Nat} (found : s.findTitle title = some k)
    (resident : s.titleAt k = some tt) (copy branch : Nat) :
    s.offerReturned copy title branch = ((s.offerCopy k (some copy) (some branch)).1, s.offerOutcome title) := by
  obtain ⟨after, here⟩ := State.offeredTitles_resident resident
  have titles : (s.offerCopy k (some copy) (some branch)).1.titles = s.offeredTitles k tt :=
    congrArg Tables.titles (State.offerCopy_tables clean resident (some copy) (some branch))
  have stays : (s.offerCopy k (some copy) (some branch)).1.titleAt k = some after :=
    State.titleAt_eq_some.mpr (by rw [titles, here])
  unfold State.offerReturned State.offerOutcome
  simp only [State.lookUpTitle_clean clean, State.titlePlace_resident found resident, State.residentTitle_eq found resident,
    State.offerCopy_trapped clean resident, stays, Option.isSome_some, ↓reduceIte]

/-- What the offer of a returned copy leaves: it writes titles and the pool, and posts at most one notice, no BALANCE. -/
structure Offers (s v : State) (copy title branch : Nat) : Prop where
  frame : { v.tables with titles := s.titles, pool := s.pool } = s.tables
  gone : s.residentTitle title = none → v.titles = s.titles ∧ v.pool = s.pool
  offered : ∀ k tt, s.findTitle title = some k → s.titleAt k = some tt →
    v.titles = s.offeredTitles k tt ∧ v.pool = s.offeredPool tt (some copy)
  noBalance : PostsNoBalance s v
  room : ∀ r, s.hasRoom (r + 1) → v.hasRoom r

theorem State.offerReturned_spec (clean : s.upsets = []) (copy title branch : Nat) :
    ∃ v, s.offerReturned copy title branch = (v, s.offerOutcome title) ∧ Offers s v copy title branch := by
  cases place : s.residentTitle title with
  | none =>
    refine ⟨s, State.offerReturned_gone clean place copy branch, rfl, fun _ => ⟨rfl, rfl⟩, fun k tt found resident => ?_,
      .refl s, fun _ => State.hasRoom_succ⟩
    rw [State.residentTitle_eq found resident] at place
    cases place
  | some tt =>
    obtain ⟨k, found, resident⟩ := State.residentTitle_some place
    have tables := State.offerCopy_tables clean resident (some copy) (some branch)
    refine ⟨_, State.offerReturned_offers clean found resident copy branch, by rw [tables]; rfl, fun gone => ?_,
      fun j other found' resident' => ?_, .offerCopy clean resident _ _, fun _ => State.offerCopy_room clean resident _ _⟩
    · rw [place] at gone
      cases gone
    · obtain rfl : k = j := Option.some.inj (found.symm.trans found')
      obtain rfl : tt = other := Option.some.inj (resident.symm.trans resident')
      exact ⟨congrArg Tables.titles tables, congrArg Tables.pool tables⟩

end Sys2Proof.Machine
end

section
/-! PROOF. The loan of a returned copy ends, in a memory without damage (R31, R57, R62). -/

namespace Sys2Proof.Machine

variable {s t v : State} {n : Nat} {l : Loan} {p : Patron}

/-! ## What ending a loan leaves -/

theorem ServesOnly.freeLoan (h : ServesOnly s t) (n : Nat) : ServesOnly s (t.freeLoan n) :=
  ⟨by simp [State.freeLoan, h.clean], h.frame, h.lanes, h.ids, h.wf⟩

theorem PatronRec.withoutLoan_id (n : Nat) (r : PatronRec) : (r.withoutLoan n).id = r.id := by
  cases r <;> rfl

theorem ServesOnly.forgetLoan (h : ServesOnly s t) (n : Nat) : ServesOnly s (t.forgetLoans [n]) := by
  refine ⟨h.clean, h.frame, h.lanes, .trans ?_ h.ids, Tbl.wf_mapSlots _ _ h.wf⟩
  unfold State.patronIds State.forgetLoans
  rw [List.map_map]
  exact List.map_congr_left fun e _ => congrArg (Prod.mk e.1) (PatronRec.withoutLoan_id n e.2)

theorem State.endLoan_absent {copy : Nat} (clean : s.upsets = []) (absent : s.findCopy copy = none) :
    s.endLoan copy = (s, ⟨2, 0, 0⟩) := by
  unfold State.endLoan
  simp only [State.lookUpCopy_clean clean, absent]

section

variable {copy : Nat} {f : Figures}

/-- The ending of an ACTIVE loan, once it has been evaluated. -/
theorem State.endLoan_active (clean : s.upsets = []) (found : s.findCopy copy = some n) (evaluated : s.evaluate n = (v, f))
    (cleanAfter : v.upsets = []) (loan : v.loanAt n = some l) :
    s.endLoan copy = (v.endActive n l (decide (0 < f.balanceAdded)), ⟨0, v.patronIdAt l.patronSlot, l.accrued⟩) := by
  unfold State.endLoan
  simp only [State.lookUpCopy_clean clean, found, evaluated, State.readOwner_clean cleanAfter, loan]

/-- The ending of a slot that is not ACTIVE. -/
theorem State.endLoan_lost (clean : s.upsets = []) (found : s.findCopy copy = some n) (evaluated : s.evaluate n = (v, f))
    (cleanAfter : v.upsets = []) (lost : v.loanAt n = none) : s.endLoan copy = (v.forgetLoans [n], ⟨1, 0, 0⟩) := by
  unfold State.endLoan
  simp only [State.lookUpCopy_clean clean, found, evaluated, State.readOwner_clean cleanAfter, lost,
    State.listSearch_free cleanAfter]

end

/-- A loan leaves its patron's list and its table. -/
def State.delist (s : State) (slot n : Nat) : State :=
  (s.mapPatron slot fun p => { p with loans := p.loans.filter (· != n), lastDay := s.today }).freeLoan n

theorem State.endActive_eq (s : State) (n : Nat) (l : Loan) (charged : Bool) :
    s.endActive n l charged =
      if charged then ((s.blockCompare l.patronSlot).postBalance l.patronSlot).delist l.patronSlot n
      else s.delist l.patronSlot n := by
  cases charged <;> rfl

theorem State.delist_clean (clean : s.upsets = []) {slot : Nat} (resident : s.patronAt slot = some p) (n : Nat) :
    s.delist slot n = { s with
      loans := Tbl.release s.loans n
      patrons := Tbl.store s.patrons slot (.resident { p with loans := p.loans.filter (· != n), lastDay := s.today }) } := by
  unfold State.delist
  rw [State.mapPatron_clean clean resident]
  simp only [State.freeLoan, clean, passWhere, List.filterMap_nil]

theorem State.delist_gone {slot : Nat} (gone : s.patronAt slot = none) (n : Nat) : s.delist slot n = s.freeLoan n := by
  unfold State.delist State.mapPatron
  simp only [gone]

theorem State.delist_engine (s : State) (slot n : Nat) : (s.delist slot n).engine = s.engine := s.mapPatron_engine _ _

theorem ServesOnly.delist (h : ServesOnly s t) (slot n : Nat) : ServesOnly s (t.delist slot n) := by
  have listed : ServesOnly s (t.mapPatron slot fun p => { p with loans := p.loans.filter (· != n), lastDay := t.today }) :=
    h.mapPatron slot fun _ => rfl
  exact listed.freeLoan n

theorem ServesOnly.endActive (h : ServesOnly s t) (n : Nat) (l : Loan) (charged : Bool) :
    ServesOnly s (t.endActive n l charged) := by
  rw [State.endActive_eq]
  split
  · exact ((h.blockCompare _).postBalance _).delist _ _
  · exact h.delist _ _

theorem State.endActive_room {r : Nat} (room : s.hasRoom (r + 1)) (n : Nat) (l : Loan) (charged : Bool) :
    (s.endActive n l charged).hasRoom r := by
  rw [State.endActive_eq]
  split
  · exact State.hasRoom_congr (State.delist_engine _ _ _)
      (State.postBalance_room (State.hasRoom_congr (State.mapPatron_engine _ _ _) room) _)
  · exact State.hasRoom_congr (State.delist_engine _ _ _) (State.hasRoom_succ room)

/-- Ending a loan writes patron and loan records, and posts at most one notice. -/
theorem State.endLoan_serves (clean : s.upsets = []) (wf : Tbl.wf s.patrons = true) (copy : Nat) :
    ServesOnly s (s.endLoan copy).1 ∧ ∀ r, s.hasRoom (r + 1) → (s.endLoan copy).1.hasRoom r := by
  have start := ServesOnly.refl clean wf
  cases found : s.findCopy copy with
  | none =>
    rw [State.endLoan_absent clean found]
    exact ⟨start, fun _ => State.hasRoom_succ⟩
  | some n =>
    have evaluated := start.evaluate n
    have engine := State.evaluate_engine clean n
    cases loan : (s.evaluate n).1.loanAt n with
    | some l =>
      rw [State.endLoan_active clean found rfl evaluated.clean loan]
      exact ⟨evaluated.endActive n l _, fun r room => State.endActive_room (State.hasRoom_congr engine room) n l _⟩
    | none =>
      rw [State.endLoan_lost clean found rfl evaluated.clean loan]
      exact ⟨evaluated.forgetLoan n, fun r room => State.hasRoom_congr engine (State.hasRoom_succ room)⟩

/-! ## The three endings of a loan that the copy index holds -/

theorem State.endLoan_damaged {copy c : Nat} (clean : s.upsets = []) (found : s.findCopy copy = some n)
    (here : Tbl.lookup s.loans n = some (.damaged c)) : s.endLoan copy = (s.forgetLoans [n], ⟨1, 0, 0⟩) := by
  have none_ := State.loanAt_damaged here
  have still : s.evaluate n = (s, .zero) := State.evaluate_still clean fun l loan => by
    rw [none_] at loan
    cases loan
  exact State.endLoan_lost clean found still clean none_

theorem State.patronAt_damaged {slot id : Nat} (here : Tbl.lookup s.patrons slot = some (.damaged id)) :
    s.patronAt slot = none := by
  unfold State.patronAt
  rw [here]

/-- The loan of a DAMAGED patron ends as it stands. -/
theorem State.endLoan_ownerDamaged {copy id : Nat} (clean : s.upsets = []) (found : s.findCopy copy = some n)
    (loan : s.loanAt n = some l) (owner : Tbl.lookup s.patrons l.patronSlot = some (.damaged id)) :
    s.endLoan copy = (s.freeLoan n, ⟨0, id, l.accrued⟩) := by
  have gone := State.patronAt_damaged owner
  have still : s.evaluate n = (s, .zero) := State.evaluate_still clean fun k loan' resident => by
    obtain rfl : l = k := Option.some.inj (loan.symm.trans loan')
    rw [gone] at resident
    cases resident
  have ended : s.endActive n l false = s.freeLoan n := (s.endActive_eq n l false).trans (State.delist_gone gone n)
  have named : s.patronIdAt l.patronSlot = id := by
    unfold State.patronIdAt
    rw [owner]
    rfl
  rw [State.endLoan_active clean found still clean loan, show decide (0 < Figures.zero.balanceAdded) = false from rfl,
    ended, named]

/-- What the evaluation of a RESIDENT patron's loan leaves, be it behind C or at C. -/
structure WalksLoan (s v : State) (n : Nat) (l : Loan) (p : Patron) (w : Walk) : Prop where
  engine : v.engine = s.engine
  noBalance : PostsNoBalance s v
  loan : ∃ l', v.loanAt n = some l' ∧ l'.patronSlot = l.patronSlot ∧ l'.accrued = w.accrued
  loans : ∀ k, k ≠ n → Tbl.lookup v.loans k = Tbl.lookup s.loans k
  patron : v.patronAt l.patronSlot = some { p with balance := w.balance }
  patrons : ∀ k, k ≠ l.patronSlot → Tbl.lookup v.patrons k = Tbl.lookup s.patrons k

theorem PostsNoBalance.logCeiling (s : State) (p : Patron) (l : Loan) (cents : Nat) :
    PostsNoBalance s (s.logCeiling p l cents) := by
  unfold State.logCeiling
  split
  · exact .refl s
  · exact .logFault s _ _ _

theorem State.evaluate_walksLoan (clean : s.upsets = []) (loan : s.loanAt n = some l)
    (patron : s.patronAt l.patronSlot = some p) (known : l.charged ≤ s.calendar.closeDay) :
    ∃ v f, s.evaluate n = (v, f) ∧ f.balanceAdded = (s.walkLoan l p).balanceAdded ∧
      WalksLoan s v n l p (s.walkLoan l p) := by
  rcases Nat.lt_or_eq_of_le known with behind | stands
  · have tables : (s.afterWalk n l p).tables = (s.writeWalk n l p (s.walkLoan l p)).tables :=
      (State.logCeiling_onlyLogs _ _ _ _).2.1
    have loans : (s.afterWalk n l p).loans = Tbl.store s.loans n _ := congrArg Tables.loans tables
    have patrons : (s.afterWalk n l p).patrons = Tbl.store s.patrons l.patronSlot _ := congrArg Tables.patrons tables
    have written : PostsNoBalance s (s.writeWalk n l p (s.walkLoan l p)) := .of_same rfl rfl
    refine ⟨_, _, State.evaluate_behind clean loan patron behind, rfl, s.afterWalk_engine n l p,
      written.trans (.logCeiling _ _ _ _),
      ⟨_, State.loanAt_eq_some.mpr ((congrArg (Tbl.lookup · n) loans).trans (Tbl.lookup_store_same _ _ _)), rfl, rfl⟩,
      fun k other => ?_, State.patronAt_eq_some.mpr (by rw [patrons, Tbl.lookup_store_same]), fun k other => ?_⟩
    · rw [loans, Tbl.lookup_store_ne _ _ _ _ other]
    · rw [patrons, Tbl.lookup_store_ne _ _ _ _ other]
  · have walk := State.walkLoan_none (s := s) (l := l) (Nat.le_of_eq stands.symm) p
    refine ⟨s, .zero, State.evaluate_still clean fun k loan' _ => ?_, by rw [walk]; rfl, rfl, .refl s,
      ⟨l, loan, rfl, by rw [walk]⟩, fun _ _ => rfl, by rw [walk]; exact patron, fun _ _ => rfl⟩
    obtain rfl : l = k := Option.some.inj (loan.symm.trans loan')
    exact Nat.le_of_eq stands.symm

/-- The patron's record once an evaluated loan has ended. -/
def State.afterReturn (s : State) (n : Nat) (p : Patron) (w : Walk) : Patron :=
  { p with
    balance := w.balance
    loans := p.loans.filter (· != n)
    lastDay := s.today
    blocked := if 0 < w.balanceAdded then s.blockDue { p with balance := w.balance } else p.blocked }

/-- What the end of a RESIDENT patron's loan leaves. -/
structure EndsWalked (s e : State) (n : Nat) (l : Loan) (p : Patron) (w : Walk) : Prop where
  gone : Tbl.lookup e.loans n = none
  loans : ∀ k, k ≠ n → Tbl.lookup e.loans k = Tbl.lookup s.loans k
  patron : e.patronAt l.patronSlot = some (s.afterReturn n p w)
  patrons : ∀ k, k ≠ l.patronSlot → Tbl.lookup e.patrons k = Tbl.lookup s.patrons k
  charged : 0 < w.balanceAdded →
    .balance p.id w.balance p.pending (s.blockDue { p with balance := w.balance }) ∈ e.link.outbound
  silent : w.balanceAdded = 0 → PostsNoBalance s e

/-- The notices stand as they did before the loan left its list. -/
theorem PostsNoBalance.delist (s : State) (slot n : Nat) : PostsNoBalance s (s.delist slot n) := by
  unfold State.delist State.mapPatron
  split <;> exact .of_same rfl rfl

theorem State.patronIdAt_resident {slot : Nat} (resident : s.patronAt slot = some p) : s.patronIdAt slot = p.id := by
  unfold State.patronIdAt
  rw [State.patronAt_eq_some.mp resident]
  rfl

/-- What a loan's leaving its list makes of a state that holds the patron's record q. -/
theorem State.delist_ends {slot : Nat} {q : Patron} (clean : v.upsets = []) (resident : v.patronAt slot = some q) (n : Nat) :
    Tbl.lookup (v.delist slot n).loans n = none ∧
      (∀ k, k ≠ n → Tbl.lookup (v.delist slot n).loans k = Tbl.lookup v.loans k) ∧
      (v.delist slot n).patronAt slot = some { q with loans := q.loans.filter (· != n), lastDay := v.today } ∧
      ∀ k, k ≠ slot → Tbl.lookup (v.delist slot n).patrons k = Tbl.lookup v.patrons k := by
  rw [State.delist_clean clean resident]
  exact ⟨Tbl.lookup_release_same _ _, fun k other => Tbl.lookup_release_ne _ _ _ other,
    State.patronAt_eq_some.mpr (Tbl.lookup_store_same _ _ _), fun k other => Tbl.lookup_store_ne _ _ _ _ other⟩

/-- An uncharged loan that ends posts nothing. -/
theorem WalksLoan.endsUncharged {w : Walk} (h : WalksLoan s v n l p w) (serves : ServesOnly s v) (free : w.balanceAdded = 0) :
    EndsWalked s (v.delist l.patronSlot n) n l p w := by
  obtain ⟨gone, loans, patron, patrons⟩ := State.delist_ends serves.clean h.patron n
  refine ⟨gone, fun k other => (loans k other).trans (h.loans k other), ?_,
    fun k other => (patrons k other).trans (h.patrons k other), fun charged => absurd free (by omega),
    fun _ => h.noBalance.trans (.delist v _ n)⟩
  rw [patron, serves.today, State.afterReturn, free]
  rfl

/-- A charged loan that ends first has its patron compared and a BALANCE posted (R31, R125). -/
theorem WalksLoan.endsCharged {w : Walk} (h : WalksLoan s v n l p w) (serves : ServesOnly s v) (charged : 0 < w.balanceAdded)
    (counted : v.balanceIsOptional = false) (room : v.hasRoom 1) :
    EndsWalked s (((v.blockCompare l.patronSlot).postBalance l.patronSlot).delist l.patronSlot n) n l p w := by
  generalize hq : ({ p with balance := w.balance, blocked := s.blockDue { p with balance := w.balance } } : Patron) = q
  have compared : v.blockCompare l.patronSlot =
      { v with patrons := Tbl.store v.patrons l.patronSlot (.resident q) } := by
    unfold State.blockCompare
    rw [State.mapPatron_clean serves.clean h.patron, ← hq, serves.blockDue]
  generalize hc : v.blockCompare l.patronSlot = c at compared
  have own : c.patronAt l.patronSlot = some q := by
    rw [compared, State.patronAt_eq_some]
    exact Tbl.lookup_store_same _ _ _
  have roomC : c.hasRoom 1 := by
    rw [compared]
    exact room
  have reported : c.postBalance l.patronSlot = c.post q.balanceNotice := by
    rw [State.postBalance_resident own, State.balanceIsOptional_congr (s := v) (by rw [compared]), counted]
    rfl
  have tables : (c.postBalance l.patronSlot).tables = c.tables := State.postBalance_tables _ _
  have clean : (c.postBalance l.patronSlot).upsets = [] := by
    rw [← hc]
    exact ((serves.blockCompare _).postBalance _).clean
  obtain ⟨gone, loans, patron, patrons⟩ := State.delist_ends clean
    ((State.patronAt_of_table (congrArg Tables.patrons tables) _).trans own) n
  have posted : q.balanceNotice ∈ (c.postBalance l.patronSlot).link.outbound := by
    rw [reported]
    exact (State.post_room roomC _).1
  refine ⟨gone, fun k other => ?_, ?_, fun k other => ?_, fun _ => ?_, fun free => absurd charged (by omega)⟩
  · rw [loans k other, ← h.loans k other]
    exact congrArg (Tbl.lookup · k) ((congrArg Tables.loans tables :).trans (by rw [compared]; rfl))
  · rw [patron, show (c.postBalance l.patronSlot).today = s.today from ?_, State.afterReturn, if_pos charged, ← hq]
    rw [← hc]
    exact ((serves.blockCompare _).postBalance _).today
  · rw [patrons k other, ← h.patrons k other, show (c.postBalance l.patronSlot).patrons = c.patrons from
      congrArg Tables.patrons tables, compared]
    exact Tbl.lookup_store_ne _ _ _ _ other
  · have kept := (PostsNoBalance.delist (c.postBalance l.patronSlot) l.patronSlot n).same
    rw [← hq] at posted
    exact (kept _ _ _ _).mpr posted

/-- The end of a RESIDENT patron's loan, evaluated up to C (R31, R57). -/
theorem State.endLoan_walks {copy : Nat} (clean : s.upsets = []) (wf : Tbl.wf s.patrons = true)
    (found : s.findCopy copy = some n) (loan : s.loanAt n = some l) (patron : s.patronAt l.patronSlot = some p)
    (known : l.charged ≤ s.calendar.closeDay) (counted : s.balanceIsOptional = false) (room : s.hasRoom 1) :
    ∃ e, s.endLoan copy = (e, ⟨0, p.id, (s.walkLoan l p).accrued⟩) ∧ EndsWalked s e n l p (s.walkLoan l p) := by
  obtain ⟨v, f, evaluated, added, walks⟩ := State.evaluate_walksLoan clean loan patron known
  have serves : ServesOnly s v := by
    have all := (ServesOnly.refl clean wf).evaluate n
    rwa [evaluated] at all
  obtain ⟨l', here, slot, accrued⟩ := walks.loan
  have ended := State.endLoan_active clean found evaluated serves.clean here
  have owner : v.patronIdAt l.patronSlot = p.id :=
    State.patronIdAt_resident (p := { p with balance := (s.walkLoan l p).balance }) walks.patron
  rw [State.endActive_eq, slot, accrued, added, owner] at ended
  by_cases charged : 0 < (s.walkLoan l p).balanceAdded
  · rw [if_pos (by simpa using charged)] at ended
    exact ⟨_, ended, walks.endsCharged serves charged ((State.balanceIsOptional_congr walks.engine).trans counted)
      (State.hasRoom_congr walks.engine room)⟩
  · rw [if_neg (by simpa using charged)] at ended
    exact ⟨_, ended, walks.endsUncharged serves (by omega)⟩

end Sys2Proof.Machine
end

section
/-! PROOF. RETURN ends the loan and offers the copy (R31, R96). -/

namespace Sys2Proof.Machine

variable {s e t v : State} {op : Op} {x : Crossing} {copy title branch : Nat}

theorem ServesOnly.sameShelves (h : ServesOnly s e) : SameShelves s e :=
  ⟨(congrArg Tables.titles h.frame :), (congrArg Tables.pool h.frame :), h.calendar, h.schedule⟩

theorem SameShelves.offerOutcome (h : SameShelves s v) (title : Nat) : v.offerOutcome title = s.offerOutcome title := by
  unfold State.offerOutcome
  rw [State.residentTitle_of_table h.titles]
  simp only [h.firstWaiting]

/-! ## The row -/

theorem State.returnWork_malformed (bad : copy = 0 ∨ title = 0 ∨ 63 < branch) (s : State) :
    State.returnWork (.returnCopy copy title branch) s = (s, .badMessage, []) := by
  unfold State.returnWork
  exact if_pos bad

theorem State.returnWork_ends {ending : Ending} {offer : Nat} (ok : ¬ (copy = 0 ∨ title = 0 ∨ 63 < branch))
    (ended : s.endLoan copy = (e, ending)) (offered : e.offerReturned copy title branch = (v, offer)) :
    State.returnWork (.returnCopy copy title branch) s =
      (v, .ok, [⟨1, ending.ending⟩, ⟨4, ending.patron⟩, ⟨4, ending.accrued⟩, ⟨1, offer⟩]) := by
  unfold State.returnWork
  simp only [ok, ↓reduceIte, ended, offered]

/-- The end of a RETURN that a work of it makes. -/
theorem Performs.return_row {w : State} {status : Status} {fields : List CField}
    (h : Performs s op x (.returnCopy copy title branch))
    (served : State.returnWork (.returnCopy copy title branch) s = (w, status, fields)) (room : w.hasRoom 1) :
    ∃ t, exec (.returnCopy x) s = .next t ∧ MessageEnds s w t 2 status fields := by
  have works : Works Adjusts s w := by
    have made := (Works.refl (extra := Adjusts) (s := s)).returnWork (.returnCopy copy title branch)
    rwa [served] at made
  exact h.message_row (mine := OpKind.isMessage 2) (by simp [h.kind, OpKind.isMessage, Message.kind]) rfl served works room

/-- What a RETURN leaves of e, the state in which the loan has ended. -/
structure Returns (s e t : State) (copy title : Nat) (ending : Ending) : Prop where
  frame : { t.tables with titles := s.titles, pool := s.pool } = e.tables
  gone : s.residentTitle title = none → t.titles = s.titles ∧ t.pool = s.pool
  offered : ∀ k tt, s.findTitle title = some k → s.titleAt k = some tt →
    t.titles = s.offeredTitles k tt ∧ t.pool = s.offeredPool tt (some copy)
  noBalance : PostsNoBalance e t
  confirms : Confirms s t 2 .ok
    [⟨1, ending.ending⟩, ⟨4, ending.patron⟩, ⟨4, ending.accrued⟩, ⟨1, s.offerOutcome title⟩]

theorem Performs.returns (h : Performs s op x (.returnCopy copy title branch)) (room : 4 ≤ op.reservation)
    (ok : ¬ (copy = 0 ∨ title = 0 ∨ 63 < branch)) :
    ∃ t, exec (.returnCopy x) s = .next t ∧ ServesOnly s (s.endLoan copy).1 ∧
      Returns s (s.endLoan copy).1 t copy title (s.endLoan copy).2 := by
  obtain ⟨serves, roomEnd⟩ := State.endLoan_serves h.noErr h.canon.1 copy
  cases ended : s.endLoan copy with
  | mk e ending =>
    rw [ended] at serves roomEnd
    have same := serves.sameShelves
    obtain ⟨v, offered, offers⟩ := State.offerReturned_spec serves.clean copy title branch
    rw [same.offerOutcome] at offered
    obtain ⟨t, next, ends⟩ := h.return_row (State.returnWork_ends ok ended offered)
      (offers.room 1 (roomEnd 2 (h.hasRoom (Nat.le_trans (by decide) room))))
    have titles : t.titles = v.titles := congrArg Tables.titles ends.tables
    have pool : t.pool = v.pool := congrArg Tables.pool ends.tables
    refine ⟨t, next, serves, ?_, fun gone => ?_, fun k tt found resident => ?_, offers.noBalance.trans ends.noBalance,
      ends.confirms⟩
    · rw [ends.tables, ← same.titles, ← same.pool]
      exact offers.frame
    · rw [titles, pool, ← same.titles, ← same.pool]
      exact offers.gone ((State.residentTitle_of_table same.titles title).trans gone)
    · rw [titles, pool, ← same.offeredTitles, ← same.offeredPool]
      exact offers.offered k tt ((State.findTitle_of_table same.titles title).trans found)
        ((State.titleAt_of_table same.titles k).trans resident)

/-! ## The statement -/

theorem Returns.loans {ending : Ending} (h : Returns s e t copy title ending) : t.loans = e.loans :=
  (congrArg Tables.loans h.frame :)

theorem Returns.patrons {ending : Ending} (h : Returns s e t copy title ending) : t.patrons = e.patrons :=
  (congrArg Tables.patrons h.frame :)

theorem Performs.balanceCounts (h : Performs s op x (.returnCopy copy title branch)) : s.balanceIsOptional = false := by
  unfold State.balanceIsOptional State.op?
  simp [h.busy, h.kind]

/-- A DAMAGED loan slot leaves the table and every list. -/
theorem State.forgetLoan_spec (s : State) (n : Nat) :
    Tbl.lookup (s.forgetLoans [n]).loans n = none ∧
      (∀ k, k ≠ n → Tbl.lookup (s.forgetLoans [n]).loans k = Tbl.lookup s.loans k) ∧
      ∀ k, Tbl.lookup (s.forgetLoans [n]).patrons k = (Tbl.lookup s.patrons k).map (PatronRec.withoutLoan n) := by
  refine ⟨by simp [State.forgetLoans_loan], fun k other => by simp [State.forgetLoans_loan, other], fun k => ?_⟩
  rw [State.forgetLoans_patron]
  rfl

/-- Settles O33: the loan ends by its slot's state and its owner's, and the copy is offered to the title named. -/
theorem returnEndsTheLoanAndOffersTheCopy : Obligations.ReturnEndsTheLoanAndOffersTheCopy := by
  intro s op x copy title branch h room
  refine ⟨fun bad => ?_, fun noCopy noTitle branchOk => ?_⟩
  · obtain ⟨t, next, ends⟩ :=
      h.return_row (State.returnWork_malformed bad s) (h.hasRoom (Nat.le_trans (by decide) room))
    exact ⟨t, next, ends.tables, ends.noBalance.same, ends.confirms⟩
  · obtain ⟨t, next, serves, returns⟩ := h.returns room (by omega)
    have clean := h.noErr
    refine ⟨t, next, (congrArg Tables.tags returns.frame).trans (congrArg Tables.tags serves.frame),
      (congrArg Tables.tagLine returns.frame).trans (congrArg Tables.tagLine serves.frame),
      (congrArg Tables.calendar returns.frame).trans serves.calendar,
      (congrArg Tables.schedule returns.frame).trans serves.schedule,
      (congrArg Tables.sweep returns.frame).trans (congrArg Tables.sweep serves.frame), returns.gone,
      fun k tt found resident => ?_, fun absent => ?_, fun n found => ⟨fun c here => ?_, fun l id loan owner => ?_,
        fun l p w loan patron walk known => ?_⟩⟩
    · obtain ⟨titles, pool⟩ := returns.offered k tt found resident
      have offered := State.offerCopy_tables clean resident (some copy) (some branch)
      exact ⟨titles.trans (congrArg Tables.titles offered).symm, pool.trans (congrArg Tables.pool offered).symm⟩
    · rw [State.endLoan_absent clean absent] at returns
      exact ⟨returns.loans, returns.patrons, returns.noBalance.same, returns.confirms⟩
    · rw [State.endLoan_damaged clean found here] at returns
      obtain ⟨gone, others, patrons⟩ := s.forgetLoan_spec n
      refine ⟨by rw [returns.loans, gone], fun k other => by rw [returns.loans, others k other], fun k => ?_, ?_,
        returns.confirms⟩
      · rw [returns.patrons, patrons]
        cases Tbl.lookup s.patrons k with
        | none => rfl
        | some r => cases r <;> rfl
      · exact returns.noBalance.same
    · rw [State.endLoan_ownerDamaged clean found loan owner] at returns
      refine ⟨?_, fun k other => ?_, returns.patrons, returns.noBalance.same, returns.confirms⟩
      · rw [returns.loans]
        exact Tbl.lookup_release_same _ _
      · rw [returns.loans]
        exact Tbl.lookup_release_ne _ _ _ other
    · subst walk
      obtain ⟨e, ended, walks⟩ := State.endLoan_walks clean h.canon.1 found loan patron known h.balanceCounts
        (h.hasRoom (Nat.le_trans (by decide) room))
      rw [ended] at returns
      refine ⟨by rw [returns.loans, walks.gone], fun k other => by rw [returns.loans, walks.loans k other],
        fun k other => by rw [returns.patrons, walks.patrons k other],
        (State.patronAt_of_table returns.patrons _).trans walks.patron, fun charged => ?_, fun free => ?_, returns.confirms⟩
      · exact (returns.noBalance.same _ _ _ _).mpr (walks.charged charged)
      · exact ((walks.silent free).trans returns.noBalance).same

end Sys2Proof.Machine
end

section
/-! PROOF. PATRON_LOAD in a memory without damage: the retired tags, the record it writes and the BALANCE it reports (R9,
R20 to R22, R25, R149). -/

namespace Sys2Proof.Machine

variable {s t v y : State} {slot : Nat} {p q : Patron}

/-! ## Retiring a tag (R149, R152) -/

/-- From s to t no more than the tags and their line have changed, in a memory without errors. -/
structure OnlyTags (s t : State) : Prop where
  clean : t.upsets = []
  same : ({ t with tags := s.tags, tagLine := s.tagLine, upsets := s.upsets } : State) = s

theorem OnlyTags.refl (clean : s.upsets = []) : OnlyTags s s := ⟨clean, rfl⟩

theorem OnlyTags.engine (h : OnlyTags s t) : t.engine = s.engine := (congrArg State.engine h.same :)
theorem OnlyTags.link (h : OnlyTags s t) : t.link = s.link := (congrArg State.link h.same :)
theorem OnlyTags.patrons (h : OnlyTags s t) : t.patrons = s.patrons := (congrArg State.patrons h.same :)
theorem OnlyTags.schedule (h : OnlyTags s t) : t.schedule = s.schedule := (congrArg State.schedule h.same :)
theorem OnlyTags.calendar (h : OnlyTags s t) : t.calendar = s.calendar := (congrArg State.calendar h.same :)

theorem OnlyTags.trans (h : OnlyTags s t) (h' : OnlyTags t v) : OnlyTags s v :=
  ⟨h'.clean, (congrArg (fun w : State => { w with tags := s.tags, tagLine := s.tagLine, upsets := s.upsets }) h'.same :).trans
    h.same⟩

theorem OnlyTags.retireTag (clean : s.upsets = []) (n : Nat) : OnlyTags s (s.retireTag n) := by
  unfold State.retireTag
  split
  · exact ⟨by simp [State.setTag, State.putTags, clean], rfl⟩
  · exact .refl clean

theorem OnlyTags.satisfyTag (clean : s.upsets = []) (tag : TagId) : OnlyTags s (s.satisfyTag tag) := by
  unfold State.satisfyTag
  split
  · dsimp only
    split
    · exact .retireTag clean _
    · exact .refl clean
  · exact .refl clean

theorem State.loadBase_onlyTags {tag : TagField} {kind : TagKind} {subject : Nat} (clean : s.upsets = [])
    (base : s.loadBase tag kind subject = some v) : OnlyTags s v := by
  unfold State.loadBase at base
  split at base
  · obtain ⟨_, -, rfl⟩ := Option.map_eq_some_iff.mp base
    exact .retireTag clean _
  · cases base
    exact .refl clean

/-! ## A record written and compared -/

theorem Tbl.store_store {α : Type} (t : Tbl α) (n : Nat) (a b : α) : Tbl.store (Tbl.store t n a) n b = Tbl.store t n b := by
  induction t with
  | nil => simp [Tbl.store]
  | cons e t ih =>
    obtain ⟨k, w⟩ := e
    by_cases before : n < k
    · simp [Tbl.store, before]
    · by_cases here : n = k
      · simp [Tbl.store, here]
      · simp [Tbl.store, before, here, ih]

/-- A patron's record with its flag by the block compare (R123). -/
def State.compares (s : State) (p : Patron) : Patron := { p with blocked := s.blockDue p }

/-- The state with a compared record in a patron slot. -/
def State.loaded (s : State) (slot : Nat) (p : Patron) : State :=
  { s with patrons := Tbl.store s.patrons slot (.resident (s.compares p)) }

theorem State.loaded_patronAt (s : State) (slot : Nat) (p : Patron) : (s.loaded slot p).patronAt slot = some (s.compares p) :=
  State.patronAt_eq_some.mpr (Tbl.lookup_store_same _ _ _)

theorem State.setPatron_compared (clean : s.upsets = []) (slot : Nat) (p : Patron) :
    (s.setPatron slot (.resident p)).blockCompare slot = s.loaded slot p := by
  have here : (s.setPatron slot (.resident p)).patronAt slot = some p :=
    State.patronAt_eq_some.mpr (Tbl.lookup_store_same _ _ _)
  unfold State.blockCompare
  rw [State.mapPatron_clean (by simp [State.setPatron, clean]) here, State.setPatron_clean clean, State.loaded]
  dsimp only
  rw [Tbl.store_store]
  rfl

/-! ## The BALANCE of a load (R9) -/

/-- The BALANCE n is posted between y and t where an entry is free for it, and not otherwise. -/
def Reports (y t : State) (n : Notice) : Prop :=
  (y.link.coalesce n ≠ none ∨ 0 < y.roomForOthers → n ∈ t.link.outbound) ∧
    (y.link.coalesce n = none → y.roomForOthers = 0 → SameBalances y t)

/-- z has the engine and the link of y. -/
structure SameQueue (y z : State) : Prop where
  engine : z.engine = y.engine
  link : z.link = y.link

theorem SameQueue.sameBalances (h : SameQueue y v) : SameBalances y v := by
  unfold SameBalances
  rw [h.link]
  exact fun _ _ _ _ => Iff.rfl

theorem SameBalances.trans (h : SameBalances s t) (h' : SameBalances t v) : SameBalances s v :=
  fun id balance pending blocked => (h' id balance pending blocked).trans (h id balance pending blocked)

theorem State.postBalance_reports (same : SameQueue y v) (optional : y.balanceIsOptional = true)
    (own : v.patronAt slot = some q) : Reports y (v.postBalance slot) q.balanceNotice := by
  have room : v.roomForOthers = y.roomForOthers := State.roomForOthers_congr same.engine same.link
  rw [State.postBalance_resident own, if_pos ((State.balanceIsOptional_congr same.engine).trans optional)]
  refine ⟨fun free => free.elim (fun merges => State.postIfRoom_merges ?_) fun left => State.postIfRoom_room _ ?_,
    fun alone full => ?_⟩
  · rwa [same.link]
  · rwa [room]
  · rw [State.postIfRoom_not (by rwa [same.link]) (by rwa [room])]
    exact same.sameBalances

/-- What a message's completion leaves of a report. -/
theorem MessageEnds.reports {w : State} {kind : Nat} {status : Status} {fields : List CField} {n : Notice}
    (h : MessageEnds s w t kind status fields) (reports : Reports y w n) (notLane : n.isLaneState = false) : Reports y t n :=
  ⟨fun free => h.kept n (reports.1 free) notLane, fun alone full => (reports.2 alone full).trans h.noBalance.same⟩

/-! ## The three records that a load writes -/

theorem State.newResident_clean (clean : s.upsets = []) (slot id category balance : Nat) :
    s.newResident slot id category balance =
      (let z := s.loaded slot ⟨id, category, clampBalance balance, 0, false, [], [], s.today⟩
       (if 999999 < balance ∨ s.blockDue ⟨id, category, clampBalance balance, 0, false, [], [], s.today⟩ = true then
          z.postBalance slot else z, clampedStatus (decide (999999 < balance)), [])) := by
  unfold State.newResident
  simp only [State.setPatron_compared clean, State.loaded_patronAt, Option.map_some, Option.getD_some, Bool.or_eq_true,
    decide_eq_true_eq]
  rfl

theorem State.restorePatron_clean (clean : s.upsets = []) (slot id category balance : Nat) :
    s.restorePatron slot id category balance =
      ((s.loaded slot ⟨id, category, max (clampBalance balance) (s.reserves id), s.reserves id, false, s.loansOfSlot slot,
          s.holdsOfPatron id, s.today⟩).postBalance slot,
        clampedStatus (decide (999999 < balance) || decide (clampBalance balance < s.reserves id)), []) := by
  unfold State.restorePatron
  simp only [State.scanTags_clean clean, State.scanTable_clean clean, State.setPatron_compared clean]
  rfl

theorem State.changeCategory_clean (clean : s.upsets = []) (resident : s.patronAt slot = some p) (category : Nat) :
    s.changeCategory slot category =
      (let q := { p with category := category }
       (if s.blockDue q = p.blocked then s.loaded slot q else (s.loaded slot q).postBalance slot, .ok, [])) := by
  have before : s.account slot = some (p.balance, p.blocked) := by
    unfold State.account
    rw [resident]
    rfl
  have mapped : (s.mapPatron slot fun p => { p with category := category }) =
      s.setPatron slot (.resident { p with category := category }) := by
    unfold State.mapPatron
    rw [resident]
  have after : (s.loaded slot { p with category := category }).account slot =
      some (p.balance, s.blockDue { p with category := category }) := by
    unfold State.account
    rw [State.loaded_patronAt]
    rfl
  unfold State.changeCategory
  simp only [before, mapped, State.setPatron_compared clean, after, Option.some.injEq, Prod.mk.injEq, true_and]

end Sys2Proof.Machine
end

section
/-! PROOF. PATRON_LOAD acts by the record of its patron (R20 to R22, R25, R149). -/

namespace Sys2Proof.Machine

variable {s t v y w : State} {op : Op} {x : Crossing} {tag : TagField} {patron found category balance slot : Nat} {p : Patron}

/-! ## The row -/

/-- A PATRON_LOAD answers this status and leaves these tables, with what else is said of its end. -/
def LoadGives (s : State) (x : Crossing) (u : Tables) (status : Status) (posted : State → Prop) : Prop :=
  ∃ t, exec (.patronLoad x) s = .next t ∧ t.tables = u ∧ posted t ∧ Confirms s t 3 status []

theorem Performs.load_gives {u : Tables} {status : Status} {posted : State → Prop}
    (h : Performs s op x (.patronLoad tag patron found category balance))
    (served : State.patronLoadWork (.patronLoad tag patron found category balance) s = (w, status, []))
    (room : w.hasRoom 1) (tables : w.tables = u) (ends : ∀ t, MessageEnds s w t 3 status [] → posted t) :
    LoadGives s x u status posted := by
  have works : Works Adjusts s w := by
    have made := (Works.refl (extra := Adjusts) (s := s)).patronLoadWork (.patronLoad tag patron found category balance)
    rwa [served] at made
  obtain ⟨t, next, ended⟩ :=
    h.message_row (row := .patronLoad) (mine := OpKind.isMessage 3) (by simp [h.kind, OpKind.isMessage, Message.kind]) rfl
      served works room
  exact ⟨t, next, ended.tables.trans tables, ends t ended, ended.confirms⟩

theorem Performs.balanceOptional (h : Performs s op x (.patronLoad tag patron found category balance)) :
    s.balanceIsOptional = true := by
  unfold State.balanceIsOptional State.op?
  simp [h.busy, h.kind]

/-- A load whose work leaves the queue. -/
theorem Performs.load_quiet {u : Tables} {status : Status} (h : Performs s op x (.patronLoad tag patron found category balance))
    (room : 4 ≤ op.reservation)
    (served : State.patronLoadWork (.patronLoad tag patron found category balance) s = (w, status, []))
    (same : SameQueue s w) (tables : w.tables = u) : LoadGives s x u status (SameBalances s) :=
  h.load_gives served (State.hasRoom_congr same.engine (h.hasRoom (Nat.le_trans (by decide) room))) tables
    fun _ ends => same.sameBalances.trans ends.noBalance.same

/-! ## What the load acts on -/

/-- Its own fields are out of range (R20). -/
def badLoad (patron found category : Nat) : Prop := found ≠ 0 ∧ (7 < category ∨ patron = 0)

theorem State.patronLoadWork_malformed (bad : badLoad patron found category) (tag : TagField) (balance : Nat) (s : State) :
    State.patronLoadWork (.patronLoad tag patron found category balance) s = (s, .badMessage, []) := by
  unfold State.patronLoadWork
  exact if_pos bad

theorem State.patronLoadWork_stale (clean : s.upsets = []) (ok : ¬ badLoad patron found category)
    (stale : s.loadBase tag .patronFetch patron = none) (balance : Nat) :
    State.patronLoadWork (.patronLoad tag patron found category balance) s =
      (s.logStaleReply tag patron 0, .staleTag, []) := by
  unfold badLoad at ok
  unfold State.loadBase at stale
  split at stale
  · rename_i tagged
    have unmatched : s.matchTag tag .patronFetch (some patron) = none := Option.map_eq_none_iff.mp stale
    unfold State.patronLoadWork
    simp only [ok, ↓reduceIte, tagged, State.readTagField_clean clean, unmatched]
  · cases stale

theorem State.patronLoadWork_base (clean : s.upsets = []) (ok : ¬ badLoad patron found category)
    (base : s.loadBase tag .patronFetch patron = some v) (balance : Nat) :
    State.patronLoadWork (.patronLoad tag patron found category balance) s =
      v.loadPatron patron found category balance tag.present := by
  unfold badLoad at ok
  unfold State.loadBase at base
  split at base
  · rename_i tagged
    obtain ⟨q, matched, rfl⟩ := Option.map_eq_some_iff.mp base
    unfold State.patronLoadWork
    simp only [ok, ↓reduceIte, tagged, State.readTagField_clean clean, matched]
  · rename_i untagged
    cases base
    unfold State.patronLoadWork
    simp [ok, untagged]

/-- A load of a patron that is not RESIDENT runs no catch-up. -/
theorem State.loadPatron_other (clean : v.upsets = []) (other : ∀ n, v.findPatron patron = some n → v.patronAt n = none)
    (found category balance : Nat) (tagged : Bool) :
    v.loadPatron patron found category balance tagged =
      if found = 0 then v.patronNotFound patron tagged else v.patronFound patron category balance := by
  unfold State.loadPatron
  rw [State.lookUpPatron_clean clean, State.caughtUp_other other]

theorem State.loadPatron_resident (clean : v.upsets = []) (known : v.findPatron patron = some slot)
    (resident : (v.patronAt slot).isSome = true) (found category balance : Nat) (tagged : Bool) :
    v.loadPatron patron found category balance tagged =
      if found = 0 then (v.served slot).patronNotFound patron tagged
      else (v.served slot).patronFound patron category balance := by
  unfold State.loadPatron
  rw [State.lookUpPatron_clean clean, State.caughtUp_resident known resident]

theorem State.patronAt_none_of_found {r : PatronRec} (known : v.findPatron patron = some slot)
    (here : Tbl.lookup v.patrons slot = some r) (other : ∀ p, r ≠ .resident p) :
    ∀ n, v.findPatron patron = some n → v.patronAt n = none := by
  intro n known'
  obtain rfl : slot = n := Option.some.inj (known.symm.trans known')
  cases resident : v.patronAt slot with
  | none => rfl
  | some p =>
    rw [State.patronAt_eq_some.mp resident] at here
    exact absurd (Option.some.inj here).symm (other p)

/-! ## The parts of the load -/

theorem SameQueue.loaded (h : SameQueue s y) (slot : Nat) (p : Patron) : SameQueue s (y.loaded slot p) := ⟨h.engine, h.link⟩

theorem OnlyTags.sameQueue (h : OnlyTags s v) : SameQueue s v := ⟨h.engine, h.link⟩

theorem SameQueue.trans (h : SameQueue s y) (h' : SameQueue y v) : SameQueue s v :=
  ⟨h'.engine.trans h.engine, h'.link.trans h.link⟩

/-- The balance of a loaded record and the flag that goes with it (R20, R123). -/
def State.blocksAt (v : State) (category balance : Nat) : Bool :=
  decide ((v.schedule.category category).threshold ≠ 0 ∧ (v.schedule.category category).threshold ≤ balance)

theorem State.blockDue_eq (v : State) (p : Patron) : v.blockDue p = v.blocksAt p.category p.balance := by
  simp [State.blockDue, State.blocksAt]

/-- The record that a found load makes of a patron that was not RESIDENT (R20, R21). -/
def State.freshRecord (v : State) (patron category balance : Nat) : Patron :=
  ⟨patron, category, min balance 999999, 0, v.blocksAt category (min balance 999999), [], [], v.today⟩

theorem State.blocksAt_congr (schedule : y.schedule = v.schedule) (category balance : Nat) :
    y.blocksAt category balance = v.blocksAt category balance := by
  unfold State.blocksAt
  rw [schedule]

theorem OnlyTags.freshRecord (h : OnlyTags v y) (patron category balance : Nat) :
    y.freshRecord patron category balance = v.freshRecord patron category balance := by
  unfold State.freshRecord State.today
  rw [State.blocksAt_congr h.schedule, h.calendar]

theorem clampedStatus_eq (c : Prop) [Decidable c] : clampedStatus (decide c) = if c then .clamped else .ok := by
  unfold clampedStatus
  by_cases h : c <;> simp [h]

/-- What is said of the BALANCE of a newly RESIDENT record (R20, R21). -/
def Greets (s t : State) (n : Notice) (balance : Nat) (blocked : Bool) : Prop :=
  (999999 < balance ∨ blocked = true → Reports s t n) ∧ (balance ≤ 999999 → blocked = false → SameBalances s t)

/-- A load leaves a newly RESIDENT record in a slot of y, by the rules of v, and reports it (R20, R21). -/
def LoadsFresh (s y v : State) (x : Crossing) (slot patron category balance : Nat) : Prop :=
  let kept := min balance 999999
  let blocked := v.blocksAt category kept
  LoadGives s x
    { y.tables with patrons := Tbl.store y.patrons slot (.resident (v.freshRecord patron category balance)) }
    (if 999999 < balance then .clamped else .ok) fun t =>
      Greets s t (.balance patron kept 0 blocked) balance blocked

/-- A found load that makes a record RESIDENT (R20, R21); the state y holds what the load acts on. -/
theorem Performs.load_fresh (h : Performs s op x (.patronLoad tag patron found category balance)) (room : 4 ≤ op.reservation)
    (clean : y.upsets = []) (same : SameQueue s y)
    (served : State.patronLoadWork (.patronLoad tag patron found category balance) s =
      y.newResident slot patron category balance) :
    LoadsFresh s y y x slot patron category balance := by
  generalize hp : (⟨patron, category, clampBalance balance, 0, false, [], [], y.today⟩ : Patron) = p
  have fresh : y.compares p = y.freshRecord patron category balance := by
    rw [State.compares, State.blockDue_eq, ← hp]
    rfl
  have due : y.blockDue p = y.blocksAt category (min balance 999999) := by
    rw [State.blockDue_eq, ← hp]
    rfl
  have tables : (y.loaded slot p).tables =
      { y.tables with patrons := Tbl.store y.patrons slot (.resident (y.freshRecord patron category balance)) } := by
    rw [← fresh]
    rfl
  have queue := same.loaded slot p
  rw [State.newResident_clean clean, hp, due, clampedStatus_eq] at served
  have enough : (y.loaded slot p).hasRoom 1 :=
    State.hasRoom_congr queue.engine (h.hasRoom (Nat.le_trans (by decide) room))
  by_cases greets : 999999 < balance ∨ y.blocksAt category (min balance 999999) = true
  · dsimp only at served
    rw [if_pos greets] at served
    have reports := State.postBalance_reports queue h.balanceOptional (y.loaded_patronAt slot p)
    rw [fresh] at reports
    refine h.load_gives served
      (State.postBalance_optional ((State.balanceIsOptional_congr queue.engine).trans h.balanceOptional) enough slot)
      ((State.postBalance_tables _ _).trans tables) fun t ends => ⟨fun _ => ends.reports reports rfl, fun fits free => ?_⟩
    rw [free] at greets
    exact absurd fits (Nat.not_le_of_lt (greets.resolve_right Bool.false_ne_true))
  · dsimp only at served
    rw [if_neg greets] at served
    exact h.load_gives served enough tables fun t ends =>
      ⟨fun should => absurd should greets, fun _ _ => queue.sameBalances.trans ends.noBalance.same⟩

end Sys2Proof.Machine
end

section
/-! PROOF. PATRON_LOAD by the state of the record (R20 to R22, R25). -/

namespace Sys2Proof.Machine

variable {s t v u : State} {op : Op} {x : Crossing} {tag : TagField} {patron found category balance slot : Nat} {p : Patron}

/-! ## A found load by the record (R20, R21, R25) -/

theorem State.patronFound_full (clean : v.upsets = []) (absent : v.findPatron patron = none)
    (full : v.slotForPatron = none) (category balance : Nat) :
    v.patronFound patron category balance = (v, .tableFull, []) := by
  unfold State.patronFound
  simp only [absent, State.readForSlot_clean clean, full]

theorem State.patronFound_absent (clean : v.upsets = []) (absent : v.findPatron patron = none)
    (free : v.slotForPatron = some slot) (category balance : Nat) :
    v.patronFound patron category balance = v.newResident slot patron category balance := by
  unfold State.patronFound
  simp only [absent, State.readForSlot_clean clean, free]

theorem State.patronFound_fetching {id day : Nat} {held : TagId} (clean : v.upsets = [])
    (known : v.findPatron patron = some slot) (here : Tbl.lookup v.patrons slot = some (.fetching id day held))
    (category balance : Nat) :
    v.patronFound patron category balance = (v.satisfyTag held).newResident slot patron category balance := by
  unfold State.patronFound
  simp only [known, here, State.readTagId_clean clean]

theorem State.patronFound_unknown {id day : Nat} (known : v.findPatron patron = some slot)
    (here : Tbl.lookup v.patrons slot = some (.unknown id day)) (category balance : Nat) :
    v.patronFound patron category balance = v.newResident slot patron category balance := by
  unfold State.patronFound
  simp only [known, here]

theorem State.patronFound_damaged {id : Nat} (known : v.findPatron patron = some slot)
    (here : Tbl.lookup v.patrons slot = some (.damaged id)) (category balance : Nat) :
    v.patronFound patron category balance = v.restorePatron slot patron category balance := by
  unfold State.patronFound
  simp only [known, here]

theorem State.patronFound_resident (known : v.findPatron patron = some slot) (resident : v.patronAt slot = some p)
    (category balance : Nat) : v.patronFound patron category balance = v.changeCategory slot category := by
  unfold State.patronFound
  simp only [known, State.patronAt_eq_some.mp resident]

/-! ## A not-found load by the record (R20, R22) -/

theorem State.patronNotFound_absent (absent : v.findPatron patron = none) (tagged : Bool) :
    v.patronNotFound patron tagged = (v, .ok, []) := by
  unfold State.patronNotFound
  simp only [absent]

theorem State.patronNotFound_fetching {id day : Nat} {held : TagId} (clean : v.upsets = [])
    (known : v.findPatron patron = some slot) (here : Tbl.lookup v.patrons slot = some (.fetching id day held))
    (tagged : Bool) :
    v.patronNotFound patron tagged =
      ((v.satisfyTag held).setPatron slot (.unknown patron (if tagged then day else v.today)), .ok, []) := by
  unfold State.patronNotFound
  simp only [known, here, State.readTagId_clean clean]

theorem State.patronNotFound_unknown {id day : Nat} (known : v.findPatron patron = some slot)
    (here : Tbl.lookup v.patrons slot = some (.unknown id day)) (tagged : Bool) :
    v.patronNotFound patron tagged = (v.setPatron slot (.unknown id v.today), .ok, []) := by
  unfold State.patronNotFound
  simp only [known, here, State.touchDay_unknown here]

theorem State.patronNotFound_resident (known : v.findPatron patron = some slot) (resident : v.patronAt slot = some p)
    (tagged : Bool) : v.patronNotFound patron tagged = (v, .wrongState, []) := by
  unfold State.patronNotFound
  simp only [known, State.patronAt_eq_some.mp resident]

theorem State.patronNotFound_damaged {id : Nat} (known : v.findPatron patron = some slot)
    (here : Tbl.lookup v.patrons slot = some (.damaged id)) (tagged : Bool) :
    v.patronNotFound patron tagged =
      if tagged then (v.setPatron slot (.unknown patron v.today), .ok, []) else (v, .wrongState, []) := by
  unfold State.patronNotFound
  simp only [known, here]

/-! ## The restored record (R25) and the category change (R21) -/

/-- The record that a restoration makes (R25). -/
def State.restoredRecord (v : State) (slot patron category balance : Nat) : Patron :=
  ⟨patron, category, max (min balance 999999) (v.reserves patron), v.reserves patron,
    v.blocksAt category (max (min balance 999999) (v.reserves patron)), v.loansOfSlot slot, v.holdsOfPatron patron, v.today⟩

theorem Performs.load_restored (h : Performs s op x (.patronLoad tag patron found category balance)) (room : 4 ≤ op.reservation)
    (clean : v.upsets = []) (same : SameQueue s v)
    (served : State.patronLoadWork (.patronLoad tag patron found category balance) s =
      v.restorePatron slot patron category balance) :
    LoadGives s x
      { v.tables with patrons := Tbl.store v.patrons slot (.resident (v.restoredRecord slot patron category balance)) }
      (if 999999 < balance ∨ min balance 999999 < v.reserves patron then .clamped else .ok) fun t =>
        Reports s t (v.restoredRecord slot patron category balance).balanceNotice := by
  generalize hp : (⟨patron, category, max (clampBalance balance) (v.reserves patron), v.reserves patron, false,
    v.loansOfSlot slot, v.holdsOfPatron patron, v.today⟩ : Patron) = p
  have restored : v.compares p = v.restoredRecord slot patron category balance := by
    rw [State.compares, State.blockDue_eq, ← hp]
    rfl
  have queue := same.loaded slot p
  have enough : (v.loaded slot p).hasRoom 1 :=
    State.hasRoom_congr queue.engine (h.hasRoom (Nat.le_trans (by decide) room))
  have reports := State.postBalance_reports queue h.balanceOptional (v.loaded_patronAt slot p)
  rw [State.restorePatron_clean clean, hp, ← Bool.decide_or, clampedStatus_eq] at served
  rw [restored] at reports
  refine h.load_gives served
    (State.postBalance_optional ((State.balanceIsOptional_congr queue.engine).trans h.balanceOptional) enough slot)
    ((State.postBalance_tables _ _).trans ?_) fun t ends => ends.reports reports rfl
  rw [← restored]
  rfl

/-- The record after a category change (R21). -/
def State.recategorized (v : State) (p : Patron) (category : Nat) : Patron :=
  { p with category := category, blocked := v.blocksAt category p.balance }

theorem Performs.load_category (h : Performs s op x (.patronLoad tag patron found category balance))
    (clean : u.upsets = []) (enough : u.hasRoom 1) (optional : u.balanceIsOptional = true) (resident : u.patronAt slot = some p)
    (served : State.patronLoadWork (.patronLoad tag patron found category balance) s = u.changeCategory slot category) :
    LoadGives s x { u.tables with patrons := Tbl.store u.patrons slot (.resident (u.recategorized p category)) } .ok fun t =>
      (u.blocksAt category p.balance ≠ p.blocked → Reports u t (u.recategorized p category).balanceNotice) ∧
        (u.blocksAt category p.balance = p.blocked → SameBalances u t) := by
  generalize hq : ({ p with category := category } : Patron) = q
  have changed : u.compares q = u.recategorized p category := by
    rw [State.compares, State.blockDue_eq, ← hq]
    rfl
  have due : u.blockDue q = u.blocksAt category p.balance := by
    rw [State.blockDue_eq, ← hq]
  have tables : (u.loaded slot q).tables =
      { u.tables with patrons := Tbl.store u.patrons slot (.resident (u.recategorized p category)) } := by
    rw [← changed]
    rfl
  have queue : SameQueue u (u.loaded slot q) := ⟨rfl, rfl⟩
  rw [State.changeCategory_clean clean resident, hq] at served
  dsimp only at served
  rw [due] at served
  by_cases still : u.blocksAt category p.balance = p.blocked
  · rw [if_pos still] at served
    exact h.load_gives served enough tables fun t ends =>
      ⟨fun moved => absurd still moved, fun _ => queue.sameBalances.trans ends.noBalance.same⟩
  · rw [if_neg still] at served
    have reports := State.postBalance_reports queue optional (u.loaded_patronAt slot q)
    rw [changed] at reports
    exact h.load_gives served (State.postBalance_optional (s := u.loaded slot q) optional enough slot)
      ((State.postBalance_tables _ _).trans tables) fun t ends =>
        ⟨fun _ => ends.reports reports rfl, fun same => absurd same still⟩

/-! ## The served patron -/

/-- What a load of a RESIDENT patron acts on. -/
structure LoadServes (u : State) (patron slot : Nat) : Prop where
  clean : u.upsets = []
  wf : Tbl.wf u.patrons = true
  known : u.findPatron patron = some slot
  room : u.hasRoom 1
  optional : u.balanceIsOptional = true

theorem Performs.loadServes (h : Performs s op x (.patronLoad tag patron found category balance))
    (room : 4 ≤ op.reservation) (tags : OnlyTags s v) (known : v.findPatron patron = some slot) :
    LoadServes (v.served slot) patron slot := by
  have wf : Tbl.wf v.patrons = true := by
    rw [tags.patrons]
    exact h.canon.1
  have busy : v.engine = .busy op := tags.engine.trans h.busy
  have optional : v.balanceIsOptional = true := (State.balanceIsOptional_congr tags.engine).trans h.balanceOptional
  have serves := (ServesOnly.refl tags.clean wf).served slot
  have works : Works Adjusts v (v.served slot) := (Works.refl.catchUp slot).touchDay slot
  obtain ⟨left, busyLeft, same⟩ := works.carries.op op busy
  refine ⟨serves.clean, serves.wf, (State.findPatron_of_ids serves.ids patron).trans known,
    State.served_room_optional tags.clean wf optional ⟨op, busy, h.noWait, Nat.le_trans (by decide) room⟩ slot, ?_⟩
  unfold State.balanceIsOptional State.op?
  simp [busyLeft, same.kind, h.kind]

end Sys2Proof.Machine
end

section
/-! PROOF. The statement on PATRON_LOAD. -/

namespace Sys2Proof.Machine

variable {s t v : State} {op : Op} {x : Crossing} {tag : TagField} {patron found category balance slot : Nat}

/-- A granted PATRON_LOAD whose fields and tag pass, and the state that it acts on. -/
structure LoadsOn (s : State) (op : Op) (x : Crossing) (tag : TagField) (patron found category balance : Nat) (v : State) :
    Prop where
  performs : Performs s op x (.patronLoad tag patron found category balance)
  room : 4 ≤ op.reservation
  tags : OnlyTags s v
  work : State.patronLoadWork (.patronLoad tag patron found category balance) s =
    v.loadPatron patron found category balance tag.present

namespace LoadsOn

variable (h : LoadsOn s op x tag patron found category balance v)
include h

/-- A found load of a patron that is not RESIDENT. -/
theorem found_work (other : ∀ n, v.findPatron patron = some n → v.patronAt n = none) (isFound : found ≠ 0) :
    State.patronLoadWork (.patronLoad tag patron found category balance) s = v.patronFound patron category balance := by
  rw [h.work, State.loadPatron_other h.tags.clean other, if_neg isFound]

theorem notFound_work (other : ∀ n, v.findPatron patron = some n → v.patronAt n = none) (notFound : found = 0) :
    State.patronLoadWork (.patronLoad tag patron found category balance) s = v.patronNotFound patron tag.present := by
  rw [h.work, State.loadPatron_other h.tags.clean other, if_pos notFound]

theorem wf : Tbl.wf v.patrons = true := by
  rw [h.tags.patrons]
  exact h.performs.canon.1

/-- A record written without a BALANCE. -/
theorem writes_quiet {y : State} {r : PatronRec} {status : Status} (tags : OnlyTags s y)
    (served : State.patronLoadWork (.patronLoad tag patron found category balance) s = (y.setPatron slot r, status, [])) :
    LoadGives s x { y.tables with patrons := Tbl.store y.patrons slot r } status (SameBalances s) :=
  h.performs.load_quiet h.room served ⟨tags.engine, tags.link⟩ rfl

/-! ## By the record -/

theorem absent (none_ : v.findPatron patron = none) :
    (found = 0 → LoadGives s x v.tables .ok (SameBalances s)) ∧
      (found ≠ 0 → v.slotForPatron = none → LoadGives s x v.tables .tableFull (SameBalances s)) ∧
      ∀ slot, found ≠ 0 → v.slotForPatron = some slot →
        LoadsFresh s v v x slot patron category balance := by
  have other : ∀ n, v.findPatron patron = some n → v.patronAt n = none := fun n known => by
    rw [none_] at known
    cases known
  refine ⟨fun notFound => ?_, fun isFound full => ?_, fun slot isFound free => ?_⟩
  · exact h.performs.load_quiet h.room ((h.notFound_work other notFound).trans (State.patronNotFound_absent none_ _))
      h.tags.sameQueue rfl
  · exact h.performs.load_quiet h.room
      ((h.found_work other isFound).trans (State.patronFound_full h.tags.clean none_ full category balance)) h.tags.sameQueue rfl
  · exact h.performs.load_fresh h.room h.tags.clean h.tags.sameQueue
      ((h.found_work other isFound).trans (State.patronFound_absent h.tags.clean none_ free category balance))

theorem fetching {id day : Nat} {held : TagId} (known : v.findPatron patron = some slot)
    (here : Tbl.lookup v.patrons slot = some (.fetching id day held)) :
    (found = 0 →
        LoadGives s x
          { (v.satisfyTag held).tables with
            patrons := Tbl.store (v.satisfyTag held).patrons slot (.unknown patron (if tag.present then day else v.today)) }
          .ok (SameBalances s)) ∧
      (found ≠ 0 → LoadsFresh s (v.satisfyTag held) v x slot patron category balance) := by
  have other := State.patronAt_none_of_found known here (by simp)
  have satisfied := OnlyTags.satisfyTag h.tags.clean held
  have tags := h.tags.trans satisfied
  refine ⟨fun notFound => h.writes_quiet tags
    ((h.notFound_work other notFound).trans (State.patronNotFound_fetching h.tags.clean known here _)), fun isFound => ?_⟩
  have gives := h.performs.load_fresh h.room satisfied.clean tags.sameQueue
    ((h.found_work other isFound).trans (State.patronFound_fetching h.tags.clean known here category balance))
  unfold LoadsFresh at gives ⊢
  dsimp only at gives ⊢
  rwa [satisfied.freshRecord, State.blocksAt_congr satisfied.schedule] at gives

theorem unknown {id day : Nat} (known : v.findPatron patron = some slot)
    (here : Tbl.lookup v.patrons slot = some (.unknown id day)) :
    (found = 0 →
        LoadGives s x { v.tables with patrons := Tbl.store v.patrons slot (.unknown patron v.today) } .ok (SameBalances s)) ∧
      (found ≠ 0 → LoadsFresh s v v x slot patron category balance) := by
  have other := State.patronAt_none_of_found known here (by simp)
  obtain ⟨r, there, named⟩ := State.findPatron_spec h.wf known
  obtain rfl : id = patron := by
    rw [here] at there
    cases there
    exact named
  exact ⟨fun notFound => h.writes_quiet h.tags
      ((h.notFound_work other notFound).trans (State.patronNotFound_unknown known here _)),
    fun isFound => h.performs.load_fresh h.room h.tags.clean h.tags.sameQueue
      ((h.found_work other isFound).trans (State.patronFound_unknown known here category balance))⟩

theorem resident {u : State} {p : Patron} (known : v.findPatron patron = some slot)
    (isResident : (v.patronAt slot).isSome = true) (after : u = v.served slot) (own : u.patronAt slot = some p) :
    (found = 0 → LoadGives s x u.tables .wrongState (SameBalances u)) ∧
      (found ≠ 0 →
        LoadGives s x
          { u.tables with
            patrons := Tbl.store u.patrons slot
              (.resident { p with category := category, blocked := v.blocksAt category p.balance }) }
          .ok fun t =>
            (v.blocksAt category p.balance ≠ p.blocked →
              Reports u t (.balance patron p.balance p.pending (v.blocksAt category p.balance))) ∧
            (v.blocksAt category p.balance = p.blocked → SameBalances u t)) := by
  subst after
  have serves := h.performs.loadServes h.room h.tags known
  have schedule : (v.served slot).schedule = v.schedule := ((ServesOnly.refl h.tags.clean h.wf).served slot).schedule
  have work := h.work.trans (State.loadPatron_resident h.tags.clean known isResident found category balance tag.present)
  obtain rfl : p.id = patron := State.findPatron_resident serves.wf serves.known own
  refine ⟨fun notFound => ?_, fun isFound => ?_⟩
  · rw [if_pos notFound, State.patronNotFound_resident serves.known own] at work
    exact h.performs.load_gives work serves.room rfl fun t ends => ends.noBalance.same
  · rw [if_neg isFound, State.patronFound_resident serves.known own] at work
    have gives := h.performs.load_category serves.clean serves.room serves.optional own work
    rw [State.recategorized, State.blocksAt_congr schedule] at gives
    exact gives

theorem damaged {id : Nat} (known : v.findPatron patron = some slot)
    (here : Tbl.lookup v.patrons slot = some (.damaged id)) :
    (found = 0 → tag.present = false → LoadGives s x v.tables .wrongState (SameBalances s)) ∧
      (found = 0 → tag.present = true →
        LoadGives s x { v.tables with patrons := Tbl.store v.patrons slot (.unknown patron v.today) } .ok (SameBalances s)) ∧
      (found ≠ 0 →
        LoadGives s x
          { v.tables with patrons := Tbl.store v.patrons slot (.resident (v.restoredRecord slot patron category balance)) }
          (if 999999 < balance ∨ min balance 999999 < v.reserves patron then .clamped else .ok) fun t =>
            Reports s t (v.restoredRecord slot patron category balance).balanceNotice) := by
  have other := State.patronAt_none_of_found known here (by simp)
  have work (notFound : found = 0) :=
    (h.notFound_work other notFound).trans (State.patronNotFound_damaged known here tag.present)
  refine ⟨fun notFound untagged => ?_, fun notFound tagged => ?_, fun isFound => ?_⟩
  · have served := work notFound
    rw [if_neg (by simp [untagged])] at served
    exact h.performs.load_quiet h.room served h.tags.sameQueue rfl
  · have served := work notFound
    rw [if_pos tagged] at served
    exact h.writes_quiet h.tags served
  · exact h.performs.load_restored h.room h.tags.clean h.tags.sameQueue
      ((h.found_work other isFound).trans (State.patronFound_damaged known here category balance))

end LoadsOn

/-- A tagged load whose tag matches nothing (R149). -/
theorem Performs.load_stale (h : Performs s op x (.patronLoad tag patron found category balance)) (room : 4 ≤ op.reservation)
    (ok : ¬ badLoad patron found category) (stale : s.loadBase tag .patronFetch patron = none) :
    ∃ t, exec (.patronLoad x) s = .next t ∧ t.tables = s.tables ∧ t.faults.has .staleReply = true ∧ SameBalances s t ∧
      Confirms s t 3 .staleTag [] := by
  have served := State.patronLoadWork_stale h.noErr ok stale balance
  have enough : (s.logStaleReply tag patron 0).hasRoom 1 :=
    State.hasRoom_congr (s.logFault_onlyLogs _ _ _).engine (h.hasRoom (Nat.le_trans (by decide) room))
  have logged : (s.logStaleReply tag patron 0).faults.has .staleReply = true := (s.logFault_has _ _ _ _).mpr (.inr rfl)
  have silent : PostsNoBalance s (s.logStaleReply tag patron 0) := .logFault s _ _ _
  obtain ⟨t, next, tables, ⟨held, same⟩, confirms⟩ := h.load_gives (u := s.tables)
    (posted := fun t => t.faults.has .staleReply = true ∧ SameBalances s t) served enough (s.logFault_tables _ _ _)
    fun t ends => ⟨ends.noBalance.logged _ logged, (silent.trans ends.noBalance).same⟩
  exact ⟨t, next, tables, held, same, confirms⟩

/-- Settles O34: the record that the load meets decides what it writes and which BALANCE it reports. -/
theorem patronLoadActsByTheRecord : Obligations.PatronLoadActsByTheRecord := by
  intro s op x tag patron found category balance h room
  refine ⟨fun bad => ?_, fun ok stale => h.load_stale room ok stale, fun v ok base => ?_⟩
  · exact h.load_quiet room (State.patronLoadWork_malformed bad tag balance s) ⟨rfl, rfl⟩ rfl
  · have on : LoadsOn s op x tag patron found category balance v :=
      ⟨h, room, State.loadBase_onlyTags h.noErr base, State.patronLoadWork_base h.noErr ok base balance⟩
    exact ⟨on.absent, fun slot known => ⟨fun id day held here => on.fetching known here,
      fun id day here => on.unknown known here, fun u p isResident after own => on.resident known isResident after own,
      fun id here => on.damaged known here⟩⟩

end Sys2Proof.Machine
end

section
/-! PROOF. The open-day search (R37, R43). -/

namespace Sys2Proof.Machine

/-- The one closed case of R37, spelled out. -/
theorem Calendar.isClosed_iff (c : Calendar) (d : Nat) :
    c.isClosed d = true ↔
      Tbl.lookup c.marks d = some .closed ∧ c.closeDay ≤ d + 31 ∧ d ≤ c.closeDay + 64 ∧ d ≤ 65534 := by
  unfold Calendar.isClosed
  rw [Bool.and_eq_true, decide_eq_true_iff, Calendar.inWindow_iff, and_comm]

theorem Calendar.scan_of_open {c : Calendar} {d : Nat} (isOpen : c.isClosed d = false) (fuel : Nat) :
    c.scan fuel d = d := by
  cases fuel with
  | zero => rfl
  | succ fuel => simp [Calendar.scan, isOpen]

theorem Calendar.scan_of_closed {c : Calendar} {d : Nat} (closed : c.isClosed d = true) (fuel : Nat) :
    c.scan (fuel + 1) d = c.scan fuel (d + 1) := by
  simp [Calendar.scan, closed]

/-- The scan passes over closed days only, and stops at an open day or when its fuel is used up. -/
theorem Calendar.scan_spec (c : Calendar) (fuel d : Nat) :
    d ≤ c.scan fuel d ∧ (∀ k, d ≤ k → k < c.scan fuel d → c.isClosed k = true) ∧
      (c.isClosed (c.scan fuel d) = false ∨ c.scan fuel d = d + fuel) := by
  induction fuel generalizing d with
  | zero => exact ⟨Nat.le_refl d, fun k above below => absurd below (Nat.not_lt.mpr above), .inr rfl⟩
  | succ fuel ih =>
    cases closed : c.isClosed d with
    | false =>
      rw [Calendar.scan_of_open closed]
      exact ⟨Nat.le_refl d, fun k above below => absurd below (Nat.not_lt.mpr above), .inl closed⟩
    | true =>
      obtain ⟨after, passed, stops⟩ := ih (d + 1)
      rw [Calendar.scan_of_closed closed]
      refine ⟨by omega, fun k above below => ?_, stops.imp id fun used => by omega⟩
      rcases Nat.eq_or_lt_of_le above with rfl | above
      · exact closed
      · exact passed k above below

/-- The window's 96 days are fuel enough: the day that a full scan finds is open. -/
theorem Calendar.scan_window_open (c : Calendar) (b : Nat) : c.isClosed (c.scan 96 b) = false := by
  obtain ⟨-, passed, stops⟩ := c.scan_spec 96 b
  refine stops.elim id fun used => ?_
  by_contra closed
  have first := (c.isClosed_iff b).mp (passed b (Nat.le_refl b) (by omega))
  have last := (c.isClosed_iff _).mp (Bool.eq_true_of_not_eq_false closed)
  omega

theorem Calendar.scan_window_le (c : Calendar) (b : Nat) : c.scan 96 b ≤ max b (c.closeDay + 65) := by
  obtain ⟨-, passed, -⟩ := c.scan_spec 96 b
  by_contra above
  have last := (c.isClosed_iff _).mp (passed (c.scan 96 b - 1) (by omega) (by omega))
  omega

/-! ## R43's two branches -/

theorem Calendar.openDay_above {c : Calendar} {b : Nat} (above : 65534 < b) : c.openDay b = 65534 := if_pos above

theorem Calendar.openDay_scan {c : Calendar} {b : Nat} (valid : b ≤ 65534) : c.openDay b = min (c.scan 96 b) 65534 :=
  (if_neg (Nat.not_lt.mpr valid)).trans (Nat.min_comm _ _)

/-- Settles O28: a scan of the window's days finds the first open day from the base on. -/
theorem openDaySearchFindsTheFirstOpenDay : Obligations.OpenDaySearchFindsTheFirstOpenDay := by
  intro c b
  refine ⟨Calendar.openDay_above, fun below valid => ?_, fun valid => ?_⟩
  · have isOpen : c.isClosed b = false := by
      by_contra closed
      have inside := (c.isClosed_iff b).mp (Bool.eq_true_of_not_eq_false closed)
      omega
    rw [Calendar.openDay_scan valid, Calendar.scan_of_open isOpen, Nat.min_eq_left valid]
  · obtain ⟨start, passed, -⟩ := c.scan_spec 96 b
    exact ⟨c.scan 96 b, start, c.scan_window_le b, Calendar.openDay_scan valid,
      fun k above before => (c.isClosed_iff k).mp (passed k above before),
      fun closed => Bool.eq_false_iff.mp (c.scan_window_open b) ((c.isClosed_iff _).mpr closed)⟩

end Sys2Proof.Machine
end

section
/-! PROOF. A message whose work writes tables only, and DAY_CLOSE (R40 to R42, R130, R141). -/

namespace Sys2Proof.Machine

variable {s t w : State} {op : Op} {x : Crossing} {m : Message}

/-! ## A message that posts its CONFIRM only -/

theorem State.tables_eq_iff :
    t.tables = w.tables ↔ t.patrons = w.patrons ∧ t.loans = w.loans ∧ t.titles = w.titles ∧ t.pool = w.pool ∧
      t.calendar = w.calendar ∧ t.schedule = w.schedule ∧ t.sweep = w.sweep ∧ t.tags = w.tags ∧ t.tagLine = w.tagLine := by
  simp only [State.tables, Tables.mk.injEq]

/-- t is what the row of a message leaves of w, the state of its work, when its CONFIRM is the only post. -/
structure EndsWithConfirm (s w t : State) (x : Crossing) (kind : Nat) (status : Status) (fields : List CField) : Prop where
  tables : t.tables = w.tables
  confirms : Confirms s t kind status fields
  only : x.claims = [] → t.link.outbound = s.link.outbound ++ [.confirm s.headSeq kind status fields]

/-- A granted message whose work writes tables only: they stand, and its CONFIRM is posted and nothing else. -/
theorem Performs.tables_row {row : Crossing → Instr} {work : Message → State → Confirmed} {status : Status}
    {fields : List CField} (h : Performs s op x m) (room : 1 ≤ op.reservation)
    (performs : exec (row x) s = State.message (OpKind.isMessage m.kind) work x s)
    (served : work m s = (w, status, fields)) (onlyTables : SameButTables s w) :
    ∃ t, exec (row x) s = .next t ∧ EndsWithConfirm s w t x m.kind status fields := by
  have named : op.message = some m := by simp [Op.message, h.kind]
  have headSeq : w.headSeq = s.headSeq := by
    unfold State.headSeq
    rw [onlyTables.link]
  have posted := State.post_reserved (n := .confirm s.headSeq m.kind status fields) (onlyTables.engine.trans h.busy)
    h.noWait room fun _ => rfl
  have e : exec (row x) s =
      .next ((w.post (.confirm s.headSeq m.kind status fields)).complete x.claims).startSending := by
    rw [performs]
    unfold State.message
    rw [State.command_perform h.noReset h.busy (by simp [h.kind, OpKind.isMessage]), h.crossed]
    simp only [named, State.confirm, served, headSeq]
  rw [posted, onlyTables.link, State.complete_done (op := { op with reservation := op.reservation - 1 }) rfl h.noWait] at e
  refine ⟨_, e, State.finishOp_tables _ _ _, State.finishOp_confirms (by simp) _ _, fun unclaimed => ?_⟩
  rw [unclaimed]
  exact State.finishOp_outbound _ _

/-! ## The new close day -/

/-- A filter on the slots frees those that it drops and keeps the others. -/
theorem Tbl.lookup_filterSlots {α : Type} (t : Tbl α) (p : Nat → Bool) (k : Nat) :
    Tbl.lookup (t.filter fun e => p e.1) k = if p k then Tbl.lookup t k else none := by
  induction t with
  | nil => simp [Tbl.lookup]
  | cons e t ih =>
    obtain ⟨n, v⟩ := e
    by_cases here : n = k
    · subst here
      cases kept : p n <;> simp [Tbl.lookup, kept, ih]
    · cases kept : p n <;> simp [Tbl.lookup, kept, here, ih]

/-- The marks inside the new window stay, the others go (R41). -/
theorem Calendar.advance_lookup (c : Calendar) (day k : Nat) :
    Tbl.lookup (c.advance day).marks k =
      if day ≤ k + 31 ∧ k ≤ day + 64 ∧ k ≤ 65534 then Tbl.lookup c.marks k else none := by
  unfold Calendar.advance
  rw [Tbl.lookup_filterSlots]
  exact if_congr (Calendar.inWindow_iff _ k) rfl rfl

/-- Above the old window every day is UNKNOWN (R41). -/
theorem Calendar.advance_unmarked {c : Calendar} (within : c.withinWindow) (day : Nat) {k : Nat}
    (above : c.closeDay + 64 < k) : Tbl.lookup (c.advance day).marks k = none := by
  rw [Calendar.advance_lookup, within.unmarked (.inr (.inl above)), ite_self]

/-- A sweep starts, or restarts with its summary (R42, R130, R141). -/
theorem Sweep.close_eq (w : Sweep) (day : Nat) :
    w.close day = { w with
      state := .loans, phase := .evaluating, cursor := 0, target := day, complete := false,
      current :=
        if w.state = .idle then { Summary.zero with closeDay := day }
        else { w.current with closeDay := day, restarts := min 65535 (w.current.restarts + 1) } } := by
  unfold Sweep.close
  split
  next idle => rw [if_pos idle]
  next busy => rw [if_neg busy, saturate16]

/-! ## The statement -/

theorem State.dayCloseWork_stale {given : Nat} (stale : min given 65534 ≤ s.calendar.closeDay) :
    State.dayCloseWork (.dayClose given) s = (s, .stale, [⟨2, s.calendar.closeDay⟩, ⟨2, 0⟩]) := if_pos stale

theorem State.dayCloseWork_later {given : Nat} (later : s.calendar.closeDay < min given 65534) :
    State.dayCloseWork (.dayClose given) s =
      ({ s with calendar := s.calendar.advance (min given 65534), sweep := s.sweep.close (min given 65534) },
        if 65534 < given then .clamped else .ok,
        [⟨2, min given 65534⟩, ⟨2, min given 65534 - s.calendar.closeDay⟩]) := by
  rw [← clampedStatus_eq]
  exact if_neg (Nat.not_le.mpr later)

/-- Settles O29: the day as clamped is stale, or moves the calendar and hands the sweep its new target. -/
theorem dayCloseAdvancesOrIsStale : Obligations.DayCloseAdvancesOrIsStale := by
  intro s op x given h room
  have need : s.noticeNeed op.kind = 4 := by
    rw [h.kind]
    exact State.noticeNeed_message (m := .dayClose given) nofun s 6
  refine ⟨need, ?_⟩
  rcases Nat.lt_or_ge s.calendar.closeDay (min given 65534) with later | stale
  · obtain ⟨t, next, ends⟩ := h.tables_row (row := .dayClose) room rfl (State.dayCloseWork_later later) rfl
    obtain ⟨patrons, loans, titles, pool, calendar, schedule, sweep, tags, tagLine⟩ := State.tables_eq_iff.mp ends.tables
    refine ⟨t, next, patrons, loans, titles, pool, schedule, tags, tagLine,
      fun stale => absurd later (Nat.not_lt.mpr stale), fun _ => ?_⟩
    obtain ⟨-, -, -, -, -, within⟩ := h.canon
    rw [calendar, sweep]
    exact ⟨rfl, s.calendar.advance_lookup _, fun k above => Calendar.advance_unmarked within _ above,
      s.sweep.close_eq _, ends.confirms, ends.only⟩
  · obtain ⟨t, next, ends⟩ := h.tables_row (row := .dayClose) room rfl (State.dayCloseWork_stale stale) rfl
    obtain ⟨patrons, loans, titles, pool, calendar, schedule, sweep, tags, tagLine⟩ := State.tables_eq_iff.mp ends.tables
    exact ⟨t, next, patrons, loans, titles, pool, schedule, tags, tagLine,
      fun _ => ⟨calendar, sweep, ends.confirms, ends.only⟩, fun later => absurd stale (Nat.not_le.mpr later)⟩

end Sys2Proof.Machine
end

section
/-! PROOF. CALENDAR (R36, R38). -/

namespace Sys2Proof.Machine

variable {s t : State} {first count : Nat} {values : List Nat}

/-! ## The marks that the values name (R193) -/

/-- The mark of a value that is 0 or 1. -/
def markNamed (v : Nat) : Mark := if v = 0 then .open_ else .closed

theorem markOf_known {v : Nat} (known : v ≤ 1) : markOf v = some (markNamed v) := by
  match v, known with
  | 0, _ => rfl
  | 1, _ => rfl

theorem markOf_unknown {v : Nat} (unknown : 1 < v) : markOf v = none := by
  match v, unknown with
  | _ + 2, _ => rfl

theorem mapM_markOf_known (known : ∀ v ∈ values, v ≤ 1) : values.mapM markOf = some (values.map markNamed) := by
  induction values with
  | nil => rfl
  | cons v vs ih =>
    obtain ⟨head, rest⟩ := List.forall_mem_cons.mp known
    simp [List.mapM_cons, markOf_known head, ih rest]

theorem mapM_markOf_unknown (unknown : ∃ v ∈ values, 1 < v) : values.mapM markOf = none := by
  induction values with
  | nil => simp at unknown
  | cons v vs ih =>
    rcases List.or_exists_of_exists_mem_cons unknown with head | rest
    · simp [List.mapM_cons, markOf_unknown head]
    · cases here : markOf v <;> simp [List.mapM_cons, here, ih rest]

/-- The mark that the list gives to a day at a place of it. -/
theorem markNamed_getElem? {i : Nat} (inside : i < values.length) :
    (values.map markNamed)[i]? = if values[i]? = some 0 then some .open_ else some .closed := by
  rw [List.getElem?_map, List.getElem?_eq_getElem inside, Option.map_some, markNamed]
  simp only [Option.some.injEq]
  split <;> rfl

/-! ## Setting the marks in order (R38) -/

theorem Calendar.setMarks_inside {c : Calendar} {day : Nat} (inside : c.inWindow day = true) (m : Mark) (ms : List Mark) :
    c.setMarks day (m :: ms) =
      (({ c with marks := Tbl.store c.marks day m }.setMarks (day + 1) ms).1,
        ({ c with marks := Tbl.store c.marks day m }.setMarks (day + 1) ms).2 + 1) := if_pos inside

theorem Calendar.setMarks_outside {c : Calendar} {day : Nat} (outside : c.inWindow day = false) (m : Mark)
    (ms : List Mark) : c.setMarks day (m :: ms) = c.setMarks (day + 1) ms :=
  if_neg (Bool.eq_false_iff.mp outside)

/-- The window does not depend on the marks. -/
theorem Calendar.inWindow_store (c : Calendar) (day : Nat) (m : Mark) (k : Nat) :
    Calendar.inWindow { c with marks := Tbl.store c.marks day m } k = c.inWindow k := rfl

theorem Calendar.setMarks_closeDay (c : Calendar) (day : Nat) (ms : List Mark) :
    (c.setMarks day ms).1.closeDay = c.closeDay := by
  induction ms generalizing c day with
  | nil => rfl
  | cons m ms ih =>
    cases inside : c.inWindow day with
    | true =>
      rw [Calendar.setMarks_inside inside]
      exact ih _ _
    | false =>
      rw [Calendar.setMarks_outside inside]
      exact ih _ _

/-- A listed day inside the window takes its own mark; every other day keeps what it had. -/
theorem Calendar.setMarks_lookup (c : Calendar) (day : Nat) (ms : List Mark) (k : Nat) :
    Tbl.lookup (c.setMarks day ms).1.marks k =
      if day ≤ k ∧ k < day + ms.length ∧ c.inWindow k = true then ms[k - day]? else Tbl.lookup c.marks k := by
  induction ms generalizing c day with
  | nil => exact (if_neg (by simp; omega)).symm
  | cons m ms ih =>
    have tail (later : k ≠ day) :
        (if day + 1 ≤ k ∧ k < day + 1 + ms.length ∧ c.inWindow k = true then ms[k - (day + 1)]? else Tbl.lookup c.marks k) =
          if day ≤ k ∧ k < day + (m :: ms).length ∧ c.inWindow k = true then (m :: ms)[k - day]?
          else Tbl.lookup c.marks k := by
      refine ite_congr (propext ?_) (fun listed => ?_) fun _ => rfl
      · rw [List.length_cons, show day + 1 ≤ k ↔ day ≤ k by omega, Nat.add_right_comm day 1, Nat.add_assoc day]
      · rw [show k - day = k - (day + 1) + 1 by omega, List.getElem?_cons_succ]
    cases inside : c.inWindow day with
    | true =>
      rw [Calendar.setMarks_inside inside, ih, Calendar.inWindow_store]
      by_cases here : k = day
      · subst here
        simp [inside]
      · rw [Tbl.lookup_store_ne _ _ _ _ here, tail here]
    | false =>
      rw [Calendar.setMarks_outside inside, ih]
      by_cases here : k = day
      · subst here
        simp [inside]
      · exact tail here

/-- The count of the days set. -/
theorem Calendar.setMarks_count (c : Calendar) (day : Nat) (ms : List Mark) :
    (c.setMarks day ms).2 = ((List.range ms.length).filter fun i => c.inWindow (day + i)).length := by
  induction ms generalizing c day with
  | nil => rfl
  | cons m ms ih =>
    have later : ((List.range ms.length).map Nat.succ).filter (fun i => c.inWindow (day + i)) =
        ((List.range ms.length).filter fun i => c.inWindow (day + 1 + i)).map Nat.succ := by
      simp only [List.filter_map, Function.comp_def, Nat.succ_eq_add_one, Nat.add_right_comm day 1, Nat.add_assoc]
    rw [List.length_cons, List.range_succ_eq_map, List.filter_cons, Nat.add_zero, later]
    cases inside : c.inWindow day with
    | true =>
      rw [Calendar.setMarks_inside inside, if_pos rfl, List.length_cons, List.length_map, ih]
      rfl
    | false => rw [Calendar.setMarks_outside inside, if_neg Bool.false_ne_true, List.length_map, ih]

/-! ## The statement -/

/-- A CALENDAR's count or values are malformed (R38). -/
def badCalendar (count : Nat) (values : List Nat) : Prop :=
  count = 0 ∨ 64 < count ∨ values.length ≠ count ∨ ∃ v ∈ values, 1 < v

theorem not_badCalendar_iff :
    ¬ badCalendar count values ↔ 1 ≤ count ∧ count ≤ 64 ∧ values.length = count ∧ ∀ v ∈ values, v ≤ 1 := by
  unfold badCalendar
  push Not
  rw [Nat.one_le_iff_ne_zero]

theorem State.calendarWork_malformed (bad : badCalendar count values) (first : Nat) (s : State) :
    State.calendarWork (.calendar first count values) s = (s, .badMessage, []) := by
  unfold State.calendarWork
  dsimp only
  split
  · rfl
  next counted =>
    rcases bad with zero | many | other | unknown
    · exact absurd (.inl zero) counted
    · exact absurd (.inr (.inl many)) counted
    · exact absurd (.inr (.inr other)) counted
    · rw [mapM_markOf_unknown unknown]
      rfl

theorem State.calendarWork_sets (low : 1 ≤ count) (high : count ≤ 64) (counted : values.length = count)
    (known : ∀ v ∈ values, v ≤ 1) (first : Nat) (s : State) :
    State.calendarWork (.calendar first count values) s =
      ({ s with calendar := (s.calendar.setMarks first (values.map markNamed)).1 },
        if (s.calendar.setMarks first (values.map markNamed)).2 = count then .ok else .clipped,
        [⟨1, (s.calendar.setMarks first (values.map markNamed)).2⟩,
          ⟨1, count - (s.calendar.setMarks first (values.map markNamed)).2⟩]) := by
  unfold State.calendarWork
  dsimp only
  rw [if_neg (by omega), mapM_markOf_known known]

/-- Settles O30: a malformed list is refused, a good one sets its days inside the window. -/
theorem calendarSetsTheDaysInsideTheWindow : Obligations.CalendarSetsTheDaysInsideTheWindow := by
  intro s op x first count values h room
  by_cases bad : badCalendar count values
  · obtain ⟨t, next, ends⟩ := h.tables_row (row := .calendar) room rfl (State.calendarWork_malformed bad first s) rfl
    obtain ⟨patrons, loans, titles, pool, calendar, schedule, sweep, tags, tagLine⟩ := State.tables_eq_iff.mp ends.tables
    exact ⟨t, next, patrons, loans, titles, pool, schedule, sweep, tags, tagLine, congrArg _ calendar,
      fun _ => ⟨calendar, ends.confirms⟩,
      fun low high counted known => absurd bad (not_badCalendar_iff.mpr ⟨low, high, counted, known⟩)⟩
  · obtain ⟨low, high, counted, known⟩ := not_badCalendar_iff.mp bad
    obtain ⟨t, next, ends⟩ := h.tables_row (row := .calendar) room rfl
      (State.calendarWork_sets low high counted known first s) rfl
    obtain ⟨patrons, loans, titles, pool, calendar, schedule, sweep, tags, tagLine⟩ := State.tables_eq_iff.mp ends.tables
    have set : (s.calendar.setMarks first (values.map markNamed)).2 =
        ((List.range count).filter fun i => s.calendar.inWindow (first + i)).length := by
      rw [Calendar.setMarks_count, List.length_map, counted]
    rw [set] at ends
    refine ⟨t, next, patrons, loans, titles, pool, schedule, sweep, tags, tagLine, ?_, fun malformed => absurd malformed bad,
      fun _ _ _ _ => ⟨fun k => ?_, ends.confirms, ends.only⟩⟩
    · rw [calendar]
      exact Calendar.setMarks_closeDay _ _ _
    · rw [calendar, Calendar.setMarks_lookup, List.length_map, counted]
      exact ite_congr rfl (fun ⟨_, _, _⟩ => markNamed_getElem? (by omega)) fun _ => rfl

end Sys2Proof.Machine
end

section
/-! PROOF. SCHEDULE (R47, R48, R50, R51). -/

namespace Sys2Proof.Machine

variable {s t : State} {op : Op} {x : Crossing} {target number : Nat} {values stored : List Nat} {y : Schedule}

/-! ## The values in range (R47, R48, R51) -/

theorem intoRange_eq (low high v : Nat) : intoRange (low, high) v = max low (min v high) := by
  rw [intoRange, Nat.min_comm]

theorem intoRange_zero (high v : Nat) : intoRange (0, high) v = min v high := by
  rw [intoRange_eq, Nat.zero_max]

theorem rangesOf_length (target : Nat) :
    (rangesOf target).length = if target = 0 then 7 else if target = 1 then 3 else 2 := by
  match target with
  | 0 => rfl
  | 1 => rfl
  | _ + 2 => rfl

theorem intoRange_class (a b c d e f g : Nat) :
    List.zipWith intoRange (rangesOf 0) [a, b, c, d, e, f, g] =
      [min a 500, min b 7, min c 50000, max 1 (min d 90), min e 15, min f 30, min g 15] := by
  simp only [rangesOf, classRanges, List.zipWith, intoRange_zero, intoRange_eq 1]

theorem intoRange_category (a b c : Nat) :
    List.zipWith intoRange (rangesOf 1) [a, b, c] = [min a 200, min b 999999, min c 32] := by
  simp only [rangesOf, categoryRanges, List.zipWith, intoRange_zero]

theorem intoRange_global (a b : Nat) :
    List.zipWith intoRange (rangesOf 2) [a, b] = [max 1 (min a 14), max 5 (min b 60)] := by
  simp only [rangesOf, globalRanges, List.zipWith, intoRange_eq]

/-- The count of the values that a SCHEDULE clamps. -/
def clampedCount (stored values : List Nat) : Nat := ((stored.zip values).filter fun e => e.1 != e.2).length

theorem count_changed (stored values : List Nat) :
    (List.zipWith (fun a b => decide (a ≠ b)) stored values).count true = clampedCount stored values := by
  unfold clampedCount
  rw [← List.map_uncurry_zip_eq_zipWith, List.count, List.countP_map, List.countP_eq_length_filter]
  congr 2
  funext ⟨a, b⟩
  simp [bne, Bool.beq_eq_decide_eq]

/-! ## The set stored (R50, R51) -/

theorem Schedule.put_class (u : Schedule) (n : Fin 8) (a b c d e f g : Nat) :
    u.put 0 n [a, b, c, d, e, f, g] = some { u with classes := u.classes.set n ⟨a, b, c, d, e, f, g⟩ n.isLt } :=
  dif_pos n.isLt

theorem Schedule.put_category (u : Schedule) (n : Fin 8) (a b c : Nat) :
    u.put 1 n [a, b, c] = some { u with categories := u.categories.set n ⟨a, b, c⟩ n.isLt } :=
  dif_pos n.isLt

theorem Schedule.put_global (u : Schedule) (a b : Nat) : u.put 2 0 [a, b] = some { u with globals := ⟨a, b⟩ } := rfl

/-- No set has this target (R50). -/
def noSuchSet (target number : Nat) : Prop :=
  2 < target ∨ (target < 2 ∧ 7 < number) ∨ (target = 2 ∧ number ≠ 0)

theorem Schedule.put_noSuchSet (missing : noSuchSet target number) (u : Schedule) (values : List Nat) :
    u.put target number values = none := by
  unfold noSuchSet at missing
  unfold Schedule.put
  split
  · exact dif_neg (by omega)
  · exact dif_neg (by omega)
  · exact if_neg (by omega)
  · rfl

theorem vector_get_set {α : Type} {size : Nat} (v : Vector α size) (n : Fin size) (a : α) :
    (v.set n a n.isLt).get n = a ∧ ∀ k, k ≠ n → (v.set n a n.isLt).get k = v.get k := by
  simp only [vector_get]
  exact ⟨Vector.getElem_set_self _, fun k other => Vector.getElem_set_ne _ _ fun e => other (Fin.ext e.symm)⟩

/-! ## The work of a SCHEDULE -/

/-- Whatever its form, a SCHEDULE writes nothing but the Fine Schedule. -/
theorem State.scheduleWork_frame (target number : Nat) (values : List Nat) (s : State) :
    ∃ y status fields,
      State.scheduleWork (.schedule target number values) s = ({ s with schedule := y }, status, fields) := by
  unfold State.scheduleWork
  dsimp only
  split
  · exact ⟨s.schedule, _, _, rfl⟩
  · split
    · exact ⟨s.schedule, _, _, rfl⟩
    · exact ⟨_, _, _, rfl⟩

theorem State.scheduleWork_stores (counted : values.length = (rangesOf target).length)
    (inRange : List.zipWith intoRange (rangesOf target) values = stored)
    (put : s.schedule.put target number stored = some y) :
    State.scheduleWork (.schedule target number values) s =
      ({ s with schedule := y }, if clampedCount stored values = 0 then .ok else .clamped,
        ⟨1, clampedCount stored values⟩ :: stored.map fun v => ⟨4, v⟩) := by
  unfold State.scheduleWork
  dsimp only
  rw [if_neg (not_not_intro counted), inRange, put]
  dsimp only
  rw [count_changed, clampedStatus_eq]
  simp only [Nat.pos_iff_ne_zero, ite_not]

theorem State.scheduleWork_malformed (bad : noSuchSet target number ∨ values.length ≠ (rangesOf target).length)
    (s : State) : State.scheduleWork (.schedule target number values) s = (s, .badMessage, []) := by
  unfold State.scheduleWork
  dsimp only
  split
  · rfl
  next counted =>
    rw [Schedule.put_noSuchSet (bad.resolve_right counted)]
    rfl

/-! ## The statement -/

/-- t is what the row of a SCHEDULE leaves of s: the tables of s but for the Fine Schedule, which is its work's, and the
CONFIRM of its work. -/
structure Schedules (s t : State) (target number : Nat) (values : List Nat) : Prop where
  tables : t.tables = ({ s with schedule := t.schedule } : State).tables
  answers : ∃ status fields,
    State.scheduleWork (.schedule target number values) s = ({ s with schedule := t.schedule }, status, fields) ∧
      Confirms s t 8 status fields

theorem Performs.schedules (h : Performs s op x (.schedule target number values)) (room : 1 ≤ op.reservation) :
    ∃ t, exec (.schedule x) s = .next t ∧ Schedules s t target number values := by
  obtain ⟨y, status, fields, work⟩ := State.scheduleWork_frame target number values s
  obtain ⟨t, next, ends⟩ := h.tables_row (row := .schedule) room rfl work rfl
  obtain rfl : t.schedule = y := congrArg Tables.schedule ends.tables
  exact ⟨t, next, ends.tables, status, fields, work, ends.confirms⟩

theorem Schedules.of_work (h : Schedules s t target number values) {status : Status} {fields : List CField}
    (work : State.scheduleWork (.schedule target number values) s = ({ s with schedule := y }, status, fields)) :
    t.schedule = y ∧ Confirms s t 8 status fields := by
  obtain ⟨_, _, answered, confirms⟩ := h.answers
  obtain ⟨state, rfl, rfl⟩ : _ ∧ _ ∧ _ := by simpa only [Prod.mk.injEq] using answered.symm.trans work
  exact ⟨congrArg State.schedule state, confirms⟩

/-- Settles O31: the work writes the Fine Schedule only, and each kind of target stores its own set in range. -/
theorem scheduleStoresTheSetInRange : Obligations.ScheduleStoresTheSetInRange := by
  intro s op x target number values stored h room
  obtain ⟨t, next, schedules⟩ := h.schedules room
  obtain ⟨patrons, loans, titles, pool, calendar, -, sweep, tags, tagLine⟩ := State.tables_eq_iff.mp schedules.tables
  refine ⟨t, next, patrons, loans, titles, pool, calendar, sweep, tags, tagLine, ?cls, ?category, ?global, ?malformed⟩
  case cls =>
    rintro n a b c d e f g rfl rfl rfl rfl
    obtain ⟨schedule, confirmed⟩ := schedules.of_work
      (State.scheduleWork_stores rfl (intoRange_class _ _ _ _ _ _ _) (s.schedule.put_class n _ _ _ _ _ _ _))
    obtain ⟨same, others⟩ := vector_get_set s.schedule.classes n _
    rw [schedule]
    exact ⟨same, others, rfl, rfl, confirmed⟩
  case category =>
    rintro n a b c rfl rfl rfl rfl
    obtain ⟨schedule, confirmed⟩ := schedules.of_work
      (State.scheduleWork_stores rfl (intoRange_category _ _ _) (s.schedule.put_category n _ _ _))
    obtain ⟨same, others⟩ := vector_get_set s.schedule.categories n _
    rw [schedule]
    exact ⟨same, others, rfl, rfl, confirmed⟩
  case global =>
    rintro a b rfl rfl rfl rfl
    obtain ⟨schedule, confirmed⟩ := schedules.of_work
      (State.scheduleWork_stores rfl (intoRange_global _ _) (s.schedule.put_global _ _))
    rw [schedule]
    exact ⟨rfl, rfl, rfl, confirmed⟩
  case malformed =>
    intro bad
    rw [← rangesOf_length] at bad
    exact schedules.of_work (State.scheduleWork_malformed (by simpa only [noSuchSet, or_assoc] using bad) s)

end Sys2Proof.Machine
end

section
/-! PROOF. One renewal in a memory without damage (R69 to R76): what becomes of a loan slot by the first failing check, and
what the renewal leaves of the state. -/

namespace Sys2Proof.Machine

variable {s : State} {slot n : Nat} {p : Patron} {l : Loan} {op : Op} {r : Refused}

/-! ## The checks (R69) -/

/-- A loan passes checks 3 to 7, or one of them is the first to fail. -/
theorem State.mayRenew_or_refuses (s : State) (p : Patron) (l : Loan) :
    s.mayRenew p l ∨ ∃ r, s.refusesRenewal p l r := by
  unfold State.mayRenew State.refusesRenewal
  cases blocked : p.blocked with
  | true => exact .inr ⟨_, .inl ⟨rfl, rfl⟩⟩
  | false =>
    by_cases limit : l.used < (s.schedule.cls l.cls).maxRenewal
    case neg => exact .inr ⟨_, .inr ⟨rfl, .inl ⟨Nat.le_of_not_lt limit, rfl⟩⟩⟩
    by_cases window : l.overdue ≤ (s.schedule.cls l.cls).window
    case neg => exact .inr ⟨_, .inr ⟨rfl, .inr ⟨limit, .inl ⟨Nat.lt_of_not_le window, rfl⟩⟩⟩⟩
    by_cases held : s.holdsUp l.title
    case pos => exact .inr ⟨_, .inr ⟨rfl, .inr ⟨limit, .inr ⟨window, .inl ⟨held, rfl⟩⟩⟩⟩⟩
    by_cases gain : l.due < s.placesDue l
    case neg => exact .inr ⟨_, .inr ⟨rfl, .inr ⟨limit, .inr ⟨window, .inr ⟨held, Nat.le_of_not_lt gain, rfl⟩⟩⟩⟩⟩
    exact .inl ⟨rfl, limit, window, held, gain⟩

/-- Checks 3 to 7 never give the outcomes of checks 1 and 2. -/
theorem State.refusesRenewal_outcome (h : s.refusesRenewal p l r) :
    ReqOutcome.refused r ≠ .refused .notFound ∧ ReqOutcome.refused r ≠ .refused .damaged := by
  rcases h with ⟨-, rfl⟩ | ⟨-, ⟨-, rfl⟩ | ⟨-, ⟨-, rfl⟩ | ⟨-, ⟨-, rfl⟩ | ⟨-, -, rfl⟩⟩⟩⟩ <;> exact ⟨nofun, nofun⟩

theorem State.renewOne_unlisted (unlisted : n ∉ p.loans) : s.renewOne slot p.loans n = (s, .refused .notFound) :=
  if_neg (by simpa using unlisted)

theorem State.renewOne_lost (clean : s.upsets = []) (listed : n ∈ p.loans) (lost : s.loanAt n = none) :
    s.renewOne slot p.loans n = (s, .refused .damaged) := by
  unfold State.renewOne
  rw [if_pos (by simpa using listed)]
  simp only [State.readLoan_clean clean, lost]

/-- Past checks 1 and 2 the block decides, then the loan. -/
theorem State.renewOne_listed (clean : s.upsets = []) (patron : s.patronAt slot = some p) (listed : n ∈ p.loans)
    (loan : s.loanAt n = some l) :
    s.renewOne slot p.loans n = if p.blocked then (s, .refused .blocked) else s.renewChecked p.id n l := by
  unfold State.renewOne
  rw [if_pos (by simpa using listed)]
  simp only [State.readLoan_clean clean, loan, State.readPatron_clean clean, patron]

theorem State.isHeld_false {title : Nat} (free : ¬ s.holdsUp title) : s.isHeld title = false :=
  Bool.eq_false_iff.mpr fun held => free ((s.isHeld_iff title).mp held)

theorem State.renewOne_refused (clean : s.upsets = []) (patron : s.patronAt slot = some p) (listed : n ∈ p.loans)
    (loan : s.loanAt n = some l) (refuses : s.refusesRenewal p l r) :
    s.renewOne slot p.loans n = (s, .refused r) := by
  rw [State.renewOne_listed clean patron listed loan]
  rcases refuses with ⟨blocked, rfl⟩ | ⟨open_, checked⟩
  · rw [if_pos blocked]
  rw [if_neg (by simp [open_])]
  unfold State.renewChecked
  dsimp only
  rcases checked with ⟨limit, rfl⟩ | ⟨limit, ⟨late, rfl⟩ | ⟨window, ⟨held, rfl⟩ | ⟨free, noGain, rfl⟩⟩⟩
  · rw [if_pos limit]
  · rw [if_neg (Nat.not_le_of_lt limit), if_pos late]
  · rw [if_neg (Nat.not_le_of_lt limit), if_neg (Nat.not_lt_of_le window), State.lookUpTitle_clean clean,
      if_pos ((s.isHeld_iff _).mpr held)]
  · rw [if_neg (Nat.not_le_of_lt limit), if_neg (Nat.not_lt_of_le window), State.lookUpTitle_clean clean,
      if_neg (by simp [State.isHeld_false free]), State.renewalDay_eq, if_pos noGain]

theorem State.renewOne_passed (clean : s.upsets = []) (patron : s.patronAt slot = some p) (listed : n ∈ p.loans)
    (loan : s.loanAt n = some l) (may : s.mayRenew p l) :
    s.renewOne slot p.loans n = (s.renewTo p.id n l (s.placesDue l), .ok) := by
  obtain ⟨open_, limit, window, free, gain⟩ := may
  rw [State.renewOne_listed clean patron listed loan, if_neg (by simp [open_])]
  unfold State.renewChecked
  dsimp only
  rw [if_neg (Nat.not_le_of_lt limit), if_neg (Nat.not_lt_of_le window), State.lookUpTitle_clean clean,
    if_neg (by simp [State.isHeld_false free]), State.renewalDay_eq, if_neg (Nat.not_le_of_lt gain)]

/-- A listed slot is lost, refused or renewed. -/
theorem State.renewOne_cases (clean : s.upsets = []) (patron : s.patronAt slot = some p) (listed : n ∈ p.loans) :
    (s.loanAt n = none ∧ s.renewOne slot p.loans n = (s, .refused .damaged)) ∨
      ∃ l, s.loanAt n = some l ∧
        ((∃ r, s.refusesRenewal p l r ∧ s.renewOne slot p.loans n = (s, .refused r)) ∨
          s.mayRenew p l ∧ s.renewOne slot p.loans n = (s.renewTo p.id n l (s.placesDue l), .ok)) := by
  cases loan : s.loanAt n with
  | none => exact .inl ⟨rfl, State.renewOne_lost clean listed loan⟩
  | some l =>
    refine .inr ⟨l, rfl, ?_⟩
    rcases s.mayRenew_or_refuses p l with may | ⟨r, refuses⟩
    · exact .inr ⟨may, State.renewOne_passed clean patron listed loan may⟩
    · exact .inl ⟨r, refuses, State.renewOne_refused clean patron listed loan refuses⟩

/-! ## What renewals leave of the state -/

/-- The record of a loan renewed to a day (R75). -/
def Loan.renewedTo (l : Loan) (day : Nat) : Loan := { l with due := day, used := l.used + 1, overdue := 0 }

/-- s with this loan table and these notices last in the outbound queue, each against one entry of the reservation. -/
def State.renewed (s : State) (op : Op) (loans : Tbl LoanRec) (posted : List Notice) : State :=
  { s with
    loans := loans
    engine := .busy { op with reservation := op.reservation - posted.length }
    link := { s.link with outbound := s.link.outbound ++ posted } }

theorem State.renewed_none (busy : s.engine = .busy op) : s.renewed op s.loans [] = s := by
  simp [State.renewed, ← busy]

theorem State.renewed_renewed (s : State) (op : Op) (loans loans' : Tbl LoanRec) (posted posted' : List Notice) :
    (s.renewed op loans posted).renewed { op with reservation := op.reservation - posted.length } loans' posted' =
      s.renewed op loans' (posted ++ posted') := by
  simp [State.renewed, Nat.sub_sub]

/-- The engine performs an operation on the RESIDENT patron of a slot, in a memory without damage; no post waits. -/
structure Serving (s : State) (slot : Nat) (p : Patron) (op : Op) : Prop where
  clean : s.upsets = []
  patron : s.patronAt slot = some p
  busy : s.engine = .busy op
  quiet : op.waiting = []

theorem Serving.renewed (h : Serving s slot p op) (loans : Tbl LoanRec) (posted : List Notice) :
    Serving (s.renewed op loans posted) slot p { op with reservation := op.reservation - posted.length } :=
  ⟨h.clean, h.patron, rfl, h.quiet⟩

theorem Serving.renewTo_eq (h : Serving s slot p op) (room : 1 ≤ op.reservation) (n : Nat) (l : Loan) (day : Nat) :
    s.renewTo p.id n l day =
      s.renewed op (Tbl.store s.loans n (.active (l.renewedTo day))) [.renewed l.copy p.id day (l.used + 1)] := by
  unfold State.renewTo
  rw [State.setLoan_clean h.clean]
  exact State.post_reserved (op := op) h.busy h.quiet room fun _ => rfl

theorem State.renewTo_loans (s : State) (patron n : Nat) (l : Loan) (day : Nat) :
    (s.renewTo patron n l day).loans = Tbl.store s.loans n (.active (l.renewedTo day)) :=
  congrArg Tables.loans (State.post_tables (s.setLoan n _) _)

theorem State.renewTo_loanAt (s : State) (patron n : Nat) (l : Loan) (day : Nat) :
    (s.renewTo patron n l day).loanAt n = some (l.renewedTo day) := by
  rw [State.loanAt_eq_some, State.renewTo_loans]
  exact Tbl.lookup_store_same _ _ _

/-- The RENEWED that the renewal of a slot posts (R76). -/
def State.renewedNotice (s : State) (slot : Nat) (p : Patron) (n : Nat) : Option Notice :=
  if (s.renewOne slot p.loans n).2 = .ok then
    (s.loanAt n).map fun l => .renewed l.copy p.id (s.placesDue l) (l.used + 1)
  else none

theorem State.renewedNotice_isLaneState {m : Notice} (h : s.renewedNotice slot p n = some m) : m.isLaneState = false := by
  unfold State.renewedNotice at h
  split at h
  · obtain ⟨l, -, rfl⟩ := Option.map_eq_some_iff.mp h
    rfl
  · cases h

/-- One renewal writes no loan slot but its own, and posts its notice. -/
theorem Serving.renewOne_eq (h : Serving s slot p op) (room : 1 ≤ op.reservation) (listed : n ∈ p.loans) :
    ∃ loans, (s.renewOne slot p.loans n).1 = s.renewed op loans (s.renewedNotice slot p n).toList ∧
      ∀ m, m ≠ n → Tbl.lookup loans m = Tbl.lookup s.loans m := by
  unfold State.renewedNotice
  rcases State.renewOne_cases h.clean h.patron listed with ⟨-, e⟩ | ⟨l, loan, ⟨r, -, e⟩ | ⟨-, e⟩⟩ <;> rw [e]
  · exact ⟨s.loans, (State.renewed_none h.busy).symm, fun _ _ => rfl⟩
  · exact ⟨s.loans, (State.renewed_none h.busy).symm, fun _ _ => rfl⟩
  · rw [loan]
    exact ⟨_, h.renewTo_eq room n l _, fun m other => Tbl.lookup_store_ne _ _ _ _ other⟩

/-! ## One renewal after others -/

theorem State.renewAllFields_congr {t : State} (same : Tbl.lookup t.loans n = Tbl.lookup s.loans n) (o : ReqOutcome) :
    t.renewAllFields n o = s.renewAllFields n o := by
  unfold State.renewAllFields
  rw [State.loanAt_congr same]

/-- What becomes of a slot does not depend on the renewals of other slots before it. -/
theorem Serving.renewOne_renewed (h : Serving s slot p op) (listed : n ∈ p.loans) {loans : Tbl LoanRec}
    (same : Tbl.lookup loans n = Tbl.lookup s.loans n) (posted : List Notice) :
    let one := s.renewOne slot p.loans n
    let later := (s.renewed op loans posted).renewOne slot p.loans n
    later.2 = one.2 ∧ Tbl.lookup later.1.loans n = Tbl.lookup one.1.loans n := by
  have at_ : (s.renewed op loans posted).loanAt n = s.loanAt n := State.loanAt_congr same
  obtain ⟨clean, patron, -, -⟩ := h.renewed loans posted
  rcases State.renewOne_cases h.clean h.patron listed with ⟨lost, e⟩ | ⟨l, loan, ⟨r, refuses, e⟩ | ⟨may, e⟩⟩ <;>
    dsimp only <;> rw [e]
  · rw [State.renewOne_lost clean listed (at_.trans lost)]
    exact ⟨rfl, same⟩
  · rw [State.renewOne_refused clean patron listed (at_.trans loan) refuses]
    exact ⟨rfl, same⟩
  · rw [State.renewOne_passed clean patron listed (at_.trans loan) may]
    refine ⟨rfl, ?_⟩
    simp only [State.renewTo_loans, Tbl.lookup_store_same]
    rfl

theorem Serving.renewedNotice_renewed (h : Serving s slot p op) (listed : n ∈ p.loans) {loans : Tbl LoanRec}
    (same : Tbl.lookup loans n = Tbl.lookup s.loans n) (posted : List Notice) :
    (s.renewed op loans posted).renewedNotice slot p n = s.renewedNotice slot p n := by
  unfold State.renewedNotice
  rw [(h.renewOne_renewed listed same posted).1, State.loanAt_congr (s := s) same]
  rfl

end Sys2Proof.Machine
end

section
/-! PROOF. RENEW (R69 to R77). -/

namespace Sys2Proof.Machine

variable {s u : State} {op left : Op} {x : Crossing} {code : ReqCode} {fields : List Nat} {slot id copy n : Nat} {p : Patron}
  {l : Loan} {a : Answer} {r : Refused}

/-! ## A request whose work renews loans -/

theorem Serves.clean (h : Serves s op x code fields slot u p) : u.upsets = [] := by
  rw [h.after]
  exact ((ServesOnly.refl h.noErr h.canon.1).served slot).clean

/-- The catch-up of a renewal request uses at most one entry of its reservation (R9). -/
theorem Serves.serving {k : Nat} (h : Serves s op x code fields slot u p) (room : k + 1 ≤ op.reservation) :
    ∃ left, Serving u slot p left ∧ SameGrant op left ∧ k ≤ left.reservation := by
  have clean := h.clean
  obtain ⟨granted, -, -, -, rfl, patron⟩ := h
  obtain ⟨left, busy, quiet, entries⟩ :=
    State.served_room granted.noErr granted.canon.1 ⟨op, granted.busy, granted.noWait, room⟩ slot
  obtain ⟨done, busyDone, -, same⟩ := granted.served_engine ⟨left, busy, quiet, Nat.zero_le _⟩
  obtain rfl : left = done := Engine.busy.inj (busy.symm.trans busyDone)
  exact ⟨left, ⟨clean, patron, busy, quiet⟩, same, entries⟩

/-- t is what a request leaves that wrote these loans and posted these notices after its catch-up had left u. -/
structure RenewsRow (s u t : State) (op : Op) (x : Crossing) (loans : Tbl LoanRec) (posted : List Notice) (a : Answer) :
    Prop where
  tables : t.tables = ({ u with loans := loans } : State).tables
  answers : Answers s t op a
  mem : ∀ m ∈ posted, m.isLaneState = false → m ∈ t.link.outbound
  only : x.claims = [] → t.link.outbound = u.link.outbound ++ posted

/-- With no claims the completion of a request leaves the outbound queue of its work. -/
theorem Granted.request_outbound {w t : State} (h : Granted s op x) (kind : op.kind = .request code fields)
    (served : code.work op s = (w, a)) (busy : w.engine = .busy left) (done : left.waiting = [])
    (next : exec (code.command x) s = .next t) (unclaimed : x.claims = []) : t.link.outbound = w.link.outbound := by
  rw [code.exec_command] at next
  unfold State.request at next
  rw [State.command_perform h.noReset h.busy (by simp [kind, OpKind.isRequest]), h.crossed, served, unclaimed,
    State.complete_done (op := { left with answer := some a }) (by simp [State.answer, busy, Engine.mapOp]) done] at next
  cases next
  exact State.finishOp_outbound (State.answer (w, a)) _

theorem Serves.renews_row {loans : Tbl LoanRec} {posted : List Notice} (h : Serves s op x code fields slot u p)
    (serving : Serving u slot p left) (same : SameGrant op left)
    (work : code.work op s = (u.renewed left loans posted, a)) :
    ∃ t, exec (code.command x) s = .next t ∧ RenewsRow s u t op x loans posted a := by
  obtain ⟨granted, kind, -, -, rfl, -⟩ := h
  have lanes : (s.served slot).lanes = s.lanes := ((ServesOnly.refl granted.noErr granted.canon.1).served slot).lanes
  obtain ⟨-, -, busy, done⟩ := serving.renewed loans posted
  obtain ⟨t, next, tables, answers, mem⟩ := granted.request_row kind work busy done ⟨same.kind, same.resetOwed, same.origin⟩ lanes
  exact ⟨t, next, tables, answers, fun m posts => mem m (List.mem_append_right _ posts),
    granted.request_outbound kind work busy done next⟩

/-! ## The work of a RENEW -/

/-- RENEW's lookups find the patron caught up and the copy's slot, and change nothing. -/
theorem Serves.renewWork_eq (h : Serves s op x .renew [id, copy] slot u p) :
    ReqCode.renew.work op s =
      (u.findCopy copy).elim (u, u.renewAnswer 0 (.refused .notFound)) fun n =>
        ((u.renewOne slot p.loans n).1, (u.renewOne slot p.loans n).1.renewAnswer n (u.renewOne slot p.loans n).2) := by
  have clean := h.clean
  obtain ⟨granted, kind, found, resident, rfl, patron⟩ := h
  have names : op.field 0 = id ∧ op.field 1 = copy := by simp [Op.field, kind]
  show State.renewWork op s = _
  unfold State.renewWork
  rw [names.1, names.2, State.servePatron_served (id := id) granted.noErr found resident patron]
  simp only [State.lookUpCopy_clean clean]
  cases (s.served slot).findCopy copy <;> rfl

theorem Serves.renewWork_found (h : Serves s op x .renew [id, copy] slot u p) (found : u.findCopy copy = some n)
    {w : State} {o : ReqOutcome} (one : u.renewOne slot p.loans n = (w, o)) :
    ReqCode.renew.work op s = (w, w.renewAnswer n o) := by
  rw [h.renewWork_eq, found, Option.elim_some, one]

/-- R77's fields of a RENEW that passes, or that checks 3 to 7 refuse. -/
theorem State.renewAnswer_active (loan : s.loanAt n = some l) {o : ReqOutcome}
    (past : o ≠ .refused .notFound ∧ o ≠ .refused .damaged) :
    s.renewAnswer n o = ⟨[.outcome .renew o, .num l.due, .num l.used], o.final⟩ := by
  unfold State.renewAnswer State.renewFields
  split
  · exact absurd rfl past.1
  · exact absurd rfl past.2
  · rw [loan]

/-- Settles O15: the renewal passes, and its writes reach the tables, the queue and the station. -/
theorem renewMovesTheDueDay : Obligations.RenewMovesTheDueDay := by
  intro s op x id copy slot u p n l h room found listed loan may
  obtain ⟨left, serving, same, entry⟩ := h.serving room
  have work := h.renewWork_found found (State.renewOne_passed h.clean h.patron listed loan may)
  rw [State.renewAnswer_active (State.renewTo_loanAt _ _ _ _ _) (o := .ok) ⟨nofun, nofun⟩, serving.renewTo_eq entry] at work
  obtain ⟨t, next, row⟩ := h.renews_row serving same work
  obtain ⟨patrons, loans, titles, pool, calendar, schedule, sweep, tags, tagLine⟩ :=
    State.tables_eq_iff.mp row.tables
  refine ⟨t, next, ?_, fun m other => ?_, patrons, titles, pool, tags, tagLine, calendar, schedule, sweep,
    row.mem _ List.mem_cons_self rfl, row.answers⟩
  · rw [loans]
    exact Tbl.lookup_store_same _ _ _
  · rw [loans]
    exact Tbl.lookup_store_ne _ _ _ _ other

/-- A RENEW whose work leaves the state that the catch-up left. -/
theorem Serves.refused_row (h : Serves s op x .renew [id, copy] slot u p) (room : 2 ≤ op.reservation)
    (work : ReqCode.renew.work op s = (u, a)) :
    ∃ t, exec (.renew x) s = .next t ∧ t.tables = u.tables ∧ Answers s t op a := by
  obtain ⟨left, serving, same, -⟩ := h.serving room
  rw [← State.renewed_none serving.busy] at work
  obtain ⟨t, next, row⟩ := h.renews_row serving same work
  exact ⟨t, next, row.tables, row.answers⟩

/-- Settles O16: each failing check leaves the state alone, and its outcome gives the fields. -/
theorem renewRefusesByTheFirstFailingCheck : Obligations.RenewRefusesByTheFirstFailingCheck := by
  intro s op x id copy slot u p h room
  refine ⟨fun missing => ?_, fun n found unlisted => ?_, fun n i found listed lost => ?_,
    fun n l r found listed loan refuses => ?_⟩
  · exact h.refused_row room (by rw [h.renewWork_eq, missing]; rfl)
  · exact h.refused_row room (h.renewWork_found found (State.renewOne_unlisted unlisted))
  · have unread : u.loanAt n = none := by
      unfold State.loanAt
      rw [lost]
    exact h.refused_row room (h.renewWork_found found (State.renewOne_lost h.clean listed unread))
  · have work := h.renewWork_found found (State.renewOne_refused h.clean h.patron listed loan refuses)
    rw [State.renewAnswer_active loan (State.refusesRenewal_outcome refuses)] at work
    exact h.refused_row room work

end Sys2Proof.Machine
end

section
/-! PROOF. RENEW_ALL works the loan list in order (R78, R79). -/

namespace Sys2Proof.Machine

variable {s u : State} {op left : Op} {x : Crossing} {slot id n : Nat} {p : Patron} {l : Loan}

/-! ## The entries in list order -/

/-- What one entry reports. -/
def State.entryFields (s : State) (slot : Nat) (p : Patron) (n : Nat) : List RField :=
  (s.renewOne slot p.loans n).1.renewAllFields n (s.renewOne slot p.loans n).2

theorem State.renewAllFields_length (s : State) (n : Nat) (o : ReqOutcome) : (s.renewAllFields n o).length = 3 := by
  unfold State.renewAllFields
  split
  · rfl
  · split <;> rfl

theorem State.renewEach_length (s : State) (slot : Nat) (loans ns : List Nat) :
    (State.renewEach slot loans ns s).2.length = 3 * ns.length := by
  induction ns generalizing s with
  | nil => rfl
  | cons n ns ih =>
    simp only [State.renewEach, List.length_append, State.renewAllFields_length, ih, List.length_cons]
    omega

/-- Where each element gives k items, those of the i-th stand after k items for each before it. -/
theorem take_drop_flatMap {α β : Type} {f : α → List β} {k : Nat} (width : ∀ a, (f a).length = k) {xs : List α} {i : Nat}
    {a : α} (here : xs[i]? = some a) : ((xs.flatMap f).drop (k * i)).take k = f a := by
  induction xs generalizing i with
  | nil => cases here
  | cons b xs ih =>
    cases i with
    | zero =>
      obtain rfl : b = a := by simpa using here
      simp [List.take_append_of_le_length (Nat.le_of_eq (width b).symm), List.take_of_length_le (Nat.le_of_eq (width b))]
    | succ i =>
      rw [List.flatMap_cons, Nat.mul_succ, Nat.add_comm, ← width b, List.drop_length_add_append, width b]
      exact ih (by simpa using here)

/-- The renewals of these listed slots, one after another, leave the loan table `loans` and post these notices; in a list
without repetitions the notices, the records and the fields are those of each slot's own renewal. -/
structure RenewsEach (s : State) (slot : Nat) (p : Patron) (op : Op) (ns : List Nat) (loans : Tbl LoanRec)
    (posted : List Notice) : Prop where
  state : (State.renewEach slot p.loans ns s).1 = s.renewed op loans posted
  others : ∀ n, n ∉ ns → Tbl.lookup loans n = Tbl.lookup s.loans n
  notices : ns.Nodup → posted = ns.filterMap (s.renewedNotice slot p)
  records : ns.Nodup → ∀ n ∈ ns, Tbl.lookup loans n = Tbl.lookup (s.renewOne slot p.loans n).1.loans n
  fields : ns.Nodup → (State.renewEach slot p.loans ns s).2 = ns.flatMap (s.entryFields slot p)

/-- In a list without repetitions each entry meets its slot as the catch-up left it, so it is worked as if alone. -/
theorem Serving.renewEach_eq {ns : List Nat} (h : Serving s slot p op) (room : ns.length ≤ op.reservation)
    (listed : ∀ n ∈ ns, n ∈ p.loans) : ∃ loans posted, RenewsEach s slot p op ns loans posted := by
  induction ns generalizing s op with
  | nil => exact ⟨s.loans, [], (State.renewed_none h.busy).symm, fun _ _ => rfl, fun _ => rfl, fun _ => nofun, fun _ => rfl⟩
  | cons n ns ih =>
    obtain ⟨first, later⟩ := List.forall_mem_cons.mp listed
    rw [List.length_cons] at room
    obtain ⟨loans₁, one, apart⟩ := h.renewOne_eq (by omega) first
    have single : (s.renewedNotice slot p n).toList.length ≤ 1 := by cases s.renewedNotice slot p n <;> simp
    obtain ⟨loans, posted, rest⟩ := ih (h.renewed loans₁ (s.renewedNotice slot p n).toList) (by dsimp only; omega) later
    refine ⟨loans, (s.renewedNotice slot p n).toList ++ posted, ?_, fun m out => ?_, fun distinct => ?_,
      fun distinct m mem => ?_, fun distinct => ?_⟩
    · rw [State.renewEach, one, ← State.renewed_renewed]
      exact rest.state
    · obtain ⟨other, out⟩ := not_or.mp (mt List.mem_cons.mpr out)
      exact (rest.others m out).trans (apart m other)
    all_goals
      obtain ⟨fresh, distinct⟩ := List.nodup_cons.mp distinct
      have untouched (m : Nat) (mem : m ∈ ns) : Tbl.lookup loans₁ m = Tbl.lookup s.loans m :=
        apart m fun e => fresh (e ▸ mem)
    · rw [rest.notices distinct, List.filterMap_congr fun m mem =>
        h.renewedNotice_renewed (later m mem) (untouched m mem) _]
      cases notice : s.renewedNotice slot p n <;> simp [notice]
    · rcases List.mem_cons.mp mem with rfl | mem
      · rw [rest.others m fresh, one]
      · rw [rest.records distinct m mem]
        exact (h.renewOne_renewed (later m mem) (untouched m mem) _).2
    · have reported : ∀ m ∈ ns, (s.renewed op loans₁ (s.renewedNotice slot p n).toList).entryFields slot p m =
          s.entryFields slot p m := fun m mem => by
        obtain ⟨outcome, record⟩ :=
          h.renewOne_renewed (later m mem) (untouched m mem) (s.renewedNotice slot p n).toList
        unfold State.entryFields
        rw [outcome, State.renewAllFields_congr record]
      rw [State.renewEach, List.flatMap_cons, ← List.flatMap_congr reported, ← rest.fields distinct, ← one]
      rfl

/-! ## The work of a RENEW_ALL -/

theorem Serves.renewAllWork_eq (h : Serves s op x .renewAll [id] slot u p) :
    ReqCode.renewAll.work op s =
      if p.loans = [] then (u, ⟨[], .refused .notFound⟩)
      else ((State.renewEach slot p.loans p.loans u).1, ⟨(State.renewEach slot p.loans p.loans u).2, .ok⟩) := by
  obtain ⟨granted, kind, found, resident, rfl, patron⟩ := h
  have names : op.field 0 = id := by simp [Op.field, kind]
  show State.renewAllWork op s = _
  unfold State.renewAllWork
  rw [names, State.servePatron_served (id := id) granted.noErr found resident patron]
  simp only [List.isEmpty_iff]

/-- RENEW_ALL's answer. -/
def State.renewAllAnswer (u : State) (slot : Nat) (p : Patron) : Answer :=
  if p.loans = [] then ⟨[], .refused .notFound⟩ else ⟨(State.renewEach slot p.loans p.loans u).2, .ok⟩

/-- The row of a RENEW_ALL: what its renewals leave. An empty list is worked as well as any, and renews nothing. -/
theorem Serves.renewAll_row (h : Serves s op x .renewAll [id] slot u p) (room : p.loans.length + 1 ≤ op.reservation) :
    ∃ t left loans posted, exec (.renewAll x) s = .next t ∧ RenewsEach u slot p left p.loans loans posted ∧
      RenewsRow s u t op x loans posted (u.renewAllAnswer slot p) := by
  obtain ⟨left, serving, same, entries⟩ := h.serving room
  obtain ⟨loans, posted, each⟩ := serving.renewEach_eq entries fun _ mem => mem
  have work : ReqCode.renewAll.work op s = (u.renewed left loans posted, u.renewAllAnswer slot p) := by
    rw [h.renewAllWork_eq, ← each.state]
    unfold State.renewAllAnswer
    split
    next empty => simp [empty, State.renewEach]
    next => rfl
  obtain ⟨t, next, row⟩ := h.renews_row serving same work
  exact ⟨t, left, loans, posted, next, each, row⟩

/-! ## The statement -/

/-- R78's fields of an entry that passes, or that checks 3 to 7 refuse. -/
theorem State.renewAllFields_active (loan : s.loanAt n = some l) {o : ReqOutcome} (past : o ≠ .refused .damaged) :
    s.renewAllFields n o = [.num l.copy, .outcome .renewAll o, .num l.due] := by
  unfold State.renewAllFields
  split
  · exact absurd rfl past
  · rw [loan]

/-- Settles O17: the entries by their own renewals, each of which is lost, refused or renewed. -/
theorem renewAllAnswersForEveryLoan : Obligations.RenewAllAnswersForEveryLoan := by
  intro s op x id slot u p h room
  obtain ⟨t, left, table, posted, next, each, row⟩ := h.renewAll_row room
  obtain ⟨patrons, loans, titles, pool, calendar, schedule, sweep, tags, tagLine⟩ :=
    State.tables_eq_iff.mp row.tables
  dsimp only at loans
  have answers := row.answers
  unfold State.renewAllAnswer at answers
  have entry (distinct : p.loans.Nodup) (i n : Nat) (here : p.loans[i]? = some n) :
      Tbl.lookup t.loans n = Tbl.lookup (u.renewOne slot p.loans n).1.loans n ∧
        ((State.renewEach slot p.loans p.loans u).2.drop (3 * i)).take 3 = u.entryFields slot p n := by
    rw [loans, each.fields distinct]
    exact ⟨each.records distinct n (List.mem_of_getElem? here),
      take_drop_flatMap (fun _ => State.renewAllFields_length _ _ _) here⟩
  refine ⟨t, next, ?loans, fun n out => ?others, patrons, titles, pool, tags, tagLine, calendar, schedule, sweep,
    fun empty => ?empty, fun full => ?full, State.renewEach_length u slot _ _, entry, fun distinct i n here => ?outcome,
    fun distinct => ?notices⟩
  case loans => rw [loans, each.state]; rfl
  case others => rw [loans]; exact each.others n out
  case empty => rwa [if_pos empty] at answers
  case full => rwa [if_neg full] at answers
  case outcome =>
    have listed := List.mem_of_getElem? here
    obtain ⟨record, fields⟩ := entry distinct i n here
    dsimp only
    rw [record, fields]
    unfold State.entryFields
    refine ⟨fun lost => ?_, fun l loan => ⟨fun r refuses => ?_, fun may => ?_⟩⟩
    · rw [State.renewOne_lost h.clean listed lost]
      exact ⟨rfl, rfl, rfl⟩
    · rw [State.renewOne_refused h.clean h.patron listed loan refuses]
      exact ⟨rfl, rfl, State.renewAllFields_active loan (State.refusesRenewal_outcome refuses).2⟩
    · rw [State.renewOne_passed h.clean h.patron listed loan may]
      exact ⟨rfl, State.loanAt_eq_some.mp (State.renewTo_loanAt _ _ _ _ _),
        State.renewAllFields_active (State.renewTo_loanAt _ _ _ _ _) nofun⟩
  case notices =>
    have posts : posted = p.loans.filterMap (u.renewedNotice slot p) := each.notices distinct
    rw [posts] at row
    refine ⟨fun m mem => row.mem m mem ?_, row.only⟩
    obtain ⟨k, -, notice⟩ := List.mem_filterMap.mp mem
    exact State.renewedNotice_isLaneState notice

end Sys2Proof.Machine
end

section
/-! PROOF. What an operation has posted stands in the outbound queue or waits for room there (R1, R8, R181). -/

namespace Sys2Proof.Machine

variable {s t : State} {n : Notice}

/-- No later notice updates this one (R181): all but BALANCE and LANE_STATE. -/
def Notice.single : Notice → Bool
  | .balance .. => false
  | .laneState .. => false
  | _ => true

theorem Notice.sameSubject_single (single : n.single = true) (m : Notice) : m.sameSubject n = false := by
  unfold Notice.sameSubject
  split
  · cases single
  · cases single
  · rfl

theorem Notice.isLaneState_single (single : n.single = true) : n.isLaneState = false := by
  cases n with
  | laneState => cases single
  | _ => rfl

/-- The operation in progress has posted this notice: it stands in the outbound queue, or waits for room there (R8). -/
def State.HasPosted (s : State) (n : Notice) : Prop :=
  n ∈ s.link.outbound ∨ ∃ op, s.engine = .busy op ∧ n ∈ op.waiting

theorem State.HasPosted.of_same (h : s.HasPosted n) (engine : t.engine = s.engine) (link : t.link = s.link) :
    t.HasPosted n := by
  unfold State.HasPosted
  rwa [engine, link]

theorem State.HasPosted.setOutbound {q : List Notice} (h : s.HasPosted n) (kept : n ∈ s.link.outbound → n ∈ q) :
    (s.setOutbound q).HasPosted n := h.imp kept id

theorem State.HasPosted.append (h : s.HasPosted n) (m : Notice) : (s.append m).HasPosted n :=
  h.setOutbound (List.mem_append_left _)

theorem State.HasPosted.mapOp {g : Op → Op} (h : s.HasPosted n) (kept : ∀ op, op.waiting ⊆ (g op).waiting) :
    (s.mapOp g).HasPosted n := by
  refine h.imp id fun ⟨op, busy, waits⟩ => ⟨g op, ?_, kept op waits⟩
  simp [busy, Engine.mapOp]

theorem State.HasPosted.coalesce {q : List Notice} {m : Notice} (single : n.single = true) (h : s.HasPosted n)
    (merged : s.link.coalesce m = some q) : (s.setOutbound q).HasPosted n :=
  h.setOutbound fun mem => Link.coalesce_mem merged mem (Notice.sameSubject_single single m)

theorem State.HasPosted.post (single : n.single = true) (h : s.HasPosted n) (m : Notice) : (s.post m).HasPosted n := by
  unfold State.post
  split
  · rename_i merged
    exact h.coalesce single merged
  · split
    · rename_i op busy
      split
      · exact h.mapOp fun _ => List.subset_append_left _ _
      · rename_i quiet
        have none_ : op.waiting = [] := by simpa using quiet
        split
        · exact (h.append m).mapOp fun _ => List.Subset.refl _
        · split
          · exact h.append m
          · refine .inl (h.resolve_right fun ⟨op', busy', waits⟩ => ?_)
            obtain rfl : op = op' := Engine.busy.inj (busy.symm.trans busy')
            rw [none_] at waits
            cases waits
    · exact h

theorem State.HasPosted.postIfRoom (single : n.single = true) (h : s.HasPosted n) (m : Notice) :
    (s.postIfRoom m).HasPosted n := by
  unfold State.postIfRoom
  split
  · rename_i merged
    exact h.coalesce single merged
  · split
    · exact h.append m
    · exact h

theorem State.HasPosted.logFault (h : s.HasPosted n) (c : FaultClass) (src : Source) (ctx : Context) :
    (s.logFault c src ctx).HasPosted n := by
  have faults (v : State) (f : FaultLog) (hv : v.HasPosted n) : ({ v with faults := f } : State).HasPosted n := hv
  unfold State.logFault
  dsimp only
  split
  · exact faults _ _ h
  · split
    · exact (faults _ _ h).append _
    · exact faults _ _ h

theorem Adjusts.hasPosted (step : Adjusts s t) (h : s.HasPosted n) : t.HasPosted n := by
  cases step with
  | lanes same => exact h.of_same same.engine same.link
  | answer a => exact h.mapOp fun _ => List.Subset.refl _
  | hand o m =>
    cases o with
    | none => exact h
    | some o => exact h.mapOp fun _ => List.Subset.refl _
  | faults f => exact h

/-- What has been posted stays posted through the rest of the operation. -/
theorem Works.hasPosted (works : Works Adjusts s t) (single : n.single = true) (h : s.HasPosted n) : t.HasPosted n := by
  induction works with
  | refl => exact h
  | tables _ only ih => exact ih.of_same only.engine only.link
  | post _ m ih => exact ih.post single m
  | postIfRoom _ m ih => exact ih.postIfRoom single m
  | logFault _ c src ctx ih => exact ih.logFault c src ctx
  | trapped _ ih => exact ih.mapOp fun _ => List.Subset.refl _
  | extra _ step ih => exact step.hasPosted ih

/-- A step of the kinds that every operation takes, without further ones. -/
theorem Works.plain {K : State → State → Prop} (works : Works (fun _ _ => False) s t) : Works K s t :=
  works.mono fun _ _ => False.elim

/-- A post of an operation has posted its notice. -/
theorem State.post_hasPosted {op : Op} (busy : s.engine = .busy op) (n : Notice) : (s.post n).HasPosted n := by
  unfold State.post
  split
  · rename_i merged
    exact .inl (Link.coalesce_self merged)
  · simp only [busy]
    split
    · exact .inr ⟨{ op with waiting := op.waiting ++ [n] }, by simp [busy, Engine.mapOp],
        List.mem_append_right _ List.mem_cons_self⟩
    · split
      · exact .inl (List.mem_append_right _ List.mem_cons_self)
      · split
        · exact .inl (List.mem_append_right _ List.mem_cons_self)
        · exact .inr ⟨{ op with waiting := [n] }, by simp [busy, Engine.mapOp], List.mem_cons_self⟩

/-- Where no post waits, what has been posted stands in the queue. -/
theorem State.HasPosted.queued {k : Nat} (h : s.HasPosted n) (room : s.hasRoom k) : n ∈ s.link.outbound := by
  obtain ⟨op, busy, quiet, -⟩ := room
  refine h.resolve_right fun ⟨op', busy', waits⟩ => ?_
  obtain rfl : op = op' := Engine.busy.inj (busy.symm.trans busy')
  rw [quiet] at waits
  cases waits

end Sys2Proof.Machine
end

section
/-! PROOF. What the completion of an operation leaves of the stations' stacks and parked counts (R10, R153, R154), and the
row of a request with all that its completion leaves. -/

namespace Sys2Proof.Machine

variable {s t v : State}

/-! ## Claims that leave the lanes (R5 to R7) -/

theorem State.postOwedFault_lanes (s : State) : s.postOwedFault.lanes = s.lanes := by
  unfold State.postOwedFault
  repeat' split
  all_goals rfl

theorem State.confirmOverrun_lanes (s : State) : s.confirmOverrun.lanes = s.lanes := by
  unfold State.confirmOverrun
  repeat' split
  all_goals rfl

theorem State.moveSideList_lanes (s : State) : s.moveSideList.lanes = s.lanes := by
  unfold State.moveSideList
  repeat' split
  all_goals rfl

theorem State.confirmMarker_lanes (s : State) : s.confirmMarker.lanes = s.lanes := by
  unfold State.confirmMarker
  repeat' split
  all_goals rfl

/-! ## The stacks and the parked counts -/

/-- The attachment, the stacks and the parked counts of every lane are the same. -/
structure SameStacks (s t : State) : Prop where
  life : ∀ l, (t.lane l).life = (s.lane l).life
  gen : ∀ l, (t.lane l).gen = (s.lane l).gen
  stack : ∀ l st, ((t.lane l).stations.get st).stack = ((s.lane l).stations.get st).stack
  parked : ∀ l st, ((t.lane l).stations.get st).parked = ((s.lane l).stations.get st).parked

/-- Two units of a lane that agree in its attachment, stacks and parked counts. -/
structure LaneUnit.SameStacks (u x : LaneUnit) : Prop where
  life : x.life = u.life
  gen : x.gen = u.gen
  stack : ∀ st, (x.stations.get st).stack = (u.stations.get st).stack
  parked : ∀ st, (x.stations.get st).parked = (u.stations.get st).parked

namespace LaneUnit

theorem get_mapStation (u : LaneUnit) (st k : Station) (f : StationState → StationState) :
    (u.mapStation st f).stations.get k = if k = st then f (u.stations.get st) else u.stations.get k := by
  unfold LaneUnit.mapStation
  simp only [vector_get]
  split
  · rename_i same
    subst same
    exact Vector.getElem_set_self _
  · rename_i other
    exact Vector.getElem_set_ne _ _ (Fin.val_ne_of_ne (Ne.symm other))

theorem SameStacks.trans {u x y : LaneUnit} (h : u.SameStacks x) (h' : x.SameStacks y) : u.SameStacks y :=
  ⟨h'.life.trans h.life, h'.gen.trans h.gen, fun st => (h'.stack st).trans (h.stack st),
    fun st => (h'.parked st).trans (h.parked st)⟩

theorem sameStacks_noteFinal (u : LaneUnit) (st : Station) (f : Final) (code : Option ReqCode) (index : Nat) :
    u.SameStacks (u.noteFinal st f code index) := by
  have noted (d : Detail) : u.SameStacks (u.mapStation st fun x => { x with detail := d }) := by
    refine ⟨rfl, rfl, fun k => ?_, fun k => ?_⟩ <;> rw [get_mapStation] <;> split
    · rename_i same; rw [same]
    · rfl
    · rename_i same; rw [same]
    · rfl
  unfold LaneUnit.noteFinal
  split
  · exact noted _
  · exact noted _
  · exact ⟨rfl, rfl, fun _ => rfl, fun _ => rfl⟩

end LaneUnit

namespace SameStacks

theorem refl (s : State) : SameStacks s s := ⟨fun _ => rfl, fun _ => rfl, fun _ _ => rfl, fun _ _ => rfl⟩

theorem trans (h : SameStacks s t) (h' : SameStacks t v) : SameStacks s v :=
  ⟨fun l => (h'.life l).trans (h.life l), fun l => (h'.gen l).trans (h.gen l),
    fun l st => (h'.stack l st).trans (h.stack l st), fun l st => (h'.parked l st).trans (h.parked l st)⟩

theorem of_lanes (lanes : t.lanes = s.lanes) : SameStacks s t := by
  have lane (l : Lane) : t.lane l = s.lane l := congrArg (fun v => v.get l) lanes
  exact ⟨fun l => by rw [lane], fun l => by rw [lane], fun l st => by rw [lane], fun l st => by rw [lane]⟩

/-- A lane set to a unit with the same attachment, stacks and parked counts. -/
theorem setLane (h : SameStacks s t) {l : Lane} {x : LaneUnit}
    (same : (t.lane l).SameStacks x := by exact ⟨rfl, rfl, fun _ => rfl, fun _ => rfl⟩) :
    SameStacks s (t.setLane l x) := by
  refine h.trans ?_
  have lane (k : Lane) : (t.lane k).SameStacks ((t.setLane l x).lane k) := by
    by_cases here : k = l
    · subst here
      rwa [State.lane_setLane]
    · rw [State.lane_setLane_ne _ _ here]
      exact ⟨rfl, rfl, fun _ => rfl, fun _ => rfl⟩
  exact ⟨fun k => (lane k).life, fun k => (lane k).gen, fun k => (lane k).stack, fun k => (lane k).parked⟩

theorem send (h : SameStacks s t) (l : Lane) (w : LaneWord) : SameStacks s (t.send l w) := h.trans (.of_lanes rfl)

theorem sendAwaited (h : SameStacks s t) (l : Lane) (w : LaneWord) : SameStacks s (t.sendAwaited l w) :=
  h.setLane.send l w

theorem setStep (h : SameStacks s t) (l : Lane) (ex : Exchange) (step : ExchangeStep) : SameStacks s (t.setStep l ex step) :=
  h.setLane

theorem sendFinal (h : SameStacks s t) (l : Lane) (ex : Exchange) (f : Final) (code : Option ReqCode) (index : Nat) :
    SameStacks s (t.sendFinal l ex f code index) := by
  have closing : (t.lane l).SameStacks { t.lane l with exchange := some { ex with step := .closing f } } :=
    ⟨rfl, rfl, fun _ => rfl, fun _ => rfl⟩
  exact (h.setLane (closing.trans (LaneUnit.sameStacks_noteFinal _ _ _ _ _))).sendAwaited _ _

theorem sendAnswer (h : SameStacks s t) (l : Lane) (ex : Exchange) (a : Answer) : SameStacks s (t.sendAnswer l ex a) := by
  unfold State.sendAnswer
  split
  · exact h.sendFinal _ _ _ _ _
  · exact (h.setStep _ _ _).sendAwaited _ _

theorem takeAnswer (h : SameStacks s t) (l : Lane) (ex : Exchange) (a : Answer) (g : Bool) :
    SameStacks s (t.takeAnswer l ex a g) := by
  unfold State.takeAnswer
  split
  · exact h.setStep _ _ _
  · exact h.sendAnswer _ _ _

theorem routeAnswer (h : SameStacks s t) (op : Op) : SameStacks s (t.routeAnswer op) := by
  unfold State.routeAnswer
  split
  · unfold State.handAnswer
    dsimp only
    split
    · split
      · exact h.takeAnswer _ _ _ _
      · exact h
    · exact h
  · exact h

theorem openExchange (h : SameStacks s t) (l : Lane) (st : Station) : SameStacks s (t.openExchange l st) := by
  unfold State.openExchange
  dsimp only
  split
  · exact (h.setStep _ _ _).sendAwaited _ _
  · exact h.sendFinal _ _ _ _ _

theorem useIdleLine (h : SameStacks s t) (l : Lane) : SameStacks s (t.useIdleLine l) := by
  unfold State.useIdleLine
  dsimp only
  split
  · split
    · exact h.setLane.openExchange _ _
    · split
      · exact h.setLane.sendAwaited _ _
      · exact h
  · exact h

theorem leaveQueue (h : SameStacks s t) (op : Op) : SameStacks s (t.leaveQueue op) := by
  obtain ⟨-, lanes, -⟩ := t.leaveQueue_frame op
  exact h.trans (.of_lanes lanes)

theorem setOwed (h : SameStacks s t) (l : Lane) (b : Bool) : SameStacks s (t.setOwed l b) :=
  h.setLane

theorem announce (h : SameStacks s t) (l : Lane) : SameStacks s (t.announce l) := by
  have queued (q : List Notice) : SameStacks s (t.setOutbound q) := h.trans (.of_lanes rfl)
  rcases t.announce_cases l with ⟨q, -, e⟩ | ⟨-, ⟨-, e⟩ | ⟨-, e⟩⟩ <;> rw [e]
  · exact (queued q).setOwed l false
  · exact (queued _).setOwed l false
  · exact h.setOwed l true

theorem claim (h : SameStacks s t) (c : Claim) : SameStacks s (t.claim c) := by
  cases c with
  | laneState l =>
    show SameStacks s (t.postOwedLaneState l)
    unfold State.postOwedLaneState
    split
    · exact h.announce l
    · exact h
  | fault => exact h.trans (.of_lanes t.postOwedFault_lanes)
  | overrun => exact h.trans (.of_lanes t.confirmOverrun_lanes)
  | sideList => exact h.trans (.of_lanes t.moveSideList_lanes)
  | marker => exact h.trans (.of_lanes t.confirmMarker_lanes)

theorem claimAll (h : SameStacks s t) (cs : List Claim) : SameStacks s (t.claimAll cs) := by
  unfold State.claimAll
  induction cs generalizing t with
  | nil => exact h
  | cons c cs ih => exact ih (h.claim c)

theorem markGranted (h : SameStacks s t) (p : Nat) : SameStacks s (t.markGranted p) := by
  unfold State.markGranted
  split
  · dsimp only
    split
    · exact h.setStep _ _ _
    · exact h
  · exact h

theorem serviceLimited (h : SameStacks s t) (p : Nat) : SameStacks s (t.serviceLimited p) := by
  unfold State.serviceLimited
  split
  · dsimp only
    split
    · exact h.takeAnswer _ _ _ _
    · exact h
  · exact h

theorem searchOver (h : SameStacks s t) (ps : List Nat) : SameStacks s (t.searchOver ps) := by
  induction ps generalizing t with
  | nil => exact h
  | cons p ps ih =>
    unfold State.searchOver
    split
    · exact ih h
    · split
      · exact (h.markGranted p).trans (.of_lanes rfl)
      · split
        · exact ih (h.serviceLimited p)
        · exact ih h

theorem search (h : SameStacks s t) : SameStacks s t.search := by
  unfold State.search
  split
  · exact h.searchOver _
  · exact h

/-- A station notice handed to its lane is stacked there, or discarded (R153); the stacks do not change otherwise. -/
theorem stacks_handNotice (h : SameStacks s t) (o : Origin) (n : StationNotice) : Stacks s (t.handNotice o n) o n := by
  have attached : s.standsFor o ↔ (t.lane o.lane).isAttached = true ∧ (t.lane o.lane).gen = o.gen := by
    unfold State.standsFor LaneUnit.isAttached
    rw [h.life, h.gen]
  unfold State.handNotice
  dsimp only
  refine ⟨fun stands => ?_, fun gone => ?_⟩
  · rw [if_pos (attached.mp stands)]
    generalize hx : (t.lane o.lane).mapStation o.station (fun x => x.stackNotice n) = x
    have here : (x.stations.get o.station) = ((t.lane o.lane).stations.get o.station).stackNotice n := by
      rw [← hx, LaneUnit.get_mapStation, if_pos rfl]
    have used := useIdleLine (refl (t.setLane o.lane x)) o.lane
    unfold State.stationAt
    rw [used.stack, used.parked, State.lane_setLane, here, ← h.stack, ← h.parked]
    exact ⟨rfl, rfl⟩
  · rw [if_neg (fun stands => gone (attached.mpr stands))]
    exact ⟨h.stack _ _, h.parked _ _⟩

end SameStacks

theorem Stacks.of_after {o : Origin} {n : StationNotice} (h : Stacks s t o n) (later : SameStacks t v) : Stacks s v o n := by
  unfold Stacks State.stationAt at *
  rw [later.stack, later.parked]
  exact h

/-- The completion of an operation that hands no station notice. -/
theorem State.finishOp_sameStacks {op : Op} (s : State) (silent : op.handed = []) (claims : List Claim) :
    SameStacks s (s.finishOp op claims) := by
  have left := (SameStacks.refl s).leaveQueue op
  unfold State.finishOp
  dsimp only
  split
  · exact left.trans (.of_lanes rfl)
  · rw [silent]
    have freed : SameStacks s { ((s.leaveQueue op).routeAnswer op).handNotices [] with engine := .free } :=
      (left.routeAnswer op).trans (.of_lanes rfl)
    exact (freed.claimAll claims).search

/-- The completion of an operation that hands one station notice, with no warm reset owed (R10, R11, R153). -/
theorem State.finishOp_stacks {op : Op} {o : Origin} {n : StationNotice} (s : State) (one : op.handed = [(o, n)])
    (runs : op.resetOwed = false) (claims : List Claim) : Stacks s (s.finishOp op claims) o n := by
  have handed := (((SameStacks.refl s).leaveQueue op).routeAnswer op).stacks_handNotice o n
  unfold State.finishOp
  dsimp only
  rw [runs, one, if_neg Bool.false_ne_true]
  generalize hw : ({ ((s.leaveQueue op).routeAnswer op).handNotices [(o, n)] with engine := .free } : State) = w
  have freed : SameStacks (((s.leaveQueue op).routeAnswer op).handNotice o n) w := by
    rw [← hw]
    exact .of_lanes rfl
  exact handed.of_after (freed.claimAll claims).search

/-! ## The row of a request (R10, R166) -/

/-- t is what the completion of a request leaves of w, the state of its work, with this answer. -/
structure RequestEnds (s w t : State) (op : Op) (a : Answer) : Prop where
  tables : t.tables = w.tables
  answers : Answers s t op a
  posted : ∀ n, n.single = true → w.HasPosted n → n ∈ t.link.outbound
  stations : op.handed = [] → SameStacks w t

/-- A granted request whose posts have all found room. -/
theorem Granted.request_ends {w : State} {op : Op} {x : Crossing} {code : ReqCode} {fields : List Nat} {a : Answer} {k : Nat}
    (h : Granted s op x) (kind : op.kind = .request code fields) (served : code.work op s = (w, a)) (room : w.hasRoom k) :
    ∃ t, exec (code.command x) s = .next t ∧ RequestEnds s w t op a := by
  have works : Works (AtStation op.from) s w := by
    have made := code.works op s
    rwa [served] at made
  have keeps := works.keepsLines
  obtain ⟨left, busy, quiet, -⟩ := id room
  obtain ⟨done, busyDone, same⟩ := (works.mono fun _ _ h => h.adjusts).carries.op op h.busy
  obtain rfl : left = done := Engine.busy.inj (busy.symm.trans busyDone)
  obtain ⟨done, busyDone, handed⟩ := keeps.handed op h.busy
  obtain rfl : left = done := Engine.busy.inj (busy.symm.trans busyDone)
  have answered : (State.answer (w, a)).engine = .busy { left with answer := some a } := by
    simp [State.answer, busy, Engine.mapOp]
  have performs : exec (code.command x) s =
      .next ((State.answer (w, a)).finishOp { left with answer := some a } x.claims).startSending := by
    rw [code.exec_command]
    unfold State.request
    rw [State.command_perform h.noReset h.busy (by simp [kind, OpKind.isRequest]), h.crossed, served,
      State.complete_done answered quiet]
  refine ⟨_, performs, State.finishOp_tables _ _ _, fun o ex awaited => ?_, fun n single posted => ?_, fun silent => ?_⟩
  · have from_ : op.from = o := by simp [Op.from, awaited.origin]
    rw [from_] at keeps
    have awaited' : AwaitedBy (State.answer (w, a)) op o ex :=
      ⟨awaited.origin, keeps.exchange.trans awaited.working, awaited.granted, keeps.gen.trans awaited.sameGen,
        awaited.sameSt, keeps.closingCall.trans awaited.quiet, awaited.noOwed⟩
    have complete := State.complete_answers _ x.claims answered quiet (same.resetOwed.trans awaited.noOwed) rfl same.origin
      awaited'
    rwa [State.complete_done answered quiet] at complete
  · exact State.finishOp_mem _ _ _ (posted.queued room) (Notice.isLaneState_single single)
  · have done := (State.answer (w, a)).finishOp_sameStacks (op := { left with answer := some a }) (handed.trans silent)
      x.claims
    exact ((SameStacks.of_lanes rfl : SameStacks w (State.answer (w, a))).trans done).trans (.of_lanes rfl)

end Sys2Proof.Machine
end

section
/-! PROOF. The offer of a copy (R94): its notices stand. -/

namespace Sys2Proof.Machine

variable {s : State} {k : Nat} {tt : Title}

theorem State.trap_hasPosted {op : Op} (busy : s.engine = .busy op) (title : Nat) (x : QueueItem × Hold)
    (copy ret : Option Nat) :
    (s.trap k title x copy ret).HasPosted (.trapped title x.2.patron x.2.branch s.pickupDeadline copy ret) := by
  unfold State.trap
  dsimp only
  generalize hv : State.mapTitle _ _ _ = v
  have engine : v.engine = .busy op := by
    rw [← hv, State.mapTitle_engine]
    exact busy
  exact (State.post_hasPosted engine _).mapOp fun _ => List.Subset.refl _

/-- The shelf count of a title after a copy has been put on the shelf (R94). -/
def Title.shelfAfter (t : Title) : Nat := if 255 ≤ t.shelf then t.shelf else t.shelf + 1

theorem State.shelve_hasPosted {op : Op} (busy : s.engine = .busy op) (tt : Title) (copy ret : Option Nat) :
    (s.shelve k tt copy ret).HasPosted (.copyReleased tt.id copy ret tt.shelfAfter) := by
  unfold State.shelve Title.shelfAfter
  split
  · exact State.post_hasPosted ((s.logFault_onlyLogs _ _ _).engine.trans busy) _
  · exact State.post_hasPosted ((s.mapTitle_engine _ _).trans busy) _

theorem State.shelve_clamps (full : 255 ≤ tt.shelf) (copy ret : Option Nat) :
    (s.shelve k tt copy ret).faults.has .countClamp = true := by
  unfold State.shelve
  rw [if_pos full, State.post_faults]
  exact (s.logFault_has _ _ _ _).mpr (.inr rfl)

theorem State.offeredTitles_other (tt : Title) {n : Nat} (other : n ≠ k) :
    Tbl.lookup (s.offeredTitles k tt) n = Tbl.lookup s.titles n := by
  unfold State.offeredTitles
  split
  · exact Tbl.lookup_store_ne _ _ _ _ other
  · split
    · rfl
    · exact Tbl.lookup_store_ne _ _ _ _ other

/-- With no WAITING entry the title's record differs in the shelf count alone. -/
theorem State.offeredTitles_shelf (resident : s.titleAt k = some tt) (none_ : s.firstWaiting tt = none) :
    Tbl.lookup (s.offeredTitles k tt) k = some (.resident { tt with shelf := tt.shelfAfter }) := by
  unfold State.offeredTitles Title.shelfAfter
  rw [none_]
  dsimp only
  split
  · exact State.titleAt_eq_some.mp resident
  · exact Tbl.lookup_store_same _ _ _

/-- Settles O21: the offer's first WAITING entry decides between the two records it writes and the two notices it posts. -/
theorem offerGoesToTheFirstWaitingEntry : Obligations.OfferGoesToTheFirstWaitingEntry := by
  intro s k tt copy ret clean resident
  dsimp only
  obtain ⟨patrons, loans, titles, pool, -⟩ :=
    State.tables_eq_iff (w := { s with titles := s.offeredTitles k tt, pool := s.offeredPool tt copy }).mp
      (State.offerCopy_tables clean resident copy ret)
  have queued {n : Notice} (posted : ∀ op, s.engine = .busy op → (s.offerCopy k copy ret).1.HasPosted n) (op : Op)
      (busy : s.engine = .busy op) (quiet : op.waiting = []) (room : 1 ≤ op.reservation) :
      n ∈ (s.offerCopy k copy ret).1.link.outbound :=
    (posted op busy).queued (State.offerCopy_room (r := 0) clean resident copy ret ⟨op, busy, quiet, room⟩)
  refine ⟨fun i h first => ?traps, fun none_ => ?shelves, fun n other => ?_, patrons, loans⟩
  case traps =>
    have e := State.offerCopy_traps clean resident first copy ret
    dsimp only at titles pool
    rw [State.offeredTitles, first] at titles
    rw [State.offeredPool, first] at pool
    refine ⟨by rw [e], ?_, fun n other => ?_, State.titleAt_eq_some.mpr ?_, queued fun op busy => ?_⟩
    · rw [pool]
      exact Tbl.lookup_store_same _ _ _
    · rw [pool]
      exact Tbl.lookup_store_ne _ _ _ _ other
    · rw [titles]
      exact Tbl.lookup_store_same _ _ _
    · rw [e]
      exact State.trap_hasPosted busy _ _ _ _
  case shelves =>
    have e := State.offerCopy_shelves clean resident none_ copy ret
    dsimp only at titles pool
    rw [State.offeredPool, none_] at pool
    refine ⟨by rw [e], pool, State.titleAt_eq_some.mpr ?_, fun full => ?_, queued fun op busy => ?_⟩
    · rw [titles]
      exact State.offeredTitles_shelf resident none_
    · rw [e]
      exact State.shelve_clamps full _ _
    · rw [e]
      exact State.shelve_hasPosted busy _ _ _
  · rw [titles]
    exact State.offeredTitles_other tt other

end Sys2Proof.Machine
end

section
/-! PROOF. The removal of an entry (R111), in a memory without damage. -/

namespace Sys2Proof.Machine

variable {s v : State} {k title : Nat} {tt : Title} {i : QueueItem}

/-- The patron records once a title has left the hold list of a patron whose record is RESIDENT (R111). -/
def State.listingsWithout (s : State) (patron title : Nat) : Tbl PatronRec :=
  match s.findPatron patron with
  | some n =>
    match s.patronAt n with
    | some p => Tbl.store s.patrons n (.resident { p with holds := p.holds.filter (· != title) })
    | none => s.patrons
  | none => s.patrons

theorem State.listingsWithout_resident {patron n : Nat} {p : Patron} (found : s.findPatron patron = some n)
    (resident : s.patronAt n = some p) (title : Nat) :
    s.listingsWithout patron title =
      Tbl.store s.patrons n (.resident { p with holds := p.holds.filter (· != title) }) := by
  unfold State.listingsWithout
  simp only [found, resident]

theorem State.listingsWithout_other {patron : Nat} (other : ∀ n, s.findPatron patron = some n → s.patronAt n = none)
    (title : Nat) : s.listingsWithout patron title = s.patrons := by
  unfold State.listingsWithout
  split
  · rename_i n found
    rw [other n found]
  · rfl

theorem State.findPatron_of_table (same : v.patrons = s.patrons) (id : Nat) : v.findPatron id = s.findPatron id := by
  unfold State.findPatron
  rw [same]

theorem State.listingsWithout_of_table (same : v.patrons = s.patrons) (patron title : Nat) :
    v.listingsWithout patron title = s.listingsWithout patron title := by
  unfold State.listingsWithout
  simp only [State.findPatron_of_table same, State.patronAt_of_table same, same]

theorem State.dropFromHolds_clean (clean : s.upsets = []) (patron title : Nat) :
    s.dropFromHolds patron title = { s with patrons := s.listingsWithout patron title } := by
  cases found : s.findPatron patron with
  | none =>
    unfold State.dropFromHolds State.listingsWithout
    simp only [found]
  | some n =>
    unfold State.dropFromHolds State.listingsWithout State.mapPatron
    cases resident : s.patronAt n with
    | none => simp only [found, resident]
    | some p => simp only [found, resident, State.setPatron_clean clean]

/-- The state without the entry of an item: its item with its count, its pool slot and the listings of its title. -/
def State.removed (s : State) (k title : Nat) (i : QueueItem) (tt : Title) : State :=
  { s with
    titles := Tbl.store s.titles k (.resident (tt.without i.slot ((s.holdAt i.slot).map Hold.state)))
    pool := Tbl.release s.pool i.slot
    patrons := s.listingsWithout i.patron title }

theorem State.removeEntry_removed (clean : s.upsets = []) (resident : s.titleAt k = some tt) (title : Nat)
    (i : QueueItem) (reason : HoldChange) :
    s.removeEntry k title i reason = (s.removed k title i tt).post (.holdChange title i.patron reason 0) := by
  unfold State.removeEntry
  dsimp only
  rw [State.mapTitle_clean clean resident]
  rw [State.freePool_clean (s := { s with titles := Tbl.store s.titles k _ }) clean]
  generalize hw : ({ s with titles := Tbl.store s.titles k _, pool := Tbl.release s.pool i.slot } : State) = w
  have cleanW : w.upsets = [] := by rw [← hw]; exact clean
  have patrons : w.patrons = s.patrons := by rw [← hw]
  rw [State.lookUpPatron_clean cleanW, State.dropFromHolds_clean cleanW, State.listingsWithout_of_table patrons, ← hw]
  rfl

theorem State.removeEntry_tables (clean : s.upsets = []) (resident : s.titleAt k = some tt) (title : Nat)
    (i : QueueItem) (reason : HoldChange) :
    (s.removeEntry k title i reason).tables = (s.removed k title i tt).tables := by
  rw [State.removeEntry_removed clean resident, State.post_tables]

/-- Settles O22: the removal writes the three tables as `State.removed` says, and its one post uses a reserved entry. -/
theorem removalTakesTheEntryOutEverywhere : Obligations.RemovalTakesTheEntryOutEverywhere := by
  intro s k tt i reason clean resident
  dsimp only
  have made := State.removeEntry_tables clean resident tt.id i reason
  obtain ⟨patrons, -, titles, pool, -⟩ := State.tables_eq_iff.mp made
  have title : (s.removeEntry k tt.id i reason).titleAt k =
      some (tt.without i.slot ((s.holdAt i.slot).map Hold.state)) := by
    rw [State.titleAt_eq_some, titles]
    exact Tbl.lookup_store_same _ _ _
  refine ⟨title, fun lost => ?lost, fun h held => ⟨fun state => ?_, fun day state => ?_, fun deadline copy state => ?_⟩,
    fun n other => ?_, ?_, fun n other => ?_, fun pslot p found owner => ⟨?_, fun n other => ?_⟩, fun gone => ?_, ?_,
    fun op busy quiet room => ?reserved⟩
  case lost =>
    rw [title, lost]
    rfl
  case reserved =>
    rw [State.removeEntry_removed clean resident, State.post_reserved (s := s.removed k tt.id i tt) busy quiet room
      (n := .holdChange tt.id i.patron reason 0) fun _ => rfl]
    rfl
  · rw [title, held, Option.map_some, state]
    rfl
  · rw [title, held, Option.map_some, state]
    rfl
  · rw [title, held, Option.map_some, state]
    rfl
  · rw [titles]
    exact Tbl.lookup_store_ne _ _ _ _ other
  · rw [pool]
    exact Tbl.lookup_release_same _ _
  · rw [pool]
    exact Tbl.lookup_release_ne _ _ _ other
  · rw [State.patronAt_eq_some, patrons, State.removed, State.listingsWithout_resident found owner]
    exact Tbl.lookup_store_same _ _ _
  · rw [patrons, State.removed, State.listingsWithout_resident found owner]
    exact Tbl.lookup_store_ne _ _ _ _ other
  · rw [patrons]
    exact State.listingsWithout_other gone tt.id
  · rw [made, patrons, titles, pool]
    rfl

end Sys2Proof.Machine
end

section
/-! PROOF. The entry that a patron's request names (R100), and the rows of the requests and messages about entries. -/

namespace Sys2Proof.Machine

variable {s t u v w : State} {op : Op} {x : Crossing} {code : ReqCode} {fields : List Nat} {m : Message} {id slot k title : Nat}
  {p : Patron} {tt : Title} {i : QueueItem} {h : Hold} {r : Refused}

/-! ## The title of an id -/

theorem State.titlePlace_absent (absent : u.findTitle title = none) : u.titlePlace title = .absent := by
  unfold State.titlePlace
  rw [absent]

theorem State.titlePlace_fetching {j : Nat} {tag : TagId} (found : u.findTitle title = some k)
    (here : Tbl.lookup u.titles k = some (.fetching j tag)) : u.titlePlace title = .fetching k tag := by
  unfold State.titlePlace
  simp only [found, here]

theorem State.titlePlace_damaged {j : Nat} (found : u.findTitle title = some k)
    (here : Tbl.lookup u.titles k = some (.damaged j)) : u.titlePlace title = .damaged k := by
  unfold State.titlePlace
  simp only [found, here]

theorem State.findTitle_spec (wf : Tbl.wf u.titles = true) (found : u.findTitle title = some k) :
    ∃ rec, Tbl.lookup u.titles k = some rec ∧ rec.id = title := by
  unfold State.findTitle at found
  split at found
  · cases found
  · obtain ⟨rec, here, same⟩ := Tbl.findSlot_spec wf found
    exact ⟨rec, here, by simpa using same⟩

/-- The record that the index finds for a title id carries it. -/
theorem State.titleAt_id (wf : Tbl.wf u.titles = true) (found : u.findTitle title = some k)
    (resident : u.titleAt k = some tt) : tt.id = title := by
  obtain ⟨rec, here, rfl⟩ := State.findTitle_spec wf found
  rw [State.titleAt_eq_some.mp resident] at here
  cases here
  rfl

/-! ## The checks (R100) -/

theorem State.nameEntry_unlisted (unlisted : title ∉ p.holds) : u.nameEntry p title = (u, .error .notFound) := by
  unfold State.nameEntry
  rw [if_neg (by simpa using unlisted)]

theorem State.nameEntry_listed (clean : u.upsets = []) (listed : title ∈ p.holds) :
    u.nameEntry p title = (u,
      match u.titlePlace title with
      | .damaged _ => .error .damaged
      | .resident tslot t =>
        match t.itemOf p.id with
        | none => .error .notFound
        | some i =>
          match u.holdAt i.slot with
          | some h => .ok ⟨tslot, title, i, h⟩
          | none => .error .damaged
      | _ => .error .notFound) := by
  unfold State.nameEntry
  rw [if_pos (by simpa using listed), State.readTitleQueue_clean clean]
  dsimp only
  cases u.titlePlace title with
  | absent => rfl
  | fetching k tag => rfl
  | damaged k => rfl
  | resident k tt =>
    dsimp only
    cases tt.itemOf p.id with
    | none => rfl
    | some i =>
      dsimp only
      cases u.holdAt i.slot <;> rfl

/-- The first failing check of R100 names no entry. -/
theorem State.nameEntry_refused (clean : u.upsets = []) (refuses : u.refusesEntry p title r) :
    u.nameEntry p title = (u, .error r) := by
  rcases refuses with ⟨unlisted, rfl⟩ | ⟨listed, refuses⟩
  · exact State.nameEntry_unlisted unlisted
  rw [State.nameEntry_listed clean listed]
  rcases refuses with ⟨absent, rfl⟩ | ⟨k, found, ⟨⟨j, tag, here⟩, rfl⟩ | ⟨⟨j, here⟩, rfl⟩ | ⟨tt, resident, item⟩⟩
  · rw [State.titlePlace_absent absent]
  · rw [State.titlePlace_fetching found here]
  · rw [State.titlePlace_damaged found here]
  · rw [State.titlePlace_resident found resident]
    rcases item with ⟨none_, rfl⟩ | ⟨i, item, lost, rfl⟩
    · simp only [none_]
    · simp only [item, lost]

/-- An entry of a listed RESIDENT title: the first of the patron's items in its queue (notes/assumptions/71.md). -/
structure NamesEntry (u : State) (p : Patron) (title k : Nat) (tt : Title) (i : QueueItem) (h : Hold) : Prop where
  clean : u.upsets = []
  wf : Tbl.wf u.titles = true
  listed : title ∈ p.holds
  found : u.findTitle title = some k
  resident : u.titleAt k = some tt
  item : tt.itemOf p.id = some i
  held : u.holdAt i.slot = some h

theorem NamesEntry.nameEntry (e : NamesEntry u p title k tt i h) : u.nameEntry p title = (u, .ok ⟨k, title, i, h⟩) := by
  rw [State.nameEntry_listed e.clean e.listed, State.titlePlace_resident e.found e.resident]
  simp only [e.item, e.held]

theorem NamesEntry.titleId (e : NamesEntry u p title k tt i h) : tt.id = title := State.titleAt_id e.wf e.found e.resident

theorem NamesEntry.patron (e : NamesEntry u p title k tt i h) : i.patron = p.id := Title.itemOf_patron e.item

/-! ## The rows -/

theorem Serves.servesOnly (h : Serves s op x code fields slot u p) : ServesOnly s u := by
  rw [h.after]
  exact (ServesOnly.refl h.noErr h.canon.1).served slot

theorem Serves.room {k : Nat} (h : Serves s op x code fields slot u p) (room : k + 1 ≤ op.reservation) : u.hasRoom k := by
  rw [h.after]
  exact State.served_room h.noErr h.canon.1 ⟨op, h.busy, h.noWait, room⟩ slot

theorem Serves.field (h : Serves s op x code fields slot u p) (n : Nat) : op.field n = fields.getD n 0 := by
  unfold Op.field
  rw [h.kind]

/-- A request of a RESIDENT patron does what its body says. -/
theorem Serves.body (h : Serves s op x code fields slot u p) (width : Nat) (lost : Patron → Answer)
    (body : Nat → Patron → State → Served) : s.servePatron (op.field 0) width lost body = body slot p u := by
  have first : op.field 0 = fields.headD 0 := by
    rw [h.field]
    cases fields <;> rfl
  have patron := h.patron
  rw [h.after] at patron ⊢
  rw [first]
  exact State.servePatron_served h.noErr h.found h.resident patron width lost body

/-- Serving a patron leaves the title table canonical, and the pool. -/
theorem ServesOnly.titlesWf (only : ServesOnly s u) (canon : s.canonical) : Tbl.wf u.titles = true := by
  obtain ⟨-, -, wf, -⟩ := canon
  rwa [show u.titles = s.titles from (congrArg Tables.titles only.frame :)]

theorem ServesOnly.namesEntry (only : ServesOnly s u) (canon : s.canonical) (listed : title ∈ p.holds)
    (found : u.findTitle title = some k) (resident : u.titleAt k = some tt) (item : tt.itemOf p.id = some i)
    (held : u.holdAt i.slot = some h) : NamesEntry u p title k tt i h :=
  ⟨only.clean, only.titlesWf canon, listed, found, resident, item, held⟩

/-- A request whose work leaves the state that the catch-up left. -/
theorem Serves.quiet_row {a : Answer} (h : Serves s op x code fields slot u p) (room : 1 ≤ op.reservation)
    (work : code.work op s = (u, a)) : ∃ y, exec (code.command x) s = .next y ∧ y.tables = u.tables ∧ Answers s y op a := by
  obtain ⟨y, next, ends⟩ := h.toGranted.request_ends h.kind work (h.room (k := 0) room)
  exact ⟨y, next, ends.tables, ends.answers⟩

/-- The end of a message that this work of it makes. -/
theorem Performs.row_ends {row : Crossing → Instr} {work : Message → State → Confirmed} {status : Status} {cs : List CField}
    (works : ∀ s, Works Adjusts s (work m s).1)
    (performs : exec (row x) s = State.message (OpKind.isMessage m.kind) work x s) (h : Performs s op x m)
    (served : work m s = (w, status, cs)) (room : w.hasRoom 1) :
    ∃ t, exec (row x) s = .next t ∧ MessageEnds s w t m.kind status cs := by
  have made := works s
  rw [served] at made
  exact h.message_row (by simp [h.kind, OpKind.isMessage]) performs served made room

/-- What a message has posted stands after its completion. -/
theorem MessageEnds.posted {kind : Nat} {status : Status} {cs : List CField} {n : Notice}
    (ends : MessageEnds s w t kind status cs) (room : w.hasRoom k) (single : n.single = true) (posted : w.HasPosted n) :
    n ∈ t.link.outbound :=
  ends.kept n (posted.queued room) (Notice.isLaneState_single single)

end Sys2Proof.Machine
end

section
/-! PROOF. CANCEL_HOLD and HOLD_CANCEL (R94, R100, R111). -/

namespace Sys2Proof.Machine

variable {s u v y : State} {op : Op} {x : Crossing} {id slot k title : Nat} {p : Patron} {tt left : Title} {i : QueueItem}
  {h : Hold} {r : Refused}

/-! ## The entry cancelled -/

theorem OnlyPosts.upsets (posts : OnlyPosts s u) : u.upsets = s.upsets := by
  obtain ⟨q, f, g, rfl, -⟩ := posts
  rfl

theorem State.removeEntry_upsets (clean : s.upsets = []) (resident : s.titleAt k = some tt) (title : Nat) (i : QueueItem)
    (reason : HoldChange) : (s.removeEntry k title i reason).upsets = [] := by
  rw [State.removeEntry_removed clean resident]
  exact (State.post_onlyPosts _ _).upsets.trans clean

theorem State.removeEntry_room {n : Nat} (clean : s.upsets = []) (resident : s.titleAt k = some tt) (title : Nat)
    (i : QueueItem) (reason : HoldChange) (room : s.hasRoom (n + 1)) : (s.removeEntry k title i reason).hasRoom n := by
  rw [State.removeEntry_removed clean resident]
  exact (State.post_room (s := s.removed k title i tt) room _).2

theorem State.removeEntry_hasPosted (clean : s.upsets = []) (resident : s.titleAt k = some tt) (title : Nat)
    (i : QueueItem) (reason : HoldChange) (busy : s.engine = .busy op) :
    (s.removeEntry k title i reason).HasPosted (.holdChange title i.patron reason 0) := by
  rw [State.removeEntry_removed clean resident]
  exact State.post_hasPosted (s := s.removed k title i tt) busy _

theorem State.removeEntry_titleAt (clean : s.upsets = []) (resident : s.titleAt k = some tt) (title : Nat) (i : QueueItem)
    (reason : HoldChange) :
    (s.removeEntry k title i reason).titleAt k = some (tt.without i.slot ((s.holdAt i.slot).map Hold.state)) := by
  rw [State.titleAt_eq_some, (State.tables_eq_iff.mp (State.removeEntry_tables clean resident title i reason)).2.2.1]
  exact Tbl.lookup_store_same _ _ _

theorem State.removeEntry_pickupDeadline (clean : s.upsets = []) (resident : s.titleAt k = some tt) (title : Nat)
    (i : QueueItem) (reason : HoldChange) : (s.removeEntry k title i reason).pickupDeadline = s.pickupDeadline := by
  obtain ⟨-, -, -, -, calendar, schedule, -⟩ :=
    State.tables_eq_iff.mp (State.removeEntry_tables clean resident title i reason)
  unfold State.pickupDeadline State.today
  rw [calendar, schedule]
  rfl

/-- A removal keeps the engine BUSY. -/
theorem State.removeEntry_busy (title : Nat) (i : QueueItem) (reason : HoldChange) (busy : s.engine = .busy op) :
    ∃ done, (s.removeEntry k title i reason).engine = .busy done := by
  obtain ⟨done, busyDone, -⟩ := (Works.refl.removeEntry (K := Adjusts) k title i reason).carries.op op busy
  exact ⟨done, busyDone⟩

/-- The notice of a READY entry's copy, offered on once the entry is gone (R94, R100). -/
def State.offersOn (s v : State) (left : Title) (copy branch : Option Nat) : Notice :=
  match v.firstWaiting left with
  | some (_, g) => .trapped left.id g.patron g.branch s.pickupDeadline copy branch
  | none => .copyReleased left.id copy branch left.shelfAfter

/-- What the cancellation of an entry leaves: both of its notices are posted, against two reserved entries. -/
structure Cancels (u y : State) (title k : Nat) (i : QueueItem) (h : Hold) : Prop where
  change : y.HasPosted (.holdChange title i.patron .cancelled 0)
  offer : ∀ deadline copy left, h.state = .ready deadline copy →
    (u.removeEntry k title i .cancelled).titleAt k = some left →
      y.HasPosted (u.offersOn (u.removeEntry k title i .cancelled) left copy (some h.branch))
  room : ∀ n, u.hasRoom (n + 2) → y.hasRoom n

theorem State.offerCopy_hasPosted (clean : s.upsets = []) (resident : s.titleAt k = some tt) (busy : s.engine = .busy op)
    (copy ret : Option Nat) : (s.offerCopy k copy ret).1.HasPosted (s.offersOn s tt copy ret) := by
  unfold State.offersOn
  cases first : s.firstWaiting tt with
  | some w =>
    rw [State.offerCopy_traps clean resident first]
    exact State.trap_hasPosted busy _ _ _ _
  | none =>
    rw [State.offerCopy_shelves clean resident first]
    exact State.shelve_hasPosted busy _ _ _

theorem State.cancelEntry_cancels (clean : u.upsets = []) (resident : u.titleAt k = some tt) (busy : u.engine = .busy op)
    (title : Nat) (i : QueueItem) (h : Hold) : Cancels u (u.cancelEntry ⟨k, title, i, h⟩) title k i h := by
  have change := State.removeEntry_hasPosted clean resident title i .cancelled busy
  have clean' := State.removeEntry_upsets clean resident title i .cancelled
  have there := State.removeEntry_titleAt clean resident title i .cancelled
  have deadlines := State.removeEntry_pickupDeadline clean resident title i .cancelled
  obtain ⟨done, busy'⟩ := State.removeEntry_busy (k := k) title i .cancelled busy
  have room (n : Nat) := State.removeEntry_room (n := n) clean resident title i .cancelled
  unfold State.cancelEntry
  dsimp only
  refine ⟨(Works.refl.offerSetAside k h).hasPosted rfl change, fun deadline copy left ready here => ?_, fun n enough => ?_⟩
  · have offered := State.offerCopy_hasPosted clean' here busy' copy (some h.branch)
    unfold State.offersOn at offered ⊢
    unfold State.offerSetAside
    simp only [ready]
    rwa [deadlines] at offered
  · unfold State.offerSetAside
    split
    · exact State.offerCopy_room clean' there _ _ (room _ enough)
    · exact State.hasRoom_succ (room _ enough)

/-! ## The two rows -/

theorem Serves.cancelHold_work (served : Serves s op x .cancelHold [id, title] slot u p) :
    ReqCode.cancelHold.work op s =
      match u.nameEntry p title with
      | (s, .error r) => (s, ⟨[.outcome .cancelHold (.refused r)], .refused r⟩)
      | (s, .ok e) => (s.cancelEntry e, ⟨[.outcome .cancelHold .ok], .ok⟩) := by
  show State.cancelHoldWork op s = _
  unfold State.cancelHoldWork
  rewrite [served.body, served.field]
  rfl

theorem Names.holdCancel_work (named : Names s op x (.holdCancel id title) id slot u p) :
    State.holdCancelWork (.holdCancel id title) s =
      match u.nameEntry p title with
      | (s, .error r) => (s, r.status, [])
      | (s, .ok e) => (s.cancelEntry e, .ok, [⟨1, e.hold.state.change.number⟩]) := by
  unfold State.holdCancelWork
  dsimp only
  rewrite [named.named]
  rfl

theorem Names.holdCancel_row {w : State} {status : Status} {cs : List CField}
    (named : Names s op x (.holdCancel id title) id slot u p)
    (work : State.holdCancelWork (.holdCancel id title) s = (w, status, cs)) (room : w.hasRoom 1) :
    ∃ y, exec (.holdCancel x) s = .next y ∧ MessageEnds s w y 11 status cs :=
  named.toPerforms.row_ends (row := .holdCancel) (fun _ => Works.refl.holdCancelWork _) rfl work room

/-- The notices of a cancellation as the statement spells them, in a state y where they stand. -/
theorem NamesEntry.cancel_notices (entry : NamesEntry u p title k tt i h) (busy : u.engine = .busy op)
    (stands : ∀ n, n.single = true → (u.cancelEntry ⟨k, title, i, h⟩).HasPosted n → n ∈ y.link.outbound) :
    .holdChange title p.id .cancelled 0 ∈ y.link.outbound ∧
      ∀ deadline copy left, h.state = .ready deadline copy →
        (u.removeEntry k title i .cancelled).titleAt k = some left →
          (∀ j g, (u.removeEntry k title i .cancelled).firstWaiting left = some (j, g) →
            .trapped title g.patron g.branch u.pickupDeadline copy (some h.branch) ∈ y.link.outbound) ∧
          ((u.removeEntry k title i .cancelled).firstWaiting left = none →
            .copyReleased title copy (some h.branch) left.shelfAfter ∈ y.link.outbound) := by
  have cancels := State.cancelEntry_cancels entry.clean entry.resident busy title i h
  refine ⟨stands _ rfl (entry.patron ▸ cancels.change), fun deadline copy left ready there => ?_⟩
  have offered := cancels.offer deadline copy left ready there
  rw [State.removeEntry_titleAt entry.clean entry.resident] at there
  have titleId : left.id = title := by
    cases there
    exact entry.titleId
  unfold State.offersOn at offered
  rw [titleId] at offered
  refine ⟨fun j g first => ?_, fun none_ => ?_⟩
  · rw [first] at offered
    exact stands _ rfl offered
  · rw [none_] at offered
    exact stands _ rfl offered

/-- Settles O25: both rows name the entry by the same checks, and cancel it as `Cancels` says. -/
theorem cancellationRemovesAndOffersOn : Obligations.CancellationRemovesAndOffersOn := by
  refine ⟨fun s op x id title slot u p r refuses => ⟨fun served room => ?_, fun named room => ?_⟩,
    fun s op x id title slot u p k tt i h listed found resident item held => ?_⟩
  · have work := served.cancelHold_work
    rw [State.nameEntry_refused served.servesOnly.clean refuses] at work
    exact served.quiet_row (by omega) work
  · have work := named.holdCancel_work
    rw [State.nameEntry_refused named.servesOnly.clean refuses] at work
    obtain ⟨y, next, ends⟩ := named.holdCancel_row work (named.room (by omega))
    exact ⟨y, next, ends.tables, ends.confirms⟩
  · refine ⟨fun served room => ?_, fun named room => ?_⟩
    · have entry := served.servesOnly.namesEntry served.canon listed found resident item held
      have work := served.cancelHold_work
      rw [entry.nameEntry] at work
      have enough := served.room (k := 2) room
      have ⟨left, busy, _⟩ := enough
      have cancels := State.cancelEntry_cancels entry.clean resident busy title i h
      obtain ⟨y, next, ends⟩ := served.toGranted.request_ends served.kind work (cancels.room 0 enough)
      exact ⟨y, next, ends.tables, entry.cancel_notices busy ends.posted, ends.answers⟩
    · have entry := named.servesOnly.namesEntry named.canon listed found resident item held
      have work := named.holdCancel_work
      rw [entry.nameEntry] at work
      have enough := named.room (k := 3) room
      have ⟨left, busy, _⟩ := enough
      have cancels := State.cancelEntry_cancels entry.clean resident busy title i h
      have confirm := cancels.room 1 enough
      obtain ⟨y, next, ends⟩ := named.holdCancel_row work confirm
      exact ⟨y, next, ends.tables, entry.cancel_notices busy fun n => ends.posted confirm, ends.confirms⟩

end Sys2Proof.Machine
end

section
/-! PROOF. An entry's state changed in its place (R101, R102, R111): SUSPEND_HOLD and RESUME_HOLD. -/

namespace Sys2Proof.Machine

variable {s u v y : State} {op : Op} {x : Crossing} {id slot k title day : Nat} {p : Patron} {tt : Title} {i : QueueItem}
  {h : Hold} {e : NamedEntry} {r : Refused} {st : HoldState}

/-! ## Positions (R88) -/

theorem State.holdAt_congr {n : Nat} (same : Tbl.lookup v.pool n = Tbl.lookup s.pool n) : v.holdAt n = s.holdAt n := by
  unfold State.holdAt
  rw [same]

theorem State.countHolds_congr {q : List QueueItem} (same : ∀ j ∈ q, v.holdAt j.slot = s.holdAt j.slot) (f : Hold → Bool) :
    v.countHolds q f = s.countHolds q f := by
  unfold State.countHolds
  rw [List.filter_congr fun j mem => by rw [same j mem]]

/-- An item's position goes by the queue and the entries of other slots. -/
theorem State.position_congr {after : Title} {n : Nat} (queue : after.queue = tt.queue)
    (same : ∀ j, j ≠ n → Tbl.lookup v.pool j = Tbl.lookup s.pool j) : v.position after n = s.position tt n := by
  unfold State.position
  rw [queue, State.countHolds_congr fun j ahead => State.holdAt_congr (same _ ?_)]
  simpa using List.mem_takeWhile_imp ahead

theorem State.changePosition_of_tables (titles : v.titles = s.titles) (pool : v.pool = s.pool) (n : Nat)
    (st : HoldState) : v.changePosition k n st = s.changePosition k n st := by
  have same (tt : Title) : v.position tt n = s.position tt n := State.position_congr rfl fun _ _ => by rw [pool]
  unfold State.changePosition
  rw [State.titleAt_of_table titles, funext same]

/-! ## A title's record and an entry, written (R86, R87) -/

/-- The state with this title table. -/
def State.withTitles (s : State) (titles : Tbl TitleRec) : State := { s with titles }

/-- t's tables differ from s's in one title's record and one entry. -/
structure WritesEntry (s t : State) (k : Nat) (tt : Title) (n : Nat) (h : Hold) : Prop where
  entry : Tbl.lookup t.pool n = some (.entry h)
  title : t.titleAt k = some tt
  otherPool : ∀ m, m ≠ n → Tbl.lookup t.pool m = Tbl.lookup s.pool m
  otherTitles : ∀ m, m ≠ k → Tbl.lookup t.titles m = Tbl.lookup s.titles m
  patrons : t.patrons = s.patrons
  loans : t.loans = s.loans
  tags : t.tags = s.tags
  tagLine : t.tagLine = s.tagLine
  calendar : t.calendar = s.calendar
  schedule : t.schedule = s.schedule
  sweep : t.sweep = s.sweep

theorem WritesEntry.of_tables {n : Nat} (w : WritesEntry s u k tt n h) (same : v.tables = u.tables) :
    WritesEntry s v k tt n h := by
  obtain ⟨patrons, loans, titles, pool, calendar, schedule, sweep, tags, tagLine⟩ := State.tables_eq_iff.mp same
  exact ⟨by rw [pool]; exact w.entry, (State.titleAt_of_table titles k).trans w.title,
    fun m other => by rw [pool]; exact w.otherPool m other, fun m other => by rw [titles]; exact w.otherTitles m other,
    patrons.trans w.patrons, loans.trans w.loans, tags.trans w.tags, tagLine.trans w.tagLine, calendar.trans w.calendar,
    schedule.trans w.schedule, sweep.trans w.sweep⟩

/-- A record written and then an entry of the title's queue, and the entry written again with the record. -/
theorem WritesEntry.again {n : Nat} {tt' : Title} {h' : Hold} (first : WritesEntry s u k tt n h)
    (second : WritesEntry u v k tt' n h') : WritesEntry s v k tt' n h' where
  entry := second.entry
  title := second.title
  otherPool m other := (second.otherPool m other).trans (first.otherPool m other)
  otherTitles m other := (second.otherTitles m other).trans (first.otherTitles m other)
  patrons := second.patrons.trans first.patrons
  loans := second.loans.trans first.loans
  tags := second.tags.trans first.tags
  tagLine := second.tagLine.trans first.tagLine
  calendar := second.calendar.trans first.calendar
  schedule := second.schedule.trans first.schedule
  sweep := second.sweep.trans first.sweep

/-! ## The change of a state (R111) -/

theorem State.changeEntry_tables (s : State) (e : NamedEntry) (st : HoldState) :
    (s.changeEntry e st).tables = (s.setPool e.item.slot (.entry { e.hold with state := st })).tables := by
  unfold State.changeEntry
  exact State.post_tables _ _

theorem State.changeEntry_room {n : Nat} (room : s.hasRoom (n + 1)) (e : NamedEntry) (st : HoldState) :
    (s.changeEntry e st).hasRoom n := by
  unfold State.changeEntry
  exact (State.post_room (s := s.setPool _ _) room _).2

theorem State.changeEntry_upsets (clean : s.upsets = []) (e : NamedEntry) (st : HoldState) :
    (s.changeEntry e st).upsets = [] := by
  unfold State.changeEntry
  refine (State.post_onlyPosts _ _).upsets.trans ?_
  rw [State.setPool_clean clean]
  exact clean

theorem State.changeEntry_busy (busy : s.engine = .busy op) (e : NamedEntry) (st : HoldState) :
    ∃ done, (s.changeEntry e st).engine = .busy done := by
  obtain ⟨done, busyDone, -⟩ := (Works.refl.changeEntry (K := Adjusts) e st).carries.op op busy
  exact ⟨done, busyDone⟩

theorem State.changeEntry_hasPosted (busy : s.engine = .busy op) (e : NamedEntry) (st : HoldState) :
    (s.changeEntry e st).HasPosted
      (.holdChange e.title e.item.patron st.change ((s.changeEntry e st).changePosition e.tslot e.item.slot st)) := by
  obtain ⟨-, -, titles, pool, -⟩ := State.tables_eq_iff.mp (s.changeEntry_tables e st)
  rw [State.changePosition_of_tables titles pool]
  exact State.post_hasPosted (s := s.setPool _ _) busy _

/-- A change of state in a title's queue, on title records that differ from s's in that title's. -/
theorem State.changeEntry_writes {titles : Tbl TitleRec} (clean : s.upsets = []) (e : NamedEntry) (st : HoldState)
    (here : Tbl.lookup titles e.tslot = some (.resident tt))
    (other : ∀ m, m ≠ e.tslot → Tbl.lookup titles m = Tbl.lookup s.titles m) :
    WritesEntry s ((s.withTitles titles).changeEntry e st) e.tslot tt e.item.slot { e.hold with state := st } := by
  have made := (s.withTitles titles).changeEntry_tables e st
  rw [State.setPool_clean (s := s.withTitles titles) clean] at made
  refine WritesEntry.of_tables (u := { s with
      titles
      pool := Tbl.store s.pool e.item.slot (.entry { e.hold with state := st }) })
    ⟨Tbl.lookup_store_same _ _ _, State.titleAt_eq_some.mpr here, fun m ne => ?_, other, rfl, rfl, rfl, rfl, rfl, rfl, rfl⟩
    made
  exact Tbl.lookup_store_ne _ _ _ _ ne

/-! ## Suspension (R101) -/

/-- The title records once an entry of a title that was WAITING waits no longer. -/
def State.waitingLowered (s : State) (k : Nat) (tt : Title) (h : Hold) : Tbl TitleRec :=
  if h.isWaiting then Tbl.store s.titles k (.resident { tt with waiting := tt.waiting - 1 }) else s.titles

theorem State.suspendEntry_eq (clean : s.upsets = []) (resident : s.titleAt k = some tt) (title : Nat) (i : QueueItem)
    (h : Hold) (day : Nat) :
    s.suspendEntry ⟨k, title, i, h⟩ day =
      (s.withTitles (s.waitingLowered k tt h)).changeEntry ⟨k, title, i, h⟩ (.suspended day) := by
  unfold State.suspendEntry State.waitingLowered
  cases h.isWaiting with
  | true =>
    rw [if_pos rfl, if_pos rfl, State.mapTitle_clean clean resident]
    rfl
  | false => rfl

theorem State.waitingLowered_same (resident : s.titleAt k = some tt) (h : Hold) :
    Tbl.lookup (s.waitingLowered k tt h) k =
      some (.resident { tt with waiting := if h.isWaiting then tt.waiting - 1 else tt.waiting }) := by
  unfold State.waitingLowered
  split
  · exact Tbl.lookup_store_same _ _ _
  · exact State.titleAt_eq_some.mp resident

theorem State.waitingLowered_other (tt : Title) (h : Hold) {n : Nat} (other : n ≠ k) :
    Tbl.lookup (s.waitingLowered k tt h) n = Tbl.lookup s.titles n := by
  unfold State.waitingLowered
  split
  · exact Tbl.lookup_store_ne _ _ _ _ other
  · rfl

theorem Serves.suspendHold_work (served : Serves s op x .suspendHold [id, title, day] slot u p) :
    ReqCode.suspendHold.work op s =
      match u.nameEntry p title with
      | (s, .error r) => (s, suspendAnswer (.refused r) 0)
      | (s, .ok e) =>
        if e.hold.isReady then (s, suspendAnswer (.refused .wrongState) 0)
        else if day ≤ s.today then (s, suspendAnswer (.refused .badField) 0)
        else (s.suspendEntry e (s.storedUntil day), suspendAnswer .ok (s.storedUntil day)) := by
  show State.suspendHoldWork op s = _
  unfold State.suspendHoldWork
  dsimp only
  rewrite [served.body, served.field, served.field]
  rfl

/-- Settles O26: the checks in their order, and past them the change of the state in its place. -/
theorem suspensionKeepsThePlaceInTheQueue : Obligations.SuspensionKeepsThePlaceInTheQueue := by
  refine ⟨fun s op x id title day slot u p r served room refuses => ?_,
    fun s op x id title day slot u p k tt i h served room listed found resident item held => ?_⟩
  · have work := served.suspendHold_work
    rw [State.nameEntry_refused served.servesOnly.clean refuses] at work
    exact served.quiet_row (by omega) work
  have entry := served.servesOnly.namesEntry served.canon listed found resident item held
  have work := served.suspendHold_work
  rw [entry.nameEntry] at work
  dsimp only at work
  refine ⟨fun ready => ?_, fun unready past => ?_, fun unready ahead => ?_⟩
  · rw [if_pos ready] at work
    exact served.quiet_row (by omega) work
  · rw [if_neg (by simp [unready]), if_pos past] at work
    exact served.quiet_row (by omega) work
  rw [if_neg (by simp [unready]), if_neg (Nat.not_le_of_lt ahead), State.suspendEntry_eq entry.clean resident] at work
  have enough := served.room (k := 2) room
  have ⟨left, busy, _⟩ := enough
  have writes := State.changeEntry_writes entry.clean ⟨k, title, i, h⟩ (.suspended (u.storedUntil day))
    (State.waitingLowered_same resident h) fun m => State.waitingLowered_other tt h
  have posted := State.changeEntry_hasPosted (s := u.withTitles (u.waitingLowered k tt h)) busy ⟨k, title, i, h⟩
    (.suspended (u.storedUntil day))
  obtain ⟨v, next, ends⟩ := served.toGranted.request_ends served.kind work
    (State.changeEntry_room (s := u.withTitles (u.waitingLowered k tt h)) enough _ _)
  obtain ⟨-, -, sameTitles, samePool, -⟩ := State.tables_eq_iff.mp ends.tables
  rw [← State.changePosition_of_tables sameTitles samePool, entry.patron] at posted
  have w := writes.of_tables ends.tables
  exact ⟨v, next, ⟨w.entry, w.title, ends.posted _ rfl posted, ends.answers⟩, w.otherPool, w.otherTitles, w.patrons,
    w.loans, w.tags, w.tagLine, w.calendar, w.schedule, w.sweep⟩

/-! ## Resumption (R102) -/

/-- The state in which a resumed entry waits, before the shelf is asked. -/
def State.resumed (s : State) (e : NamedEntry) (tt : Title) : State :=
  (s.withTitles (Tbl.store s.titles e.tslot (.resident { tt with waiting := tt.waiting + 1 }))).changeEntry e .waiting

theorem State.resumed_writes (clean : s.upsets = []) (e : NamedEntry) (tt : Title) :
    WritesEntry s (s.resumed e tt) e.tslot { tt with waiting := tt.waiting + 1 } e.item.slot
      { e.hold with state := .waiting } :=
  State.changeEntry_writes clean e .waiting (Tbl.lookup_store_same _ _ _) fun _ => Tbl.lookup_store_ne _ _ _ _

theorem State.resumed_hasPosted (busy : s.engine = .busy op) (e : NamedEntry) (tt : Title) :
    (s.resumed e tt).HasPosted
      (.holdChange e.title e.item.patron .waiting ((s.resumed e tt).changePosition e.tslot e.item.slot .waiting)) := by
  unfold State.resumed
  exact State.changeEntry_hasPosted (by exact busy) e .waiting

theorem State.resumed_room {n : Nat} (room : s.hasRoom (n + 1)) (e : NamedEntry) (tt : Title) :
    (s.resumed e tt).hasRoom n := by
  unfold State.resumed
  exact State.changeEntry_room (by exact room) e .waiting

theorem State.resumeEntry_eq (clean : s.upsets = []) (resident : s.titleAt e.tslot = some tt) :
    s.resumeEntry e =
      if 0 < tt.shelf then
        (s.resumed e tt).trapFromShelf e.tslot e.title (e.item, { e.hold with state := .waiting })
      else s.resumed e tt := by
  have there := (State.resumed_writes clean e tt).title
  unfold State.resumeEntry
  dsimp only
  rw [State.mapTitle_clean clean resident]
  unfold State.resumed State.withTitles at there ⊢
  simp only [there]

/-- A shelf copy goes to an entry: the two tables that it writes. -/
theorem State.trapFromShelf_tables (clean : s.upsets = []) (resident : s.titleAt k = some tt) (title : Nat)
    (w : QueueItem × Hold) :
    (s.trapFromShelf k title w).tables = { s.tables with
      pool := Tbl.store s.pool w.1.slot (.entry { w.2 with state := .ready s.pickupDeadline none })
      titles := Tbl.store s.titles k
        (.resident { tt with shelf := tt.shelf - 1, waiting := tt.waiting - 1, ready := tt.ready + 1 }) } := by
  unfold State.trapFromShelf
  rw [State.mapTitle_clean clean resident]
  change ((s.withTitles (Tbl.store s.titles k (.resident { tt with shelf := tt.shelf - 1 }))).trap k title w none
    none).tables = _
  generalize hv : s.withTitles (Tbl.store s.titles k (.resident { tt with shelf := tt.shelf - 1 })) = v
  have here : v.titleAt k = some { tt with shelf := tt.shelf - 1 } := by
    rw [← hv]
    exact State.titleAt_eq_some.mpr (Tbl.lookup_store_same _ _ _)
  rw [State.trap_tables (by rw [← hv]; exact clean) here, ← hv]
  simp only [State.withTitles, State.tables, Tbl.store_store]
  rfl

theorem State.trapFromShelf_writes (clean : s.upsets = []) (resident : s.titleAt k = some tt) (title : Nat)
    (w : QueueItem × Hold) :
    WritesEntry s (s.trapFromShelf k title w) k
      { tt with shelf := tt.shelf - 1, waiting := tt.waiting - 1, ready := tt.ready + 1 } w.1.slot
      { w.2 with state := .ready s.pickupDeadline none } :=
  WritesEntry.of_tables (u := { s with
      pool := Tbl.store s.pool w.1.slot (.entry { w.2 with state := .ready s.pickupDeadline none })
      titles := Tbl.store s.titles k
        (.resident { tt with shelf := tt.shelf - 1, waiting := tt.waiting - 1, ready := tt.ready + 1 }) })
    ⟨Tbl.lookup_store_same _ _ _, State.titleAt_eq_some.mpr (Tbl.lookup_store_same _ _ _),
      fun _ => Tbl.lookup_store_ne _ _ _ _, fun _ => Tbl.lookup_store_ne _ _ _ _, rfl, rfl, rfl, rfl, rfl, rfl, rfl⟩
    (State.trapFromShelf_tables clean resident title w)

theorem State.trapFromShelf_room {n : Nat} (room : s.hasRoom (n + 1)) (title : Nat) (w : QueueItem × Hold) :
    (s.trapFromShelf k title w).hasRoom n :=
  State.trap_room (State.hasRoom_congr (s.mapTitle_engine _ _) room) _ _ _ _

theorem State.pickupDeadline_congr (calendar : v.calendar = s.calendar) (schedule : v.schedule = s.schedule) :
    v.pickupDeadline = s.pickupDeadline := by
  unfold State.pickupDeadline State.today
  rw [calendar, schedule]

theorem State.trapFromShelf_hasPosted (clean : s.upsets = []) (resident : s.titleAt k = some tt) (busy : s.engine = .busy op)
    (title : Nat) (w : QueueItem × Hold) :
    (s.trapFromShelf k title w).HasPosted (.trapped title w.2.patron w.2.branch s.pickupDeadline none none) := by
  unfold State.trapFromShelf
  rw [State.mapTitle_clean clean resident]
  exact State.trap_hasPosted
    (s := s.withTitles (Tbl.store s.titles k (.resident { tt with shelf := tt.shelf - 1 }))) busy title w none none

theorem Serves.resumeHold_work (served : Serves s op x .resumeHold [id, title] slot u p) :
    ReqCode.resumeHold.work op s =
      match u.nameEntry p title with
      | (s, .error r) => (s, ⟨[.outcome .resumeHold (.refused r)], .refused r⟩)
      | (s, .ok e) =>
        if e.hold.isSuspended then (s.resumeEntry e, ⟨[.outcome .resumeHold .ok], .ok⟩)
        else (s, ⟨[.outcome .resumeHold (.refused .wrongState)], .refused .wrongState⟩) := by
  show State.resumeHoldWork op s = _
  unfold State.resumeHoldWork
  rewrite [served.body, served.field]
  rfl

theorem Hold.not_isSuspended (other : h.isWaiting = true ∨ h.isReady = true) : h.isSuspended = false := by
  unfold Hold.isWaiting Hold.isReady at other
  unfold Hold.isSuspended
  cases state : h.state with
  | suspended day => simp [state] at other
  | _ => rfl

/-- What a resumption leaves: the entry waits with its HOLD_CHANGE, or has taken a shelf copy with its TRAPPED as well;
the title's counts follow, and nothing else changes. -/
structure Resumes (u w : State) (title k : Nat) (tt : Title) (i : QueueItem) (h : Hold) : Prop where
  change : w.HasPosted (.holdChange title i.patron .waiting (w.changePosition k i.slot .waiting))
  waits : tt.shelf = 0 →
    WritesEntry u w k { tt with waiting := tt.waiting + 1 } i.slot { h with state := .waiting }
  takes : 0 < tt.shelf →
    WritesEntry u w k { tt with shelf := tt.shelf - 1, ready := tt.ready + 1 } i.slot
        { h with state := .ready u.pickupDeadline none } ∧
      w.HasPosted (.trapped title h.patron h.branch u.pickupDeadline none none)
  room : ∀ n, u.hasRoom (n + 2) → w.hasRoom n

/-- A shelf copy leaves the position that HOLD_CHANGE carries (R88). -/
theorem State.trapFromShelf_changePosition (clean : s.upsets = []) (resident : s.titleAt k = some tt) (title : Nat)
    (w : QueueItem × Hold) (st : HoldState) :
    (s.trapFromShelf k title w).changePosition k w.1.slot st = s.changePosition k w.1.slot st := by
  have writes := State.trapFromShelf_writes clean resident title w
  unfold State.changePosition
  rw [writes.title, resident, Option.map_some, Option.map_some, State.position_congr rfl writes.otherPool]
  rfl

theorem State.resumeEntry_resumes (clean : u.upsets = []) (resident : u.titleAt k = some tt) (busy : u.engine = .busy op)
    (title : Nat) (i : QueueItem) (h : Hold) : Resumes u (u.resumeEntry ⟨k, title, i, h⟩) title k tt i h := by
  let e : NamedEntry := ⟨k, title, i, h⟩
  have change := State.resumed_hasPosted busy e tt
  have room (n : Nat) (enough : u.hasRoom (n + 1)) := State.resumed_room enough e tt
  have writes := State.resumed_writes clean e tt
  obtain ⟨clean', done, busy'⟩ : (u.resumed e tt).upsets = [] ∧ ∃ done, (u.resumed e tt).engine = .busy done := by
    unfold State.resumed
    exact ⟨State.changeEntry_upsets (by exact clean) e .waiting, State.changeEntry_busy (by exact busy) e .waiting⟩
  rw [State.resumeEntry_eq clean resident]
  have deadline := State.pickupDeadline_congr writes.calendar writes.schedule
  split
  · rename_i stocked
    refine ⟨?_, fun empty => absurd stocked (by omega), fun _ => ⟨?_, ?_⟩, fun n enough => ?_⟩
    · rw [State.trapFromShelf_changePosition clean' writes.title]
      exact (Works.refl.trapFromShelf _ _ _).hasPosted rfl change
    · rw [← deadline]
      exact writes.again (State.trapFromShelf_writes clean' writes.title title (i, { h with state := .waiting }))
    · rw [← deadline]
      exact State.trapFromShelf_hasPosted clean' writes.title busy' title (i, { h with state := .waiting })
    · exact State.trapFromShelf_room (room _ enough) _ _
  · rename_i empty
    exact ⟨change, fun _ => writes, fun stocked => absurd stocked empty, fun n enough => State.hasRoom_succ (room _ enough)⟩

/-- Settles O27: the checks in their order, and past them `Resumes`. -/
theorem resumptionWaitsOrTakesTheShelfCopy : Obligations.ResumptionWaitsOrTakesTheShelfCopy := by
  refine ⟨fun s op x id title slot u p r served room refused => ?_,
    fun s op x id title day slot u p k tt i h served room listed found resident item held suspended => ?_⟩
  · have work := served.resumeHold_work
    rcases refused with refuses | ⟨listed, rfl, k, tt, i, h, found, resident, item, held, other⟩
    · rw [State.nameEntry_refused served.servesOnly.clean refuses] at work
      exact served.quiet_row (by omega) work
    · rw [(served.servesOnly.namesEntry served.canon listed found resident item held).nameEntry] at work
      dsimp only at work
      rw [Hold.not_isSuspended other] at work
      exact served.quiet_row (by omega) work
  have entry := served.servesOnly.namesEntry served.canon listed found resident item held
  have work := served.resumeHold_work
  rw [entry.nameEntry] at work
  dsimp only at work
  rw [if_pos (by rw [Hold.isSuspended, suspended])] at work
  have enough := served.room (k := 2) room
  have ⟨left, busy, _⟩ := enough
  have resumes := State.resumeEntry_resumes entry.clean resident busy title i h
  obtain ⟨v, next, ends⟩ := served.toGranted.request_ends served.kind work (resumes.room 0 enough)
  obtain ⟨-, -, sameTitles, samePool, -⟩ := State.tables_eq_iff.mp ends.tables
  have change := resumes.change
  rw [← State.changePosition_of_tables sameTitles samePool, entry.patron] at change
  refine ⟨v, next, ends.posted _ rfl change, ?_⟩
  rcases Nat.eq_zero_or_pos tt.shelf with empty | stocked
  · have w := (resumes.waits empty).of_tables ends.tables
    exact ⟨fun _ => ⟨w.entry, w.title⟩, fun stocked => absurd stocked (by omega), w.otherPool, w.otherTitles, w.patrons,
      w.loans, w.tags, w.tagLine, w.calendar, w.schedule, w.sweep, ends.answers⟩
  · obtain ⟨took, trapped⟩ := resumes.takes stocked
    have w := took.of_tables ends.tables
    exact ⟨fun empty => absurd stocked (by omega), fun _ => ⟨w.entry, w.title, ends.posted _ rfl trapped⟩, w.otherPool,
      w.otherTitles, w.patrons, w.loans, w.tags, w.tagLine, w.calendar, w.schedule, w.sweep, ends.answers⟩

end Sys2Proof.Machine
end

section
/-! PROOF. A placement on a RESIDENT title (R88 to R90): its checks, the entry it makes and its notices. -/

namespace Sys2Proof.Machine

variable {s u v w : State} {op : Op} {x : Crossing} {id title branch slot k n : Nat} {rest : List Nat} {p : Patron}
  {tt : Title} {until_ : Option Nat} {r : Refused} {st : HoldState}

/-! ## The checks (R89) -/

/-- Check 3 of R89, as it is computed: a readable loan of the patron is of this title. -/
theorem State.onLoan_iff (u : State) (loans : List Nat) (title : Nat) :
    (loans.any fun n => ((u.loanAt n).map fun l => l.title == title).getD false) = true ↔
      ∃ n ∈ loans, ∃ l, u.loanAt n = some l ∧ l.title = title := by
  rw [List.any_eq_true]
  refine exists_congr fun n => and_congr_right fun _ => ?_
  cases u.loanAt n <;> simp

theorem State.readLoans_clean (clean : u.upsets = []) (loans : List Nat) : loans.foldl State.readLoan u = u := by
  induction loans with
  | nil => rfl
  | cons n loans ih => rw [List.foldl_cons, State.readLoan_clean clean, ih]

theorem State.mayHold_notOnLoan (free : ∀ n ∈ p.loans, ∀ l, u.loanAt n = some l → l.title ≠ title) :
    ¬ (p.loans.any fun n => ((u.loanAt n).map fun l => l.title == title).getD false) = true := by
  rw [State.onLoan_iff]
  rintro ⟨n, mem, l, here, same⟩
  exact free n mem l here same

theorem State.checkPatron_passes (clean : u.upsets = []) (may : u.mayHold p title) : u.checkPatron p title = (u, none) := by
  obtain ⟨unblocked, unlisted, notOnLoan, limit⟩ := may
  unfold State.checkPatron
  rw [if_neg (by simp [unblocked]), if_neg (by simpa using unlisted)]
  dsimp only
  rw [State.readLoans_clean clean, if_neg (State.mayHold_notOnLoan notOnLoan), if_neg (Nat.not_le_of_lt limit)]

/-- Checks 6 to 8 of R89, with the queue's limit and the pool's size in figures. -/
theorem State.checkQueue_eq (u : State) (tt : Title) (until_ : Option Nat) :
    u.checkQueue tt until_ =
      if 255 ≤ tt.queue.length then .error .queueFull
      else
        match Tbl.firstFree u.pool 8192 with
        | none => .error .poolFull
        | some n =>
          match until_ with
          | some d => if d ≤ u.today then .error .badField else .ok n
          | none => .ok n := rfl

/-- Checks 6 to 8 of R89 pass, and the lowest FREE pool slot is the entry's. -/
theorem State.checkQueue_passes (space : tt.queue.length < 255) (free : Tbl.firstFree u.pool 8192 = some n)
    (ahead : ∀ d, until_ = some d → u.today < d) : u.checkQueue tt until_ = .ok n := by
  rw [State.checkQueue_eq, if_neg (Nat.not_le_of_lt space), free]
  cases until_ with
  | none => rfl
  | some d =>
    dsimp only
    rw [if_neg (Nat.not_le_of_lt (ahead d rfl))]

/-- The first failing check of R89 is one of the patron's, or the title is DAMAGED, or it is one of its queue's. -/
theorem State.refusesHold_cases {place : Option TitleRec} (clean : u.upsets = [])
    (refuses : u.refusesHold p title place until_ r) :
    u.checkPatron p title = (u, some r) ∨
      u.mayHold p title ∧
        ((∃ id, place = some (.damaged id)) ∧ r = .damaged ∨
          ∃ tt, place = some (.resident tt) ∧ u.checkQueue tt until_ = .error r) := by
  rcases refuses with ⟨blocked, rfl⟩ | ⟨unblocked, early⟩ | ⟨may, late⟩
  · left
    unfold State.checkPatron
    rw [if_pos blocked]
  · left
    unfold State.checkPatron
    rw [if_neg (by simp [unblocked])]
    rcases early with ⟨listed, rfl⟩ | ⟨unlisted, early⟩
    · rw [if_pos (by simpa using listed)]
    rw [if_neg (by simpa using unlisted)]
    dsimp only
    rw [State.readLoans_clean clean]
    rcases early with ⟨onLoan, rfl⟩ | ⟨free, limit, rfl⟩
    · rw [if_pos ((State.onLoan_iff _ _ _).mpr onLoan)]
    · rw [if_neg (State.mayHold_notOnLoan free), if_pos limit]
  · refine .inr ⟨may, late.imp id fun ⟨tt, here, queue⟩ => ⟨tt, here, ?_⟩⟩
    rw [State.checkQueue_eq]
    rcases queue with ⟨full, rfl⟩ | ⟨space, ⟨full, rfl⟩ | ⟨free, ⟨d, rfl, past⟩, rfl⟩⟩
    · rw [if_pos full]
    · rw [if_neg (Nat.not_le_of_lt space), full]
    · obtain ⟨n, free⟩ := Option.ne_none_iff_exists'.mp free
      rw [if_neg (Nat.not_le_of_lt space), free]
      dsimp only
      rw [if_pos past]

/-! ## The entry (R90) -/

/-- The state that a new entry is written in, before its notices. -/
def State.placed (s : State) (n pslot tslot branch : Nat) (p : Patron) (tt : Title) (st : HoldState) : State :=
  { s with
    pool := Tbl.store s.pool n (.entry ⟨p.id, tt.id, branch, s.today, st⟩)
    titles := Tbl.store s.titles tslot (.resident (tt.with ⟨n, p.id⟩ st))
    patrons := Tbl.store s.patrons pslot (.resident { p with holds := p.holds ++ [tt.id] }) }

theorem State.makeEntry_eq (clean : u.upsets = []) (patron : u.patronAt slot = some p) (resident : u.titleAt k = some tt)
    (n branch : Nat) (until_ : Option Nat) :
    u.makeEntry n slot k p.id branch tt until_ =
      (let st := u.entryState tt until_
       let w := u.placed n slot k branch p tt st
       (w.postPlaced tt.id p.id branch (w.changePosition k n st) st, st, w.changePosition k n st)) := by
  unfold State.makeEntry
  dsimp only
  rw [State.setPool_clean clean]
  generalize hv : ({ u with pool := Tbl.store u.pool n _ } : State) = v
  rw [State.mapTitle_clean (by rw [← hv]; exact clean) (by rw [← hv]; exact resident)]
  generalize hw : ({ v with titles := Tbl.store v.titles k _ } : State) = w
  have patron' : w.patronAt slot = some p := by rw [← hw, ← hv]; exact patron
  unfold State.mapPatron
  rw [patron']
  dsimp only
  rw [State.setPatron_clean (by rw [← hw, ← hv]; exact clean), ← hw, ← hv]
  rfl

theorem State.postPlaced_tables (w : State) (title patron branch position : Nat) (st : HoldState) :
    (w.postPlaced title patron branch position st).tables = w.tables := by
  unfold State.postPlaced
  dsimp only
  split
  · exact (State.post_tables _ _).trans (State.post_tables _ _)
  · exact State.post_tables _ _

/-- The notices of a new entry use two reserved entries at most. -/
theorem State.postPlaced_room {m : Nat} (room : w.hasRoom (m + 2)) (title patron branch position : Nat) (st : HoldState) :
    (w.postPlaced title patron branch position st).hasRoom m := by
  have first := (State.post_room (k := m + 1) room (.holdChange title patron st.change position)).2
  unfold State.postPlaced
  dsimp only
  split
  · rename_i deadline copy
    obtain ⟨op, busy, quiet, left⟩ := (State.post_room first (.trapped title patron branch deadline copy none)).2
    exact ⟨{ op with traps := op.traps + 1 }, by simp [busy, Engine.mapOp], quiet, left⟩
  · exact State.hasRoom_succ first

theorem State.postPlaced_hasPosted (busy : w.engine = .busy op) (title patron branch position : Nat) (st : HoldState) :
    (w.postPlaced title patron branch position st).HasPosted (.holdChange title patron st.change position) ∧
      ∀ deadline copy, st = .ready deadline copy →
        (w.postPlaced title patron branch position st).HasPosted (.trapped title patron branch deadline copy none) := by
  have change := State.post_hasPosted busy (.holdChange title patron st.change position)
  obtain ⟨done, busyDone, -⟩ := (Works.refl.post (extra := Adjusts) (.holdChange title patron st.change position)).carries.op op
    busy
  unfold State.postPlaced
  cases st with
  | ready deadline copy =>
    refine ⟨(change.post rfl _).mapOp fun _ => List.Subset.refl _, fun d c same => ?_⟩
    cases same
    exact (State.post_hasPosted busyDone _).mapOp fun _ => List.Subset.refl _
  | _ => exact ⟨change, fun d c same => nomatch same⟩

/-- What a placement that passes leaves (R90): the entry at the ends of the queue and of the hold list, with its counts. -/
structure Places (u v : State) (n slot k branch : Nat) (p : Patron) (tt : Title) (st : HoldState) : Prop where
  entry : Tbl.lookup v.pool n = some (.entry ⟨p.id, tt.id, branch, u.today, st⟩)
  title : v.titleAt k = some (tt.with ⟨n, p.id⟩ st)
  patron : v.patronAt slot = some { p with holds := p.holds ++ [tt.id] }
  otherPool : ∀ m, m ≠ n → Tbl.lookup v.pool m = Tbl.lookup u.pool m
  otherTitles : ∀ m, m ≠ k → Tbl.lookup v.titles m = Tbl.lookup u.titles m
  otherPatrons : ∀ m, m ≠ slot → Tbl.lookup v.patrons m = Tbl.lookup u.patrons m
  loans : v.loans = u.loans
  tags : v.tags = u.tags
  tagLine : v.tagLine = u.tagLine
  calendar : v.calendar = u.calendar
  schedule : v.schedule = u.schedule
  sweep : v.sweep = u.sweep

theorem State.places {branch : Nat} {st : HoldState} (tables : v.tables = (u.placed n slot k branch p tt st).tables) :
    Places u v n slot k branch p tt st := by
  obtain ⟨patrons, loans, titles, pool, calendar, schedule, sweep, tags, tagLine⟩ := State.tables_eq_iff.mp tables
  refine ⟨?_, State.titleAt_eq_some.mpr ?_, State.patronAt_eq_some.mpr ?_, fun m other => ?_, fun m other => ?_,
    fun m other => ?_, loans, tags, tagLine, calendar, schedule, sweep⟩
  · rw [pool]
    exact Tbl.lookup_store_same _ _ _
  · rw [titles]
    exact Tbl.lookup_store_same _ _ _
  · rw [patrons]
    exact Tbl.lookup_store_same _ _ _
  · rw [pool]
    exact Tbl.lookup_store_ne _ _ _ _ other
  · rw [titles]
    exact Tbl.lookup_store_ne _ _ _ _ other
  · rw [patrons]
    exact Tbl.lookup_store_ne _ _ _ _ other

/-! ## The placement performed (R89, R90) -/

/-- The patron and the RESIDENT title of a placement that passes every check, and the pool slot of its entry. -/
structure Passes (u : State) (p : Patron) (title k : Nat) (tt : Title) (until_ : Option Nat) (slot n : Nat) : Prop where
  clean : u.upsets = []
  titleId : tt.id = title
  patron : u.patronAt slot = some p
  may : u.mayHold p title
  found : u.findTitle title = some k
  resident : u.titleAt k = some tt
  entry : u.checkQueue tt until_ = .ok n

theorem ServesOnly.passes (only : ServesOnly s u) (canon : s.canonical) (patron : u.patronAt slot = some p)
    (may : u.mayHold p title) (found : u.findTitle title = some k) (resident : u.titleAt k = some tt)
    (space : tt.queue.length < 255) (free : Tbl.firstFree u.pool 8192 = some n)
    (ahead : ∀ d, until_ = some d → u.today < d) : Passes u p title k tt until_ slot n :=
  ⟨only.clean, State.titleAt_id (only.titlesWf canon) found resident, patron, may, found, resident,
    State.checkQueue_passes space free ahead⟩

theorem State.placeOn_eq (clean : u.upsets = []) (resident : u.titleAt k = some tt) (slot patron branch : Nat)
    (until_ : Option Nat) :
    u.placeOn slot patron k branch until_ =
      match u.checkQueue tt until_ with
      | .error r => (u, .error r)
      | .ok n => ((u.makeEntry n slot k patron branch tt until_).1, .ok (u.makeEntry n slot k patron branch tt until_).2) := by
  unfold State.placeOn
  rw [State.readForEntry_clean clean]
  dsimp only
  rewrite [resident]
  rfl

theorem State.placeOn_damaged (clean : u.upsets = []) (here : ∃ id, Tbl.lookup u.titles k = some (.damaged id))
    (slot patron branch : Nat) (until_ : Option Nat) : u.placeOn slot patron k branch until_ = (u, .error .damaged) := by
  obtain ⟨id, here⟩ := here
  have none_ : u.titleAt k = none := by
    unfold State.titleAt
    rw [here]
  unfold State.placeOn
  rw [State.readForEntry_clean clean]
  dsimp only
  rw [none_]

/-- PLACE_HOLD of a RESIDENT patron, past the lookup of the patron. -/
theorem Serves.placeHold_work (served : Serves s op x .placeHold (id :: title :: branch :: rest) slot u p) :
    ReqCode.placeHold.work op s =
      match u.checkPatron p title with
      | (s, some r) => (s, placeAnswer (.refused r) 0)
      | (s, none) =>
        match (s.lookUpTitle title).titlePlace title with
        | .absent => (s.lookUpTitle title).parkPlacement op.from p.id title branch rest[0]?
        | .fetching _ _ => (s.lookUpTitle title, placeAnswer (.refused .retry) 0)
        | .damaged _ => (s.lookUpTitle title, placeAnswer (.refused .damaged) 0)
        | .resident tslot _ =>
          match (s.lookUpTitle title).placeOn slot p.id tslot branch rest[0]? with
          | (s, .error r) => (s, placeAnswer (.refused r) 0)
          | (s, .ok x) => (s, placeAnswer .ok x.2) := by
  have kind := served.kind
  show State.placeHoldWork op s = _
  unfold State.placeHoldWork
  dsimp only
  rewrite [served.body, served.field, served.field, kind]
  rfl

/-- PLACE_HOLD past checks 1 to 4. -/
theorem Serves.placeHold_checked (served : Serves s op x .placeHold (id :: title :: branch :: rest) slot u p)
    (may : u.mayHold p title) :
    ReqCode.placeHold.work op s =
      match u.titlePlace title with
      | .absent => u.parkPlacement op.from p.id title branch rest[0]?
      | .fetching _ _ => (u, placeAnswer (.refused .retry) 0)
      | .damaged _ => (u, placeAnswer (.refused .damaged) 0)
      | .resident tslot _ =>
        match u.placeOn slot p.id tslot branch rest[0]? with
        | (s, .error r) => (s, placeAnswer (.refused r) 0)
        | (s, .ok x) => (s, placeAnswer .ok x.2) := by
  rewrite [served.placeHold_work, State.checkPatron_passes served.servesOnly.clean may]
  dsimp only
  rewrite [State.lookUpTitle_clean served.servesOnly.clean]
  rfl

theorem Names.patronId (named : Names s op x (.holdPlace id title branch until_) id slot u p) : id ≠ 0 := by
  rintro rfl
  exact absurd named.found (by simp [State.findPatron])

/-- HOLD_PLACE of a RESIDENT patron with its fields in range, past the lookup of the patron. -/
theorem Names.holdPlace_work (named : Names s op x (.holdPlace id title branch until_) id slot u p) (titled : title ≠ 0)
    (ranged : branch ≤ 63) :
    State.holdPlaceWork (.holdPlace id title branch until_) s =
      match u.checkPatron p title with
      | (s, some r) => (s, r.status, [])
      | (s, none) =>
        match (s.lookUpTitle title).titlePlace title with
        | .absent => (s.lookUpTitle title, .titleNotResident, [])
        | .fetching _ _ => (s.lookUpTitle title, .titleNotResident, [])
        | .damaged _ => (s.lookUpTitle title, .damaged, [])
        | .resident tslot _ =>
          match (s.lookUpTitle title).placeOn slot p.id tslot branch until_ with
          | (s, .error r) => (s, r.status, [])
          | (s, .ok x) => (s, clampedStatus (s.untilLowered until_), [⟨1, x.1.change.number⟩, ⟨1, x.2⟩]) := by
  have patronId := named.patronId
  unfold State.holdPlaceWork
  dsimp only
  rewrite [if_neg (by omega), named.named]
  rfl

theorem Names.holdPlace_checked (named : Names s op x (.holdPlace id title branch until_) id slot u p) (titled : title ≠ 0)
    (ranged : branch ≤ 63) (may : u.mayHold p title) :
    State.holdPlaceWork (.holdPlace id title branch until_) s =
      match u.titlePlace title with
      | .absent => (u, .titleNotResident, [])
      | .fetching _ _ => (u, .titleNotResident, [])
      | .damaged _ => (u, .damaged, [])
      | .resident tslot _ =>
        match u.placeOn slot p.id tslot branch until_ with
        | (s, .error r) => (s, r.status, [])
        | (s, .ok x) => (s, clampedStatus (s.untilLowered until_), [⟨1, x.1.change.number⟩, ⟨1, x.2⟩]) := by
  rewrite [named.holdPlace_work titled ranged, State.checkPatron_passes named.servesOnly.clean may]
  dsimp only
  rewrite [State.lookUpTitle_clean named.servesOnly.clean]
  rfl

theorem Names.holdPlace_row {w : State} {status : Status} {cs : List CField}
    (named : Names s op x (.holdPlace id title branch until_) id slot u p)
    (work : State.holdPlaceWork (.holdPlace id title branch until_) s = (w, status, cs)) (room : w.hasRoom 1) :
    ∃ y, exec (.holdPlace x) s = .next y ∧ MessageEnds s w y 10 status cs :=
  named.toPerforms.row_ends (row := .holdPlace) (fun _ => Works.refl.holdPlaceWork _) rfl work room

/-! ## What the entry's row leaves -/

/-- The facts about a placement's entry that hold after its row, whichever row it is. -/
structure Placed (u v : State) (p : Patron) (k : Nat) (tt : Title) (until_ : Option Nat) (slot n branch : Nat) : Prop where
  tables : v.tables = (u.makeEntry n slot k p.id branch tt until_).1.tables
  places : Places u v n slot k branch p tt (u.entryState tt until_)
  position : (u.makeEntry n slot k p.id branch tt until_).2.2 = v.changePosition k n (u.entryState tt until_)
  change : .holdChange tt.id p.id (u.entryState tt until_).change (v.changePosition k n (u.entryState tt until_)) ∈
    v.link.outbound
  trapped : ∀ deadline copy, u.entryState tt until_ = .ready deadline copy →
    .trapped tt.id p.id branch deadline copy none ∈ v.link.outbound

theorem Passes.makeEntry_room {m : Nat} (passes : Passes u p title k tt until_ slot n) (room : u.hasRoom (m + 2))
    (branch : Nat) : (u.makeEntry n slot k p.id branch tt until_).1.hasRoom m := by
  rw [State.makeEntry_eq passes.clean passes.patron passes.resident]
  exact State.postPlaced_room (w := u.placed n slot k branch p tt (u.entryState tt until_)) room _ _ _ _ _

theorem Passes.makeEntry_tables (passes : Passes u p title k tt until_ slot n) (branch : Nat) :
    (u.makeEntry n slot k p.id branch tt until_).1.tables =
      (u.placed n slot k branch p tt (u.entryState tt until_)).tables := by
  rw [State.makeEntry_eq passes.clean passes.patron passes.resident]
  exact State.postPlaced_tables _ _ _ _ _ _

/-- A state with the tables of the entry's work, in which the posts of that work stand. -/
theorem Passes.placed (passes : Passes u p title k tt until_ slot n) (busy : u.engine = .busy op)
    (tables : v.tables = (u.makeEntry n slot k p.id branch tt until_).1.tables)
    (stands : ∀ m, m.single = true → (u.makeEntry n slot k p.id branch tt until_).1.HasPosted m → m ∈ v.link.outbound) :
    Placed u v p k tt until_ slot n branch := by
  have made := tables.trans (passes.makeEntry_tables branch)
  obtain ⟨-, -, titles, pool, -⟩ := State.tables_eq_iff.mp made
  rw [State.makeEntry_eq passes.clean passes.patron passes.resident] at stands
  obtain ⟨change, trapped⟩ := State.postPlaced_hasPosted (w := u.placed n slot k branch p tt (u.entryState tt until_)) busy
    tt.id p.id branch ((u.placed n slot k branch p tt (u.entryState tt until_)).changePosition k n (u.entryState tt until_))
    (u.entryState tt until_)
  refine ⟨tables, State.places made, ?_, ?_, fun deadline copy ready => stands _ rfl (trapped deadline copy ready)⟩
  · rw [State.makeEntry_eq passes.clean passes.patron passes.resident, State.changePosition_of_tables titles pool]
  · rw [State.changePosition_of_tables titles pool]
    exact stands _ rfl change

theorem Passes.place {branch : Nat} (passes : Passes u p title k tt until_ slot n) :
    u.placeOn slot p.id k branch until_ =
      ((u.makeEntry n slot k p.id branch tt until_).1, .ok (u.makeEntry n slot k p.id branch tt until_).2) := by
  rw [State.placeOn_eq passes.clean passes.resident, passes.entry]

/-- PLACE_HOLD that passes. -/
theorem Passes.placeHold (passes : Passes u p title k tt rest[0]? slot n)
    (served : Serves s op x .placeHold (id :: title :: branch :: rest) slot u p) (room : 3 ≤ op.reservation) :
    ∃ v, exec (.placeHold x) s = .next v ∧ Placed u v p k tt rest[0]? slot n branch ∧
      Answers s v op ⟨[.outcome .placeHold .ok, .num (v.changePosition k n (u.entryState tt rest[0]?))], .ok⟩ := by
  have enough := served.room (k := 2) room
  have ⟨_, busy, _⟩ := enough
  have work := served.placeHold_checked passes.may
  rw [State.titlePlace_resident passes.found passes.resident] at work
  dsimp only at work
  rw [passes.place] at work
  obtain ⟨v, next, ends⟩ := served.toGranted.request_ends served.kind work (passes.makeEntry_room enough branch)
  have placed := passes.placed busy ends.tables ends.posted
  refine ⟨v, next, placed, ?_⟩
  rw [← placed.position]
  exact ends.answers

theorem State.untilLowered_congr (calendar : v.calendar = u.calendar) (until_ : Option Nat) :
    v.untilLowered until_ = u.untilLowered until_ := by
  unfold State.untilLowered State.storedUntil State.today
  rw [calendar]

/-- HOLD_PLACE that passes. -/
theorem Passes.holdPlace (passes : Passes u p title k tt until_ slot n)
    (named : Names s op x (.holdPlace id title branch until_) id slot u p) (room : 4 ≤ op.reservation) (titled : title ≠ 0)
    (ranged : branch ≤ 63) :
    ∃ v, exec (.holdPlace x) s = .next v ∧ Placed u v p k tt until_ slot n branch ∧
      Confirms s v 10 (if u.untilLowered until_ then .clamped else .ok)
        [⟨1, (u.entryState tt until_).change.number⟩, ⟨1, v.changePosition k n (u.entryState tt until_)⟩] := by
  have enough := named.room (k := 3) room
  have ⟨_, busy, _⟩ := enough
  have work := named.holdPlace_checked titled ranged passes.may
  rw [State.titlePlace_resident passes.found passes.resident] at work
  dsimp only at work
  rw [passes.place] at work
  dsimp only at work
  have confirm := passes.makeEntry_room (m := 1) enough branch
  obtain ⟨v, next, ends⟩ := named.holdPlace_row work confirm
  have placed := passes.placed busy ends.tables fun m => ends.posted confirm
  refine ⟨v, next, placed, ?_⟩
  have calendar := (State.tables_eq_iff.mp (passes.makeEntry_tables branch)).2.2.2.2.1
  have state : (u.makeEntry n slot k p.id branch tt until_).2.1 = u.entryState tt until_ := rfl
  have confirms := ends.confirms
  rwa [placed.position, state, State.untilLowered_congr calendar] at confirms

/-- The statement's form of what a placement leaves. -/
theorem Placed.spelled (placed : Placed u v p k tt until_ slot n branch) (titleId : tt.id = title)
    (st : HoldState) (state : u.entryState tt until_ = st) :
    Tbl.lookup v.pool n = some (.entry ⟨p.id, title, branch, u.today, st⟩) ∧
      v.titleAt k = some (tt.with ⟨n, p.id⟩ st) ∧ v.patronAt slot = some { p with holds := p.holds ++ [title] } ∧
      .holdChange title p.id st.change (v.changePosition k n st) ∈ v.link.outbound ∧
      (st = .ready u.pickupDeadline none → .trapped title p.id branch u.pickupDeadline none none ∈ v.link.outbound) ∧
      (∀ m, m ≠ n → Tbl.lookup v.pool m = Tbl.lookup u.pool m) ∧
      (∀ m, m ≠ k → Tbl.lookup v.titles m = Tbl.lookup u.titles m) ∧
      (∀ m, m ≠ slot → Tbl.lookup v.patrons m = Tbl.lookup u.patrons m) ∧
      v.loans = u.loans ∧ v.tags = u.tags ∧ v.tagLine = u.tagLine ∧ v.calendar = u.calendar ∧ v.schedule = u.schedule ∧
      v.sweep = u.sweep := by
  subst titleId state
  obtain ⟨-, places, -, change, trapped⟩ := placed
  exact ⟨places.entry, places.title, places.patron, change, fun ready => trapped _ _ ready, places.otherPool,
    places.otherTitles, places.otherPatrons, places.loans, places.tags, places.tagLine, places.calendar, places.schedule,
    places.sweep⟩

/-- Settles O23: both rows find every check passed, and make the entry as `Placed` says. -/
theorem placementMakesTheEntry : Obligations.PlacementMakesTheEntry := by
  intro s op x id title branch until_ slot u p k tt n may found resident space free ahead
  dsimp only
  refine ⟨fun rest served given room => ?_, fun named titled ranged room => ?_⟩
  · subst given
    have passes := served.servesOnly.passes served.canon served.patron may found resident space free ahead
    obtain ⟨v, next, placed, answers⟩ := passes.placeHold served room
    exact ⟨v, next, placed.spelled passes.titleId _ rfl, answers⟩
  · have passes := named.servesOnly.passes named.canon named.patron may found resident space free ahead
    obtain ⟨v, next, placed, confirms⟩ := passes.holdPlace named room titled ranged
    refine ⟨v, next, placed.spelled passes.titleId _ rfl, ?_⟩
    cases until_ <;> exact confirms

end Sys2Proof.Machine
end

section
/-! PROOF. The refusals of a placement, by request, by message and at its completion (R89, R91, R92, R93), and the parked
placement (R91). -/

namespace Sys2Proof.Machine

variable {s u v : State} {op : Op} {x : Crossing} {id title branch slot k n : Nat} {rest : List Nat} {p : Patron}
  {tt : Title} {until_ : Option Nat} {r : Refused}

/-! ## A title that is not RESIDENT (R91, R92) -/

/-- The index leads to a record: a title without one is unknown to the index. -/
theorem State.findTitle_none (wf : Tbl.wf u.titles = true)
    (absent : ((u.findTitle title).bind fun k => Tbl.lookup u.titles k) = none) : u.findTitle title = none := by
  cases found : u.findTitle title with
  | none => rfl
  | some k =>
    obtain ⟨rec, here, -⟩ := State.findTitle_spec wf found
    rw [found, Option.bind_some, here] at absent
    cases absent

theorem State.findTitle_of_place {rec : TitleRec}
    (place : ((u.findTitle title).bind fun k => Tbl.lookup u.titles k) = some rec) :
    ∃ k, u.findTitle title = some k ∧ Tbl.lookup u.titles k = some rec := Option.bind_eq_some_iff.mp place

/-- A HOLD_PLACE whose work leaves the state that the catch-up left. -/
theorem Names.holdPlace_quiet {status : Status} (named : Names s op x (.holdPlace id title branch until_) id slot u p)
    (room : 4 ≤ op.reservation) (work : State.holdPlaceWork (.holdPlace id title branch until_) s = (u, status, [])) :
    ∃ y, exec (.holdPlace x) s = .next y ∧ y.tables = u.tables ∧ Confirms s y 10 status [] := by
  obtain ⟨y, next, ends⟩ := named.holdPlace_row work (named.room (by omega))
  exact ⟨y, next, ends.tables, ends.confirms⟩

theorem Names.titleNotResident (named : Names s op x (.holdPlace id title branch until_) id slot u p)
    (room : 4 ≤ op.reservation) (titled : title ≠ 0) (ranged : branch ≤ 63) (may : u.mayHold p title)
    (out : u.findTitle title = none ∨ ∃ k i tag, u.findTitle title = some k ∧ Tbl.lookup u.titles k = some (.fetching i tag)) :
    ∃ y, exec (.holdPlace x) s = .next y ∧ y.tables = u.tables ∧ Confirms s y 10 .titleNotResident [] := by
  have work := named.holdPlace_checked titled ranged may
  rcases out with absent | ⟨k, i, tag, found, here⟩
  · rw [State.titlePlace_absent absent] at work
    exact named.holdPlace_quiet room work
  · rw [State.titlePlace_fetching found here] at work
    exact named.holdPlace_quiet room work

theorem Serves.retry {i : Nat} {tag : TagId} (served : Serves s op x .placeHold (id :: title :: branch :: rest) slot u p)
    (room : 3 ≤ op.reservation) (may : u.mayHold p title) (found : u.findTitle title = some k)
    (here : Tbl.lookup u.titles k = some (.fetching i tag)) :
    ∃ y, exec (.placeHold x) s = .next y ∧ y.tables = u.tables ∧
      Answers s y op ⟨[.outcome .placeHold (.refused .retry), .num 0], .refused .retry⟩ := by
  have work := served.placeHold_checked may
  rw [State.titlePlace_fetching found here] at work
  exact served.quiet_row (by omega) work

/-! ## The first failing check (R89) -/

theorem Serves.placeHold_refused (served : Serves s op x .placeHold (id :: title :: branch :: rest) slot u p)
    (refuses : u.refusesHold p title ((u.findTitle title).bind fun k => Tbl.lookup u.titles k) rest[0]? r) :
    ReqCode.placeHold.work op s = (u, placeAnswer (.refused r) 0) := by
  have clean := served.servesOnly.clean
  rcases State.refusesHold_cases clean refuses with early | ⟨may, late⟩
  · rw [served.placeHold_work, early]
  rw [served.placeHold_checked may]
  rcases late with ⟨⟨i, place⟩, rfl⟩ | ⟨tt, place, queue⟩
  · obtain ⟨k, found, here⟩ := State.findTitle_of_place place
    rw [State.titlePlace_damaged found here]
  · obtain ⟨k, found, here⟩ := State.findTitle_of_place place
    have resident := State.titleAt_eq_some.mpr here
    rw [State.titlePlace_resident found resident]
    dsimp only
    rw [State.placeOn_eq clean resident, queue]

theorem Names.holdPlace_refused (named : Names s op x (.holdPlace id title branch until_) id slot u p) (titled : title ≠ 0)
    (ranged : branch ≤ 63)
    (refuses : u.refusesHold p title ((u.findTitle title).bind fun k => Tbl.lookup u.titles k) until_ r) :
    State.holdPlaceWork (.holdPlace id title branch until_) s = (u, r.status, []) := by
  have clean := named.servesOnly.clean
  rcases State.refusesHold_cases clean refuses with early | ⟨may, late⟩
  · rw [named.holdPlace_work titled ranged, early]
  rw [named.holdPlace_checked titled ranged may]
  rcases late with ⟨⟨i, place⟩, rfl⟩ | ⟨tt, place, queue⟩
  · obtain ⟨k, found, here⟩ := State.findTitle_of_place place
    rw [State.titlePlace_damaged found here]
    rfl
  · obtain ⟨k, found, here⟩ := State.findTitle_of_place place
    have resident := State.titleAt_eq_some.mpr here
    rw [State.titlePlace_resident found resident]
    dsimp only
    rw [State.placeOn_eq clean resident, queue]

/-- The first failing check of R91, on a title that the index does not name. -/
theorem State.parkPlacement_refuses {o : Origin} (clean : u.upsets = []) (absent : u.findTitle title = none)
    (refused : 2 ≤ (u.stationAt o).stack.length + (u.stationAt o).parked ∧ r = .parkedLimit ∨
      (u.stationAt o).stack.length + (u.stationAt o).parked < 2 ∧
        ((∃ d, until_ = some d ∧ d ≤ u.today) ∧ r = .badField ∨
          (∀ d, until_ = some d → u.today < d) ∧
            (u.freeTag = none ∧ r = .tryLater ∨
              u.freeTag ≠ none ∧ Tbl.firstFree u.titles 2048 = none ∧ r = .tableFull))) (patron branch : Nat) :
    u.parkPlacement o patron title branch until_ = (u, placeAnswer (.refused r) 0) := by
  unfold State.parkPlacement
  rcases refused with ⟨full, rfl⟩ | ⟨below, refused⟩
  · have exceeds : u.mayPark o ≠ true := fun may => absurd ((State.mayPark_iff _ _).mp may) (Nat.not_lt_of_le full)
    rw [if_pos (by simpa using exceeds)]
  rw [if_neg (by simpa using (State.mayPark_iff _ _).mpr below)]
  rcases refused with ⟨⟨d, rfl, past⟩, rfl⟩ | ⟨ahead, refused⟩
  · rw [if_pos (by simpa using past)]
  have timely : ¬ ((until_.map fun d => decide (d ≤ u.today)).getD false) = true := by
    cases until_ with
    | none => simp
    | some d => simpa using ahead d rfl
  rw [if_neg timely]
  dsimp only
  rw [State.readFreeTag_clean clean]
  rcases refused with ⟨noTag, rfl⟩ | ⟨someTag, full, rfl⟩
  · rw [noTag]
  · obtain ⟨m, tag⟩ := Option.ne_none_iff_exists'.mp someTag
    have full' : Tbl.firstFree u.titles Config.titleSlots = none := full
    rw [tag]
    dsimp only
    rw [State.readFreeTitle_clean clean, absent, full']

/-! ## The completion of a parked placement (R93) -/

theorem State.completeParked_served {q : Parked} (clean : s.upsets = []) (found : s.findPatron q.patron = some slot)
    (resident : (s.patronAt slot).isSome = true) (patron : (s.touchDay slot).patronAt slot = some p) :
    s.completeParked q title k =
      match (s.touchDay slot).checkPatron p title with
      | (s, some r) => (s, .refused r)
      | (s, none) =>
        match s.placeOn slot p.id k q.branch q.until_ with
        | (s, .error r) => (s, .refused r)
        | (s, .ok _) => (s, .ok) := by
  obtain ⟨p₀, here⟩ := Option.isSome_iff_exists.mp resident
  unfold State.completeParked
  dsimp only
  rw [State.lookUpPatron_clean clean, found]
  dsimp only
  rw [State.patronAt_eq_some.mp here]
  dsimp only
  rewrite [patron]
  rfl

theorem State.touchDay_upsets (clean : s.upsets = []) (slot : Nat) : (s.touchDay slot).upsets = [] := by
  rw [show (s.touchDay slot).upsets = s.upsets by
    unfold State.touchDay
    split <;> simp [State.setPatron, clean]]
  exact clean

/-- A parked placement that is refused at its completion (R93). -/
theorem State.completeParked_refused {q : Parked} (clean : s.upsets = []) (found : s.findPatron q.patron = some slot)
    (resident : (s.patronAt slot).isSome = true) (patron : (s.touchDay slot).patronAt slot = some p)
    (refuses : (s.touchDay slot).refusesHold p title (Tbl.lookup (s.touchDay slot).titles k) q.until_ r) :
    s.completeParked q title k = (s.touchDay slot, .refused r) := by
  have clean' := State.touchDay_upsets clean slot
  rw [State.completeParked_served clean found resident patron]
  rcases State.refusesHold_cases clean' refuses with early | ⟨may, late⟩
  · rw [early]
  rw [State.checkPatron_passes clean' may]
  dsimp only
  rcases late with ⟨damaged, rfl⟩ | ⟨tt, here, queue⟩
  · rw [State.placeOn_damaged clean' damaged]
  · rw [State.placeOn_eq clean' (State.titleAt_eq_some.mpr here), queue]

/-- A parked placement that passes at its completion (R93). -/
theorem State.completeParked_makes {q : Parked} (clean : s.upsets = []) (found : s.findPatron q.patron = some slot)
    (resident : (s.patronAt slot).isSome = true) (patron : (s.touchDay slot).patronAt slot = some p)
    (may : (s.touchDay slot).mayHold p title) (here : (s.touchDay slot).titleAt k = some tt)
    (entry : (s.touchDay slot).checkQueue tt q.until_ = .ok n) :
    s.completeParked q title k = (((s.touchDay slot).makeEntry n slot k p.id q.branch tt q.until_).1, .ok) := by
  have clean' := State.touchDay_upsets clean slot
  rw [State.completeParked_served clean found resident patron, State.checkPatron_passes clean' may]
  dsimp only
  rw [State.placeOn_eq clean' here, entry]

/-- What the completion finds where the patron's record is not RESIDENT. -/
theorem State.completeParked_unserved (clean : s.upsets = []) (q : Parked) (title k : Nat) :
    (s.findPatron q.patron = none → s.completeParked q title k = (s, .refused .unknownPatron)) ∧
      ∀ slot, s.findPatron q.patron = some slot →
        (∀ i day tag, Tbl.lookup s.patrons slot = some (.fetching i day tag) →
          s.completeParked q title k = (s.touchDay slot, .refused .unknownPatron)) ∧
        (∀ i day, Tbl.lookup s.patrons slot = some (.unknown i day) →
          s.completeParked q title k = (s.touchDay slot, .refused .unknownPatron)) ∧
        ∀ i, Tbl.lookup s.patrons slot = some (.damaged i) → s.completeParked q title k = (s, .refused .damaged) := by
  unfold State.completeParked
  dsimp only
  rw [State.lookUpPatron_clean clean]
  refine ⟨fun absent => ?_, fun slot found => ⟨fun i day tag here => ?_, fun i day here => ?_, fun i here => ?_⟩⟩
  · rw [absent]
  · rw [found]
    dsimp only
    rw [here]
  · rw [found]
    dsimp only
    rw [here]
  · rw [found]
    dsimp only
    rw [here]

/-- Settles O38, part by part. -/
theorem placementByMessageAndOnATitleBeingFetched : Obligations.PlacementByMessageAndOnATitleBeingFetched := by
  refine ⟨fun s op x id title branch until_ slot u p k tt n named room titled ranged may found resident space free ahead => ?_,
    fun s op x id title branch until_ performs room outOfRange => ?badMessage,
    fun s op x id title branch slot u p may => ⟨fun until_ named room titled ranged out => ?_,
      fun rest k i tag served room found here => served.retry room may found here⟩,
    fun s op x id title slot u p r => ⟨fun branch rest served room => ⟨fun refuses => ?_, fun o origin may place refused => ?_⟩,
      fun branch until_ named room titled ranged refuses => ?_⟩,
    fun s q title k clean => ?parked⟩
  · have passes := named.servesOnly.passes named.canon named.patron may found resident space free ahead
    obtain ⟨v, next, placed, confirms⟩ := passes.holdPlace named room titled ranged
    exact ⟨v, next, placed.tables, confirms⟩
  case badMessage =>
    have work : State.holdPlaceWork (.holdPlace id title branch until_) s = s.badMessage := by
      unfold State.holdPlaceWork
      dsimp only
      rw [if_pos outOfRange]
    obtain ⟨t, next, ends⟩ := performs.row_ends (row := .holdPlace) (fun _ => Works.refl.holdPlaceWork _) rfl work
      (performs.hasRoom (by omega))
    exact ⟨t, next, ends.tables, ends.confirms⟩
  · exact named.titleNotResident room titled ranged may out
  · exact served.quiet_row (by omega) (served.placeHold_refused refuses)
  · have absent := State.findTitle_none (served.servesOnly.titlesWf served.canon) place
    have from_ : op.from = o := by simp [Op.from, origin]
    have work := served.placeHold_checked may
    rw [State.titlePlace_absent absent] at work
    dsimp only at work
    rw [from_, State.parkPlacement_refuses served.servesOnly.clean absent refused] at work
    exact served.quiet_row (by omega) work
  · exact named.holdPlace_quiet room (named.holdPlace_refused titled ranged refuses)
  case parked =>
    obtain ⟨absent, unserved⟩ := State.completeParked_unserved clean q title k
    refine ⟨absent, fun slot found => ?_⟩
    obtain ⟨fetching, unknown, damaged⟩ := unserved slot found
    exact ⟨fetching, unknown, damaged, fun p resident patron =>
      ⟨fun r refuses => State.completeParked_refused clean found resident patron refuses,
        fun tt n may here space free ahead => State.completeParked_makes clean found resident patron may here
          (State.checkQueue_passes space free ahead)⟩⟩

/-! ## The parked placement (R91) -/

/-- What a parked placement writes: its number and the FETCHING record. -/
def State.parking (s : State) (n : Fin 32) (k title : Nat) (o : Origin) (q : Parked) : State :=
  (s.allocateTag n .titleFetch title 0 (some o) (some q)).setTitle k (.fetching title (s.nextTagId n))

theorem State.parkPlacement_parks {o : Origin} {n : Fin 32} (clean : u.upsets = []) (absent : u.findTitle title = none)
    (below : (u.stationAt o).stack.length + (u.stationAt o).parked < 2) (ahead : ∀ d, until_ = some d → u.today < d)
    (tag : u.freeTag = some n) (free : Tbl.firstFree u.titles 2048 = some k) (patron branch : Nat) :
    u.parkPlacement o patron title branch until_ =
      (((u.parking n k title o ⟨patron, branch, until_⟩).raiseParked o).post (.fetchTitle (u.nextTagId n) title),
        placeAnswer .pending 0) := by
  have timely : ¬ ((until_.map fun d => decide (d ≤ u.today)).getD false) = true := by
    cases until_ with
    | none => simp
    | some d => simpa using ahead d rfl
  have free' : Tbl.firstFree u.titles Config.titleSlots = some k := free
  unfold State.parkPlacement
  rw [if_neg (by simpa using (State.mayPark_iff _ _).mpr below), if_neg timely]
  dsimp only
  rw [State.readFreeTag_clean clean, tag]
  dsimp only
  rw [State.readFreeTitle_clean clean, absent, free']
  rfl

/-- The parked count rises at a station whose lane is attached as at the grant, and the tables stay. -/
theorem State.raiseParked_raises (s : State) (o : Origin) :
    RaisesParked s (s.raiseParked o) o ∧ (s.raiseParked o).tables = s.tables ∧
      (s.raiseParked o).engine = s.engine := by
  unfold State.raiseParked RaisesParked State.standsFor
  dsimp only
  split
  · rename_i stands
    refine ⟨⟨fun _ => ?_, fun gone => absurd stands gone⟩, rfl, rfl⟩
    unfold State.stationAt
    rw [State.lane_setLane, LaneUnit.get_mapStation, if_pos rfl]
  · rename_i gone
    exact ⟨⟨fun stands => absurd stands gone, fun _ => rfl⟩, rfl, rfl⟩

theorem OnlyPosts.sameStacks (posts : OnlyPosts u v) : SameStacks u v := by
  obtain ⟨q, f, g, rfl, -⟩ := posts
  exact .of_lanes rfl

/-- A parked count raised over lanes that later steps leave as they are. -/
theorem RaisesParked.of_after {o : Origin} (h : RaisesParked s u o) (later : SameStacks u v) : RaisesParked s v o := by
  unfold RaisesParked State.stationAt at *
  rw [later.parked]
  exact h

/-- A parked count raised after steps that leave the lanes as they are. -/
theorem RaisesParked.of_before {o : Origin} (h : RaisesParked u v o) (lanes : u.lanes = s.lanes) : RaisesParked s v o := by
  have lane (l : Lane) : u.lane l = s.lane l := congrArg (fun v => v.get l) lanes
  unfold RaisesParked State.stationAt State.standsFor at *
  simpa only [lane] using h

/-- Settles O24: the placement finds a number and a title slot, and `State.parking` says what it writes. -/
theorem placementOnAnAbsentTitleIsParked : Obligations.PlacementOnAnAbsentTitleIsParked := by
  intro s op x id title branch rest slot u p o n k served room origin unblocked unlisted notOnLoan limit absent below ahead tag
    free
  have from_ : op.from = o := by simp [Op.from, origin]
  have enough := served.room (k := 2) room
  have ⟨_, busy, _⟩ := enough
  have work := served.placeHold_checked ⟨unblocked, unlisted, notOnLoan, limit⟩
  rw [State.titlePlace_absent absent] at work
  dsimp only at work
  rw [from_, State.parkPlacement_parks served.servesOnly.clean absent below ahead tag free] at work
  obtain ⟨raises, sameTables, engine⟩ :=
    (u.parking n k title o ⟨p.id, branch, rest[0]?⟩).raiseParked_raises o
  generalize hw : (u.parking n k title o ⟨p.id, branch, rest[0]?⟩).raiseParked o = w at work raises sameTables engine
  have room' : w.hasRoom 2 := State.hasRoom_congr engine enough
  have posts := (State.post_onlyPosts w (.fetchTitle (u.nextTagId n) title)).sameStacks
  obtain ⟨v, next, ends⟩ := served.toGranted.request_ends served.kind work (State.post_room (k := 1) room' _).2
  have tables := (ends.tables.trans (State.post_tables _ _)).trans sameTables
  obtain ⟨patrons, loans, titles, pool, calendar, schedule, sweep, tags, -⟩ := State.tables_eq_iff.mp tables
  refine ⟨v, next, ⟨?_, ?_, ends.posted _ rfl (State.post_hasPosted (engine.trans busy) _)⟩, fun silent => ?_, fun m other => ?_,
    fun m other => ?_, patrons, loans, pool, calendar, schedule, sweep, ends.answers⟩
  · rw [titles]
    exact Tbl.lookup_store_same _ _ _
  · rw [tags]
    simp [State.parking, State.allocateTag, vector_get]
  · have lanes : u.lanes = s.lanes := served.servesOnly.lanes
    exact (raises.of_before lanes).of_after (posts.trans (ends.stations silent))
  · rw [titles]
    exact Tbl.lookup_store_ne _ _ _ _ other
  · rw [tags]
    exact Vector.getElem_set_ne n.isLt m.isLt (Fin.val_ne_of_ne other.symm)

end Sys2Proof.Machine
end

section
/-! PROOF. The row of a TITLE_LOAD (R8, R10, R103, R153): its posts, its CONFIRM and its station notice. -/

namespace Sys2Proof.Machine

variable {s t u v w y : State} {op left : Op} {x : Crossing} {tag : TagField} {title found shelf : Nat} {n m : Notice}

/-! ## Steps without station notices -/

/-- The posts and writes of an operation leave the stations' stacks and parked counts. -/
theorem Works.sameStacks (works : Works (fun _ _ => False) s t) : SameStacks s t := by
  induction works with
  | refl => exact .refl s
  | tables _ only ih => exact ih.trans (.of_lanes (congrArg State.lanes only :))
  | post _ n ih => exact ih.trans (State.post_onlyPosts _ n).sameStacks
  | postIfRoom _ n ih => exact ih.trans (State.postIfRoom_onlyPosts _ n).sameStacks
  | logFault _ c src ctx ih => exact ih.trans (State.logFault_onlyPosts _ c src ctx).sameStacks
  | trapped _ ih => exact ih.trans (State.trapped_onlyPosts _).sameStacks
  | extra _ step => exact step.elim

/-- They hand no station notice. -/
theorem Works.handed (works : Works (fun _ _ => False) s t) (busy : s.engine = .busy op) :
    ∃ done, t.engine = .busy done ∧ done.handed = op.handed :=
  (works.plain (K := AtStation ⟨0, 0, 0⟩)).keepsLines.handed op busy

theorem Stacks.of_before {o : Origin} {notice : StationNotice} (same : SameStacks s w) (h : Stacks w t o notice) :
    Stacks s t o notice := by
  unfold Stacks State.standsFor State.stationAt LaneUnit.isAttached at *
  rwa [same.life, same.gen, same.stack, same.parked] at h

/-! ## The completion -/

/-- What an operation has posted stands at its completion, or waits for room there (R8). -/
theorem State.HasPosted.completed (h : y.HasPosted m) (single : m.single = true) (busy : y.engine = .busy left)
    (claims : List Claim) : Posted (y.complete claims).startSending m := by
  by_cases quiet : left.waiting = []
  · rw [State.complete_done busy quiet]
    exact .inl (y.finishOp_mem left claims (h.queued (k := 0) ⟨left, busy, quiet, Nat.zero_le _⟩)
      (Notice.isLaneState_single single))
  · rw [State.complete_waits busy quiet]
    refine h.imp id fun ⟨op, busyOp, waits⟩ => ⟨left, rfl, ?_⟩
    cases busy.symm.trans busyOp
    exact waits

/-- t is what the completion of a TITLE_LOAD leaves of w, the state of its work, with this CONFIRM. -/
structure LoadEnds (s w t : State) (op : Op) (status : Status) (fields : List CField) : Prop where
  tables : t.tables = w.tables
  confirm : Posted t (.confirm s.headSeq 4 status fields)
  confirms : w.hasRoom 1 → Confirms s t 4 status fields
  posted : ∀ n, n.single = true → w.HasPosted n → Posted t n
  answers : ∀ o notice done, SameStacks s w → w.engine = .busy done → done.handed = [(o, notice)] → op.resetOwed = false →
    (∀ done, t.engine ≠ .waitingRoom done) → Stacks s t o notice

theorem Performs.titleLoad_row {status : Status} {fields : List CField}
    (h : Performs s op x (.titleLoad tag title found shelf))
    (served : State.titleLoadWork (.titleLoad tag title found shelf) s = (w, status, fields)) :
    ∃ t, exec (.titleLoad x) s = .next t ∧ LoadEnds s w t op status fields := by
  have works : Works Adjusts s w := by
    have made := (Works.refl (extra := Adjusts) (s := s)).titleLoadWork (.titleLoad tag title found shelf)
    rwa [served] at made
  have named : op.message = some (.titleLoad tag title found shelf) := by simp [Op.message, h.kind]
  have headSeq : w.headSeq = s.headSeq := by
    unfold State.headSeq
    rw [works.carries.inbound]
  obtain ⟨done, busyDone, granted⟩ := works.carries.op op h.busy
  generalize hn : Notice.confirm s.headSeq 4 status fields = n
  have single : n.single = true := by rw [← hn]; rfl
  have e : exec (.titleLoad x) s = .next ((w.post n).complete x.claims).startSending := by
    show State.message (OpKind.isMessage 4) State.titleLoadWork x s = _
    unfold State.message
    rw [State.command_perform h.noReset h.busy (by simp [h.kind, OpKind.isMessage, Message.kind]), h.crossed]
    simp only [named, State.confirm, served, headSeq, Message.kind, hn]
  have posts := w.post_onlyPosts n
  obtain ⟨left, busy, granted', handed⟩ : ∃ left, (w.post n).engine = .busy left ∧ SameGrant done left ∧
      left.handed = done.handed := by
    obtain ⟨q, f, g, made, same⟩ := posts
    refine ⟨g done, ?_, same done⟩
    rw [made]
    simp [State.setOutbound, busyDone, Engine.mapOp]
  refine ⟨_, e, (State.complete_tables _ _).trans (State.post_tables _ _), ?_, fun room => ?_, fun m single' posted => ?_,
    fun o notice done' same busy' one owed runs => ?_⟩
  · rw [hn]
    exact (State.post_hasPosted busyDone n).completed single busy _
  · have queued := (State.post_hasPosted busyDone n).queued (State.post_room (k := 0) room n).2
    obtain ⟨left', busyLeft, quiet, -⟩ := (State.post_room (k := 0) room n).2
    cases busy.symm.trans busyLeft
    unfold Confirms
    rw [hn, State.complete_done busy quiet]
    exact (w.post n).finishOp_mem left _ queued (Notice.isLaneState_single single)
  · exact (posted.post single' n).completed single' busy _
  · cases busyDone.symm.trans busy'
    have quiet : left.waiting = [] := by
      by_contra waits
      rw [State.complete_waits busy waits] at runs
      exact runs left rfl
    have notOwed : left.resetOwed = false := granted'.resetOwed.trans (granted.resetOwed.trans owed)
    rw [State.complete_done busy quiet]
    have stacked := (w.post n).finishOp_stacks (handed.trans one) notOwed x.claims
    exact Stacks.of_before (same.trans posts.sameStacks) (stacked.of_after (.of_lanes rfl))

end Sys2Proof.Machine
end

section
/-! PROOF. Trapped entries and shelf copies in a memory without damage (R94, R95): the accounts of a title through the
shelf drain. -/

namespace Sys2Proof.Machine

variable {s y z : State} {op : Op} {title n base kept : Nat} {tt tt' : Title} {i : QueueItem} {h : Hold} {q : List QueueItem}

/-! ## The entries trapped so far (R103) -/

/-- The entries that the operation in progress has trapped. -/
def State.traps (s : State) : Nat := (s.op?.map Op.traps).getD 0

theorem State.traps_of_busy (busy : s.engine = .busy op) : s.traps = op.traps := by
  simp [State.traps, State.op?, busy]

theorem State.traps_congr (engine : z.engine = y.engine) : z.traps = y.traps := by
  unfold State.traps State.op?
  rw [engine]

/-- A post traps nothing. -/
theorem State.post_traps (s : State) (m : Notice) : (s.post m).traps = s.traps := by
  unfold State.post
  split
  · rfl
  · split
    · rename_i op busy
      have mapped (v : State) (engine : v.engine = s.engine) (g : Op → Op) (same : (g op).traps = op.traps) :
          (v.mapOp g).traps = s.traps := by
        have busy' : (v.mapOp g).engine = .busy (g op) := by simp [engine, busy, Engine.mapOp]
        rw [State.traps_of_busy busy', State.traps_of_busy busy, same]
      split
      · exact mapped s rfl _ rfl
      · split
        · exact mapped (s.append m) rfl _ rfl
        · split
          · rfl
          · exact mapped s rfl _ rfl
    · rfl

theorem State.mapOp_busy (busy : s.engine = .busy op) (g : Op → Op) : (s.mapOp g).engine = .busy (g op) := by
  simp [busy, Engine.mapOp]

theorem State.mapOp_traps (busy : s.engine = .busy op) (g : Op → Op) : (s.mapOp g).traps = (g op).traps :=
  State.traps_of_busy (State.mapOp_busy busy g)

/-! ## Counts of entries (R88) -/

/-- An item's entry is readable and satisfies f. -/
def State.holds? (s : State) (f : Hold → Bool) (j : QueueItem) : Bool := ((s.holdAt j.slot).map f).getD false

theorem State.countHolds_items (s : State) (q : List QueueItem) (f : Hold → Bool) :
    s.countHolds q f = (q.filter (s.holds? f)).length := rfl

theorem State.holds?_of_entry {f : Hold → Bool} (held : s.holdAt i.slot = some h) : s.holds? f i = f h := by
  simp [State.holds?, held]

theorem State.holds?_congr {f : Hold → Bool} {j : QueueItem} (same : z.holdAt j.slot = y.holdAt j.slot) :
    z.holds? f j = y.holds? f j := by
  unfold State.holds?
  rw [same]

/-- A count falls where an item satisfies no longer what it did, and no other item comes to. -/
theorem State.countHolds_lt {f : Hold → Bool} (mem : i ∈ q) (was : y.holds? f i = true) (now : z.holds? f i = false)
    (others : ∀ j ∈ q, z.holds? f j = true → y.holds? f j = true) : z.countHolds q f < y.countHolds q f := by
  have both : q.filter (z.holds? f) = (q.filter (y.holds? f)).filter (z.holds? f) := by
    rw [List.filter_filter]
    refine List.filter_congr fun j memJ => ?_
    cases after : z.holds? f j with
    | false => rfl
    | true => simp [others j memJ after]
  rw [State.countHolds_items, State.countHolds_items, both]
  exact List.length_filter_lt_length_iff_exists.mpr ⟨i, List.mem_filter.mpr ⟨mem, was⟩, by simp [now]⟩

/-- The first WAITING entry is one of the queue's, readable and WAITING. -/
theorem State.firstWaiting_spec {w : QueueItem × Hold} (first : s.firstWaiting tt = some w) :
    w.1 ∈ tt.queue ∧ s.holdAt w.1.slot = some w.2 ∧ w.2.isWaiting = true := by
  obtain ⟨i, found, here⟩ := Option.bind_eq_some_iff.mp first
  obtain ⟨h, held, rfl⟩ := Option.map_eq_some_iff.mp here
  refine ⟨List.mem_of_find?_eq_some found, held, ?_⟩
  have waits := List.find?_some found
  simpa [held] using waits

/-- With no WAITING entry to count there is none to trap. -/
theorem State.firstWaiting_none (zero : s.countHolds tt.queue Hold.isWaiting = 0) : s.firstWaiting tt = none := by
  have empty : tt.queue.filter (s.holds? Hold.isWaiting) = [] := List.length_eq_zero_iff.mp zero
  unfold State.firstWaiting State.firstHold
  rw [List.find?_eq_none.mpr fun j mem waits => ?_]
  · rfl
  · exact List.filter_eq_nil_iff.mp empty j mem waits

/-! ## A title brought by a load -/

/-- Slot n holds the RESIDENT record of a title, found by the index; of its `kept` shelf copies those that are gone have been
trapped, on top of `base` entries trapped before. -/
structure Stocked (title n base kept : Nat) (y : State) (tt : Title) : Prop where
  clean : y.upsets = []
  wf : Tbl.wf y.titles = true
  busy : ∃ op, y.engine = .busy op
  found : y.findTitle title = some n
  resident : y.titleAt n = some tt
  least : tt.shelf ≤ kept
  traps : y.traps = base + (kept - tt.shelf)

/-- The index finds a slot whose record is written anew under its id. -/
theorem State.findTitle_store {r r' : TitleRec} (wf : Tbl.wf y.titles = true) (here : Tbl.lookup y.titles n = some r)
    (same : r'.id = r.id) (titles : z.titles = Tbl.store y.titles n r') (title : Nat) :
    z.findTitle title = y.findTitle title := by
  have slot (u : State) : Tbl.findSlot u.titles (fun r => r.id == title) =
      Tbl.findSlot (u.titles.map fun e => (e.1, e.2.id)) (· == title) := (Tbl.findSlot_map u.titles TitleRec.id (· == title)).symm
  unfold State.findTitle
  rw [slot, slot, titles, Tbl.map_store_same wf TitleRec.id here same]

namespace Stocked

theorem titleId (st : Stocked title n base kept y tt) : tt.id = title := State.titleAt_id st.wf st.found st.resident

/-- A step that leaves the titles and traps nothing. -/
theorem keeps (st : Stocked title n base kept y tt) (clean : z.upsets = []) (titles : z.titles = y.titles)
    (busy : ∃ op, z.engine = .busy op) (traps : z.traps = y.traps) : Stocked title n base kept z tt where
  clean := clean
  wf := by rw [titles]; exact st.wf
  busy := busy
  found := (State.findTitle_of_table titles title).trans st.found
  resident := (State.titleAt_of_table titles n).trans st.resident
  least := st.least
  traps := traps.trans st.traps

/-- A step that leaves the titles and the engine. -/
theorem sameEngine (st : Stocked title n base kept y tt) (clean : z.upsets = []) (titles : z.titles = y.titles)
    (engine : z.engine = y.engine) : Stocked title n base kept z tt := by
  obtain ⟨op, busy⟩ := st.busy
  exact st.keeps clean titles ⟨op, engine.trans busy⟩ (State.traps_congr engine)

/-- A step that writes the title's record anew, and traps as many entries as shelf copies leave it. -/
theorem writes (st : Stocked title n base kept y tt) (clean : z.upsets = [])
    (titles : z.titles = Tbl.store y.titles n (.resident tt')) (same : tt'.id = tt.id) (busy : ∃ op, z.engine = .busy op)
    (less : tt'.shelf ≤ tt.shelf) (traps : z.traps = y.traps + (tt.shelf - tt'.shelf)) :
    Stocked title n base kept z tt' where
  clean := clean
  wf := by rw [titles]; exact Tbl.wf_store _ _ _ st.wf
  busy := busy
  found := (State.findTitle_store (r' := .resident tt') st.wf (State.titleAt_eq_some.mp st.resident) same titles title).trans st.found
  resident := by
    rw [State.titleAt_eq_some, titles]
    exact Tbl.lookup_store_same _ _ _
  least := Nat.le_trans less st.least
  traps := by
    have least := st.least
    have before := st.traps
    omega

theorem post (st : Stocked title n base kept y tt) (m : Notice) : Stocked title n base kept (y.post m) tt := by
  obtain ⟨op, busy⟩ := st.busy
  obtain ⟨done, busyDone, -⟩ := (Works.refl.post (extra := Adjusts) m).carries.op op busy
  exact st.keeps ((State.post_onlyPosts _ _).upsets.trans st.clean)
    (State.tables_eq_iff.mp (State.post_tables y m)).2.2.1 ⟨done, busyDone⟩ (y.post_traps m)

/-- A step on the operation record that traps nothing. -/
theorem mapOp (st : Stocked title n base kept y tt) {g : Op → Op} (same : ∀ op, (g op).traps = op.traps) :
    Stocked title n base kept (y.mapOp g) tt := by
  obtain ⟨op, busy⟩ := st.busy
  refine st.keeps st.clean rfl ⟨g op, by simp [busy, Engine.mapOp]⟩ ?_
  rw [State.mapOp_traps busy, State.traps_of_busy busy, same]

end Stocked

/-! ## The shelf drain (R95) -/

theorem State.mapTitle_upsets (clean : s.upsets = []) (n : Nat) (f : Title → Title) : (s.mapTitle n f).upsets = [] := by
  cases resident : s.titleAt n with
  | none =>
    unfold State.mapTitle
    rw [resident]
    exact clean
  | some tt =>
    rw [State.mapTitle_clean clean resident]
    exact clean

theorem State.trap_upsets (clean : s.upsets = []) (n title : Nat) (w : QueueItem × Hold) (copy ret : Option Nat) :
    (s.trap n title w copy ret).upsets = [] := by
  unfold State.trap
  dsimp only
  refine (State.post_onlyPosts _ _).upsets.trans (State.mapTitle_upsets ?_ _ _)
  rw [State.setPool_clean clean]
  exact clean

theorem State.trap_traps (busy : s.engine = .busy op) (n title : Nat) (w : QueueItem × Hold) (copy ret : Option Nat) :
    (s.trap n title w copy ret).traps = s.traps + 1 := by
  unfold State.trap
  dsimp only
  generalize hv : State.mapTitle _ _ _ = v
  have engine : v.engine = s.engine := by
    rw [← hv, State.mapTitle_engine]
    rfl
  generalize hm : Notice.trapped _ _ _ _ _ _ = m
  obtain ⟨done, busyDone, -⟩ := (Works.refl.post (extra := Adjusts) m).carries.op op (engine.trans busy)
  rw [State.mapOp_traps busyDone, ← State.traps_congr engine, ← v.post_traps m, State.traps_of_busy busyDone]

/-- A shelf copy of the title goes to an entry. -/
theorem Stocked.trapFromShelf (st : Stocked title n base kept y tt) (stocked : 0 < tt.shelf) (title' : Nat)
    (w : QueueItem × Hold) :
    Stocked title n base kept (y.trapFromShelf n title' w)
      { tt with shelf := tt.shelf - 1, waiting := tt.waiting - 1, ready := tt.ready + 1 } := by
  obtain ⟨op, busy⟩ := st.busy
  have titles := (congrArg Tables.titles (State.trapFromShelf_tables st.clean st.resident title' w) :)
  obtain ⟨done, busyDone, -⟩ := (Works.refl.trapFromShelf (K := Adjusts) n title' w).carries.op op busy
  refine st.writes (State.trap_upsets (State.mapTitle_upsets st.clean _ _) _ _ _ _ _) titles rfl ⟨done, busyDone⟩
    (Nat.sub_le _ _) ?_
  have engine := y.mapTitle_engine n fun t => { t with shelf := t.shelf - 1 }
  have trapped := State.trap_traps (engine.trans busy) n title' w none none
  rw [State.traps_congr engine] at trapped
  dsimp only
  rw [Nat.sub_sub_self stocked]
  exact trapped

/-! ## The shelf drain (R95) -/

/-- What every shelf copy that goes to a WAITING entry keeps, the drain keeps. -/
theorem State.drainSteps_keeps {P : State → Prop} {n : Nat}
    (step : ∀ y tt w, P y → y.titleAt n = some tt → 0 < tt.shelf → y.firstWaiting tt = some w →
      P (y.trapFromShelf n tt.id w)) (m : Nat) (h : P y) : P (State.drainSteps n m y) := by
  induction m generalizing y with
  | zero => exact h
  | succ m ih =>
    unfold State.drainSteps
    split
    · exact h
    · rename_i tt resident
      split
      · exact h
      · rename_i stocked
        split
        · rename_i w first
          exact ih (step y tt w h resident (Nat.pos_of_ne_zero stocked) first)
        · exact h

theorem State.drain_keeps {P : State → Prop} {n : Nat} (clean : y.upsets = [])
    (step : ∀ y tt w, P y → y.titleAt n = some tt → 0 < tt.shelf → y.firstWaiting tt = some w →
      P (y.trapFromShelf n tt.id w)) (h : P y) : P (y.drain n) := by
  rw [State.drain_clean clean]
  unfold State.drainRead
  split
  · exact State.drainSteps_keeps step _ h
  · exact h

/-- No shelf copy is left for a WAITING entry. -/
def State.drained (s : State) (n : Nat) : Prop := ∀ tt, s.titleAt n = some tt → tt.shelf = 0 ∨ s.firstWaiting tt = none

theorem State.drained_congr (titles : z.titles = y.titles) (pool : z.pool = y.pool) (h : y.drained n) : z.drained n := by
  intro tt resident
  have same : z.firstWaiting tt = y.firstWaiting tt := by
    unfold State.firstWaiting State.firstHold
    simp only [State.holdAt_of_table pool]
  rw [same]
  exact h tt ((State.titleAt_of_table titles n).symm.trans resident)

/-- A shelf copy that goes to a WAITING entry leaves fewer of them. -/
theorem Stocked.trapFromShelf_waiting (st : Stocked title n base kept y tt) {w : QueueItem × Hold}
    (first : y.firstWaiting tt = some w) (title' : Nat) :
    (y.trapFromShelf n title' w).countHolds tt.queue Hold.isWaiting < y.countHolds tt.queue Hold.isWaiting := by
  obtain ⟨mem, held, waits⟩ := State.firstWaiting_spec first
  have writes := State.trapFromShelf_writes st.clean st.resident title' w
  have ready : (y.trapFromShelf n title' w).holdAt w.1.slot = some { w.2 with state := .ready y.pickupDeadline none } := by
    unfold State.holdAt
    rw [writes.entry]
  refine State.countHolds_lt mem ((State.holds?_of_entry held).trans waits) (State.holds?_of_entry ready) fun j _ after => ?_
  by_cases here : j.slot = w.1.slot
  · rw [State.holds?_of_entry (i := j) (by rw [here]; exact ready)] at after
    cases after
  · rwa [State.holds?_congr (State.holdAt_congr (writes.otherPool _ here))] at after

/-- As many steps as there are WAITING entries drain the shelf. -/
theorem Stocked.drainSteps_drained (st : Stocked title n base kept y tt) {m : Nat}
    (fuel : y.countHolds tt.queue Hold.isWaiting ≤ m) : (State.drainSteps n m y).drained n := by
  induction m generalizing y tt with
  | zero =>
    intro after resident
    cases st.resident.symm.trans resident
    exact .inr (State.firstWaiting_none (Nat.le_zero.mp fuel))
  | succ m ih =>
    unfold State.drainSteps
    rw [st.resident]
    dsimp only
    by_cases empty : tt.shelf = 0
    · rw [if_pos empty]
      intro after resident
      cases st.resident.symm.trans resident
      exact .inl empty
    rw [if_neg empty]
    cases first : y.firstWaiting tt with
    | none =>
      intro after resident
      cases st.resident.symm.trans resident
      exact .inr first
    | some w =>
      have fewer := st.trapFromShelf_waiting first tt.id
      exact ih (st.trapFromShelf (Nat.pos_of_ne_zero empty) tt.id w) (by dsimp only; omega)

theorem Stocked.drained (st : Stocked title n base kept y tt) : (y.drain n).drained n := by
  rw [State.drain_clean st.clean]
  unfold State.drainRead
  rw [st.resident]
  exact st.drainSteps_drained (List.length_filter_le _ _)

theorem Stocked.drain (st : Stocked title n base kept y tt) : ∃ tt', Stocked title n base kept (y.drain n) tt' :=
  State.drain_keeps (P := fun y => ∃ tt, Stocked title n base kept y tt) st.clean
    (fun y tt w ⟨tt₀, st⟩ resident stocked _ => by
      cases st.resident.symm.trans resident
      exact ⟨_, st.trapFromShelf stocked tt.id w⟩) ⟨tt, st⟩

end Sys2Proof.Machine
end

section
/-! PROOF. The placements that a TITLE_LOAD completes (R93), and the accounts of its title through them. -/

namespace Sys2Proof.Machine

variable {s v y w : State} {op : Op} {title n base kept slot : Nat} {tt : Title} {p : Patron}

/-! ## An entry made (R90) -/

/-- A new entry in this state has taken a shelf copy. -/
def HoldState.copiesTaken : HoldState → Nat
  | .ready _ _ => 1
  | _ => 0

theorem Title.with_shelf (tt : Title) (i : QueueItem) (st : HoldState) :
    (tt.with i st).shelf = tt.shelf - st.copiesTaken ∧ (tt.with i st).id = tt.id := by
  cases st <;> exact ⟨rfl, rfl⟩

theorem State.entryState_copiesTaken (u : State) (tt : Title) (until_ : Option Nat) :
    (u.entryState tt until_).copiesTaken ≤ tt.shelf := by
  unfold State.entryState
  split
  · exact Nat.zero_le _
  · split
    · assumption
    · exact Nat.zero_le _

theorem State.postPlaced_upsets (clean : w.upsets = []) (title patron branch position : Nat) (st : HoldState) :
    (w.postPlaced title patron branch position st).upsets = [] := by
  have first := (State.post_onlyPosts w (.holdChange title patron st.change position)).upsets.trans clean
  unfold State.postPlaced
  dsimp only
  split
  · exact (State.post_onlyPosts _ _).upsets.trans first
  · exact first

theorem State.postPlaced_traps (busy : w.engine = .busy op) (title patron branch position : Nat) (st : HoldState) :
    (w.postPlaced title patron branch position st).traps = w.traps + st.copiesTaken := by
  unfold State.postPlaced
  dsimp only
  cases st with
  | ready deadline copy =>
    dsimp only
    generalize hu : (w.post _) = u
    have traps : u.traps = w.traps := by rw [← hu]; exact w.post_traps _
    generalize hm : Notice.trapped _ _ _ _ _ _ = m
    have works : Works Adjusts w (u.post m) := by
      rw [← hu]
      exact (Works.refl.post _).post _
    obtain ⟨done, busyDone, -⟩ := works.carries.op op busy
    rw [State.mapOp_traps busyDone, ← traps, ← u.post_traps m, State.traps_of_busy busyDone]
    rfl
  | _ => exact w.post_traps _

/-- The entry of a placement keeps the title's accounts. -/
theorem Stocked.makeEntry (st : Stocked title n base kept y tt) (patron : y.patronAt slot = some p) (m branch : Nat)
    (until_ : Option Nat) :
    ∃ tt', Stocked title n base kept (y.makeEntry m slot n p.id branch tt until_).1 tt' := by
  obtain ⟨op, busy⟩ := st.busy
  obtain ⟨done, busyDone, -⟩ := (Works.refl.makeEntry (K := Adjusts) m slot n p.id branch tt until_).carries.op op busy
  rw [State.makeEntry_eq st.clean patron st.resident] at busyDone ⊢
  generalize hst : y.entryState tt until_ = hs at *
  obtain ⟨shelf, same⟩ := tt.with_shelf ⟨m, p.id⟩ hs
  have taken := y.entryState_copiesTaken tt until_
  rw [hst] at taken
  refine ⟨tt.with ⟨m, p.id⟩ hs, st.writes ?_ ?_ same ⟨done, busyDone⟩ (by omega) ?_⟩
  · exact State.postPlaced_upsets (w := y.placed m slot n branch p tt hs) st.clean _ _ _ _ _
  · exact (congrArg Tables.titles (State.postPlaced_tables _ _ _ _ _ _) :)
  · have traps := State.postPlaced_traps (w := y.placed m slot n branch p tt hs) busy tt.id p.id branch
      ((y.placed m slot n branch p tt hs).changePosition n m hs) hs
    rw [State.traps_congr (z := y.placed m slot n branch p tt hs) (y := y) rfl] at traps
    rw [shelf, Nat.sub_sub_self taken]
    exact traps

/-! ## The completion of a parked placement (R93) -/

theorem State.touchDay_titles (s : State) (slot : Nat) : (s.touchDay slot).titles = s.titles := by
  unfold State.touchDay
  split <;> rfl

theorem Stocked.touchDay (st : Stocked title n base kept y tt) (slot : Nat) :
    Stocked title n base kept (y.touchDay slot) tt :=
  st.sameEngine (State.touchDay_upsets st.clean slot) (y.touchDay_titles slot) (y.touchDay_onlyTables slot).engine

theorem State.checkPatron_state (clean : y.upsets = []) (p : Patron) (title : Nat) : (y.checkPatron p title).1 = y := by
  unfold State.checkPatron
  rw [State.readLoans_clean clean]
  dsimp only
  split
  · rfl
  · split
    · rfl
    · split
      · rfl
      · split <;> rfl

theorem Stocked.placeOn (st : Stocked title n base kept y tt) (patron : y.patronAt slot = some p) (branch : Nat)
    (until_ : Option Nat) : ∃ tt', Stocked title n base kept (y.placeOn slot p.id n branch until_).1 tt' := by
  rw [State.placeOn_eq st.clean st.resident]
  split
  · exact ⟨tt, st⟩
  · exact st.makeEntry patron _ branch until_

theorem Stocked.completeParked (st : Stocked title n base kept y tt) (k : Parked) (title' : Nat) :
    ∃ tt', Stocked title n base kept (y.completeParked k title' n).1 tt' := by
  unfold State.completeParked
  dsimp only
  rw [State.lookUpPatron_clean st.clean]
  split
  · exact ⟨tt, st⟩
  · rename_i slot _
    split
    · have touched := st.touchDay slot
      split
      · exact ⟨tt, touched⟩
      · rename_i p patron
        have checked := State.checkPatron_state touched.clean p title'
        split
        · rename_i refused
          rw [refused] at checked
          exact ⟨tt, checked ▸ touched⟩
        · rename_i passed
          rw [passed] at checked
          dsimp only at checked
          rw [checked]
          have placed := touched.placeOn patron k.branch k.until_
          split <;> rename_i made <;> rwa [made] at placed
    · exact ⟨tt, st⟩
    · exact ⟨tt, st.touchDay slot⟩

theorem Stocked.handHoldResult (st : Stocked title n base kept y tt) (q : Question) (number : Nat) (o : NoticeOutcome) :
    Stocked title n base kept (y.handHoldResult q number o) tt := by
  unfold State.handHoldResult State.hand
  split
  · split
    · exact st.mapOp fun _ => rfl
    · exact st
  · exact st

/-! ## The questions that a load ends (R93, R104) -/

/-- A question with a placement: it is performed, its HOLD_RESULT made, and the shelf drained. -/
theorem State.completeQuestion_parked {q : Question} {k : Parked} (parked : q.parked = some k) (y : State)
    (title n number : Nat) :
    y.completeQuestion title (some n) q number =
      (((y.completeParked k title n).1.handHoldResult q number (y.completeParked k title n).2).drain n) := by
  unfold State.completeQuestion
  rewrite [parked]
  rfl

theorem State.completeQuestion_other {q : Question} (parked : q.parked = none) (y : State) (title : Nat)
    (slot : Option Nat) (number : Nat) : y.completeQuestion title slot q number = y := by
  unfold State.completeQuestion State.handHoldResult
  simp [parked]

theorem State.completeQuestion_noTitle (y : State) (title : Nat) (q : Question) (number : Nat) :
    y.completeQuestion title none q number = y.handHoldResult q number (.refused .tableFull) := by
  unfold State.completeQuestion
  cases q.parked <;> rfl

/-- Through the placements that a load completes its title keeps its accounts, and its shelf stays drained. -/
theorem Stocked.completeQuestions (st : Stocked title n base kept y tt) (drained : y.drained n)
    (qs : List (Question × Nat)) :
    (∃ tt', Stocked title n base kept (qs.foldl (fun y q => y.completeQuestion title (some n) q.1 q.2) y) tt') ∧
      (qs.foldl (fun y q => y.completeQuestion title (some n) q.1 q.2) y).drained n := by
  induction qs generalizing y tt with
  | nil => exact ⟨⟨tt, st⟩, drained⟩
  | cons q qs ih =>
    rw [List.foldl_cons]
    cases parked : q.1.parked with
    | none =>
      rw [State.completeQuestion_other parked]
      exact ih st drained
    | some k =>
      rw [State.completeQuestion_parked parked]
      obtain ⟨tt₁, st₁⟩ := st.completeParked k title
      have st₂ := st₁.handHoldResult q.1 q.2 (y.completeParked k title n).2
      obtain ⟨tt₃, st₃⟩ := st₂.drain
      exact ih st₃ st₂.drained

/-! ## The station notice of one question (R153) -/

/-- The one HOLD_RESULT of an operation that had handed none. -/
theorem State.handHoldResult_hands {q : Question} {k : Parked} {o : Origin} (busy : y.engine = .busy op)
    (silent : op.handed = []) (parked : q.parked = some k) (origin : q.origin = some o) (number : Nat)
    (outcome : NoticeOutcome) :
    ∃ done, (y.handHoldResult q number outcome).engine = .busy done ∧
      done.handed = [(o, ⟨.holdResult, k.patron, q.subject, outcome, number, false⟩)] := by
  unfold State.handHoldResult State.hand
  rw [parked, origin]
  exact ⟨_, State.mapOp_busy busy _, by simp [silent]⟩

theorem State.handHoldResult_sameStacks (y : State) (q : Question) (number : Nat) (outcome : NoticeOutcome) :
    SameStacks y (y.handHoldResult q number outcome) := by
  unfold State.handHoldResult State.hand
  split
  · split <;> exact .of_lanes rfl
  · exact .refl y

theorem State.handHoldResult_tables (y : State) (q : Question) (number : Nat) (outcome : NoticeOutcome) :
    (y.handHoldResult q number outcome).tables = y.tables := by
  unfold State.handHoldResult State.hand
  split
  · split <;> rfl
  · rfl

theorem State.handHoldResult_room {m : Nat} (room : y.hasRoom m) (q : Question) (number : Nat) (outcome : NoticeOutcome) :
    (y.handHoldResult q number outcome).hasRoom m ∧ (y.handHoldResult q number outcome).traps = y.traps := by
  obtain ⟨op, busy, quiet, left⟩ := room
  unfold State.handHoldResult State.hand
  split
  · split
    · refine ⟨⟨_, State.mapOp_busy busy _, quiet, left⟩, ?_⟩
      rw [State.mapOp_traps busy, State.traps_of_busy busy]
    · exact ⟨⟨op, busy, quiet, left⟩, rfl⟩
  · exact ⟨⟨op, busy, quiet, left⟩, rfl⟩

end Sys2Proof.Machine
end

section
/-! PROOF. TITLE_LOAD by its tag, its found flag and its title's record (R103 to R106, R149): what it refuses, and what it
completes once a title is there. -/

namespace Sys2Proof.Machine

variable {s v y w : State} {op : Op} {x : Crossing} {tag : TagField} {title found shelf n base kept : Nat} {tt : Title}
  {qs : List (Question × Nat)} {status : Status} {outcome : NoticeOutcome}

/-! ## The tag (R149) -/

theorem State.matchTag_untagged (untagged : ¬ tag.present = true) (s : State) (kind : TagKind) (subject : Option Nat) :
    s.matchTag tag kind subject = none := by
  unfold State.matchTag
  split
  · dsimp only
    split
    · rw [if_neg (by simp [untagged])]
    · rfl
  · rfl

theorem State.titleLoadWork_stale (clean : s.upsets = []) (titled : title ≠ 0)
    (stale : s.loadBase tag .titleFetch title = none) (found shelf : Nat) :
    State.titleLoadWork (.titleLoad tag title found shelf) s = (s.logStaleReply tag 0 title, .staleTag, []) := by
  unfold State.loadBase at stale
  split at stale
  · rename_i tagged
    have unmatched : s.matchTag tag .titleFetch (some title) = none := Option.map_eq_none_iff.mp stale
    unfold State.titleLoadWork
    simp only [titled, ↓reduceIte, tagged, State.readTagField_clean clean, unmatched]
  · cases stale

theorem State.titleLoadWork_base (clean : s.upsets = []) (titled : title ≠ 0)
    (base : s.loadBase tag .titleFetch title = some v) (found shelf : Nat) :
    State.titleLoadWork (.titleLoad tag title found shelf) s =
      v.loadTitle title found shelf (s.loadQuestions v tag title) := by
  have clean' := (State.loadBase_onlyTags clean base).clean
  unfold State.loadQuestions
  unfold State.loadBase at base
  split at base
  · rename_i tagged
    obtain ⟨q, matched, rfl⟩ := Option.map_eq_some_iff.mp base
    unfold State.titleLoadWork
    simp only [titled, ↓reduceIte, tagged, State.readTagField_clean clean, matched, State.lookUpTitle_clean clean',
      State.readFetchTag_clean clean', Option.map_some, Option.toList_some, List.singleton_append]
  · rename_i untagged
    cases base
    unfold State.titleLoadWork
    simp only [titled, ↓reduceIte, untagged, Bool.false_eq_true, State.lookUpTitle_clean clean', State.matchTag_untagged untagged,
      State.readFetchTag_clean clean', Option.map_none, Option.toList_none, List.nil_append]

/-! ## A record written to a FREE slot -/

theorem Tbl.findSlot_store_new {α : Type} {t : Tbl α} {p : α → Bool} {r : α} (absent : Tbl.findSlot t p = none)
    (names : p r = true) (n : Nat) : Tbl.findSlot (Tbl.store t n r) p = some n := by
  have none_ : ∀ e ∈ t, ¬ p e.2 = true := List.find?_eq_none.mp (Option.map_eq_none_iff.mp absent)
  have here : (n, r) ∈ Tbl.store t n r := Tbl.mem_of_lookup (Tbl.lookup_store_same _ _ _)
  unfold Tbl.findSlot
  cases first : (Tbl.store t n r).find? fun e => p e.2 with
  | none => exact absurd names (List.find?_eq_none.mp first (n, r) here)
  | some e =>
    rcases Tbl.mem_store (List.mem_of_find?_eq_some first) with rfl | old
    · rfl
    · exact absurd (List.find?_some first) (none_ e old)

theorem State.findTitle_new {tt : Title} (titled : title ≠ 0) (absent : y.findTitle title = none) (same : tt.id = title)
    (n : Nat) : (y.setTitle n (.resident tt)).findTitle title = some n := by
  unfold State.findTitle at absent ⊢
  rw [if_neg titled] at absent ⊢
  exact Tbl.findSlot_store_new absent (by simpa [TitleRec.id] using same) n

/-! ## The title's record (R104 to R106, R109) -/

theorem State.titleFound_full (clean : v.upsets = []) (absent : v.findTitle title = none)
    (full : Tbl.firstFree v.titles 2048 = none) (kept : Nat) : v.titleFound title kept = (v, .tableFull, none) := by
  have full' : Tbl.firstFree v.titles Config.titleSlots = none := full
  unfold State.titleFound
  simp only [State.readQueueById_clean clean, State.titlePlace_absent absent, State.readFreeTitle_clean clean, absent, full']

theorem State.titleFound_free (clean : v.upsets = []) (absent : v.findTitle title = none)
    (free : Tbl.firstFree v.titles 2048 = some n) (kept : Nat) :
    v.titleFound title kept = (v.newTitle n title kept, .ok, some n) := by
  have free' : Tbl.firstFree v.titles Config.titleSlots = some n := free
  unfold State.titleFound
  simp only [State.readQueueById_clean clean, State.titlePlace_absent absent, State.readFreeTitle_clean clean, absent, free']

theorem State.titleFound_fetching {id : Nat} {held : TagId} (clean : v.upsets = []) (known : v.findTitle title = some n)
    (here : Tbl.lookup v.titles n = some (.fetching id held)) (kept : Nat) :
    v.titleFound title kept = ((v.satisfyTag held).newTitle n title kept, .ok, some n) := by
  unfold State.titleFound
  simp only [State.readQueueById_clean clean, State.titlePlace_fetching known here]

theorem State.titleFound_resident (clean : v.upsets = []) (known : v.findTitle title = some n)
    (resident : v.titleAt n = some tt) (kept : Nat) :
    v.titleFound title kept = ((v.setTitle n (.resident { tt with shelf := kept })).drain n, .ok, some n) := by
  have clean' : (v.setTitle n (.resident { tt with shelf := kept })).upsets = [] := by simp [State.setTitle, clean]
  unfold State.titleFound State.mapTitle
  simp only [State.readQueueById_clean clean, State.titlePlace_resident known resident, resident,
    State.drain_clean clean']

theorem State.titleFound_damaged {id : Nat} (clean : v.upsets = []) (known : v.findTitle title = some n)
    (here : Tbl.lookup v.titles n = some (.damaged id)) (kept : Nat) :
    v.titleFound title kept = (v.restoreTitle n title kept, .ok, some n) := by
  unfold State.titleFound
  simp only [State.readQueueById_clean clean, State.titlePlace_damaged known here]

theorem State.titleNotFound_absent (absent : v.findTitle title = none) : v.titleNotFound title = (v, .ok) := by
  unfold State.titleNotFound
  simp only [State.titlePlace_absent absent]

theorem State.titleNotFound_fetching {id : Nat} {held : TagId} (known : v.findTitle title = some n)
    (here : Tbl.lookup v.titles n = some (.fetching id held)) :
    v.titleNotFound title = ((v.satisfyTag held).freeTitle n, .ok) := by
  unfold State.titleNotFound
  simp only [State.titlePlace_fetching known here]

theorem State.titleNotFound_resident (known : v.findTitle title = some n) (resident : v.titleAt n = some tt) :
    v.titleNotFound title = (v, .wrongState) := by
  unfold State.titleNotFound
  simp only [State.titlePlace_resident known resident]

theorem State.titleNotFound_damaged {id : Nat} (known : v.findTitle title = some n)
    (here : Tbl.lookup v.titles n = some (.damaged id)) : v.titleNotFound title = (v, .wrongState) := by
  unfold State.titleNotFound
  simp only [State.titlePlace_damaged known here]

/-! ## The statement's parts -/

/-- The counts that the CONFIRM carries before the entries trapped (R103). -/
def titleCountFields (title : Nat) : Option Title → List CField
  | some tt => [⟨1, tt.shelf⟩, ⟨1, tt.waiting⟩, ⟨1, tt.ready⟩]
  | none => (List.range 3).map fun i => ⟨1, Config.noTitleCount i title⟩

theorem State.titleCounts_eq (w : State) (title : Nat) :
    w.titleCounts title = titleCountFields title (w.residentTitle title) ++ [⟨1, w.traps⟩] := by
  unfold State.titleCounts titleCountFields
  cases w.residentTitle title <;> rfl

/-- The HOLD_RESULT of a load's one placement reaches its station, unless the completion waits or is dropped. -/
def LoadAnswers (s : State) (op : Op) (qs : List (Question × Nat)) (t : State) (outcome : NoticeOutcome) : Prop :=
  ∀ q number k o, qs = [(q, number)] → q.parked = some k → q.origin = some o → op.handed = [] → op.resetOwed = false →
    (∀ done, t.engine ≠ .waitingRoom done) →
    Stacks s t o ⟨.holdResult, k.patron, q.subject, outcome, number, false⟩

/-- A load that brings no title: these tables, this CONFIRM and this outcome for its placements. -/
def LoadRefuses (s : State) (op : Op) (x : Crossing) (title : Nat) (qs : List (Question × Nat)) (u : Tables)
    (status : Status) (outcome : NoticeOutcome) : Prop :=
  ∃ t, exec (.titleLoad x) s = .next t ∧ t.tables = u ∧ LoadAnswers s op qs t outcome ∧
    Confirms s t 4 status (titleCountFields title (t.residentTitle title) ++ [⟨1, op.traps⟩])

/-- A load that brings its title to a slot, in w, and performs the placements of the questions it ends. -/
def LoadCompletes (s : State) (op : Op) (x : Crossing) (title shelf : Nat) (qs : List (Question × Nat)) (w : State)
    (slot : Nat) : Prop :=
  ∃ t tt, exec (.titleLoad x) s = .next t ∧
    t.tables = (qs.foldl (fun y q => y.completeQuestion title (some slot) q.1 q.2) w).tables ∧
    t.titleAt slot = some tt ∧ (tt.shelf = 0 ∨ t.firstWaiting tt = none) ∧
    (∀ q number k, qs = [(q, number)] → q.parked = some k → LoadAnswers s op qs t (w.completeParked k title slot).2) ∧
    Posted t (.confirm s.headSeq 4 (if 255 < shelf then .clamped else .ok)
      (titleCountFields title (some tt) ++ [⟨1, op.traps + (min shelf 255 - tt.shelf)⟩]))

/-- A granted TITLE_LOAD whose title id and tag pass, the state that it acts on and the questions that it ends. -/
structure LoadsTitle (s : State) (op : Op) (x : Crossing) (tag : TagField) (title found shelf : Nat) (v : State)
    (qs : List (Question × Nat)) : Prop where
  performs : Performs s op x (.titleLoad tag title found shelf)
  room : 4 ≤ op.reservation
  titled : title ≠ 0
  tags : OnlyTags s v
  work : State.titleLoadWork (.titleLoad tag title found shelf) s = v.loadTitle title found shelf qs

/-! ## A load that brings no title -/

/-- What each placement is told while no title comes. -/
def State.answerAll (w : State) (qs : List (Question × Nat)) (outcome : NoticeOutcome) : State :=
  qs.foldl (fun y q => y.handHoldResult q.1 q.2 outcome) w

theorem State.answerAll_tables (w : State) (qs : List (Question × Nat)) (outcome : NoticeOutcome) :
    (w.answerAll qs outcome).tables = w.tables := by
  unfold State.answerAll
  induction qs generalizing w with
  | nil => rfl
  | cons q qs ih => exact (ih _).trans (w.handHoldResult_tables q.1 q.2 outcome)

theorem State.answerAll_room {m : Nat} (room : w.hasRoom m) (qs : List (Question × Nat)) (outcome : NoticeOutcome) :
    (w.answerAll qs outcome).hasRoom m ∧ (w.answerAll qs outcome).traps = w.traps := by
  unfold State.answerAll
  induction qs generalizing w with
  | nil => exact ⟨room, rfl⟩
  | cons q qs ih =>
    obtain ⟨room', traps⟩ := State.handHoldResult_room room q.1 q.2 outcome
    obtain ⟨last, same⟩ := ih room'
    exact ⟨last, same.trans traps⟩

namespace LoadsTitle

variable (load : LoadsTitle s op x tag title found shelf v qs)
include load

theorem lanes : v.lanes = s.lanes := (congrArg State.lanes load.tags.same :)

theorem wf : Tbl.wf v.titles = true := by
  obtain ⟨-, -, wf, -⟩ := load.performs.canon
  rwa [show v.titles = s.titles from (congrArg State.titles load.tags.same :)]

theorem refuses (work : v.loadTitle title found shelf qs =
      (w.answerAll qs outcome, status, (w.answerAll qs outcome).titleCounts title))
    (engine : w.engine = s.engine) (lanes : w.lanes = s.lanes) :
    LoadRefuses s op x title qs w.tables status outcome := by
  have busy : w.engine = .busy op := engine.trans load.performs.busy
  obtain ⟨t, next, ends⟩ := load.performs.titleLoad_row (load.work.trans work)
  obtain ⟨room, traps⟩ := State.answerAll_room (m := 1)
    (State.hasRoom_congr engine (load.performs.hasRoom (Nat.le_trans (by decide) load.room))) qs outcome
  have tables := ends.tables.trans (w.answerAll_tables qs outcome)
  refine ⟨t, next, tables, fun q number k o one parked origin silent owed runs => ?_, ?_⟩
  · subst one
    obtain ⟨done, busyDone, handed⟩ := State.handHoldResult_hands busy silent parked origin number outcome
    exact ends.answers o _ done ((SameStacks.of_lanes lanes).trans (w.handHoldResult_sameStacks q number outcome)) busyDone
      handed owed runs
  · have confirms := ends.confirms room
    have titles := (State.tables_eq_iff.mp ends.tables).2.2.1
    rw [State.titleCounts_eq, traps, State.traps_of_busy busy, ← State.residentTitle_of_table titles] at confirms
    exact confirms

/-- A load that is not found, by the status of what it leaves of the title. -/
theorem notFound (isNot : found = 0) (leaves : v.titleNotFound title = (w, status)) (engine : w.engine = s.engine)
    (lanes : w.lanes = s.lanes) :
    LoadRefuses s op x title qs w.tables (shelfStatus status shelf) (.refused .notFound) := by
  refine load.refuses ?_ engine lanes
  unfold State.loadTitle State.answerAll
  rw [if_pos isNot, leaves]

/-- A found load with no slot for its title. -/
theorem tableFull (isFound : found ≠ 0) (full : v.titleFound title (min shelf 255) = (v, .tableFull, none)) :
    LoadRefuses s op x title qs v.tables .tableFull (.refused .tableFull) := by
  have each : (fun (y : State) (q : Question × Nat) => y.completeQuestion title none q.1 q.2) =
      fun y q => y.handHoldResult q.1 q.2 (.refused .tableFull) :=
    funext fun y => funext fun q => y.completeQuestion_noTitle title q.1 q.2
  refine load.refuses ?_ load.tags.engine load.lanes
  unfold State.loadTitle State.answerAll
  rw [if_neg isFound, full]
  dsimp only
  rw [each]
  rfl

/-! ## A load that brings its title -/

/-- The state that brings the title, and its accounts there, are given. -/
theorem completes (isFound : found ≠ 0) (brings : v.titleFound title (min shelf 255) = (w, .ok, some n))
    (stocked : Stocked title n op.traps (min shelf 255) w tt) (drained : w.drained n) :
    LoadCompletes s op x title shelf qs w n := by
  have works : Works (fun _ _ => False) v w := by
    have made := (Works.refl (extra := fun _ _ => False) (s := v)).titleFound title (min shelf 255)
    rwa [brings] at made
  obtain ⟨⟨tt', st⟩, drained'⟩ := stocked.completeQuestions drained qs
  have work : State.titleLoadWork (.titleLoad tag title found shelf) s =
      (qs.foldl (fun y q => y.completeQuestion title (some n) q.1 q.2) w, shelfStatus .ok shelf,
        (qs.foldl (fun y q => y.completeQuestion title (some n) q.1 q.2) w).titleCounts title) := by
    rw [load.work]
    unfold State.loadTitle
    rw [if_neg isFound, brings]
  obtain ⟨t, next, ends⟩ := load.performs.titleLoad_row work
  obtain ⟨-, -, titles, pool, -⟩ := State.tables_eq_iff.mp ends.tables
  have resident := (State.titleAt_of_table titles n).trans st.resident
  refine ⟨t, tt', next, ends.tables, resident, State.drained_congr titles pool drained' tt' resident,
    fun q number k one parked q' number' k' o one' parked' origin silent owed runs => ?_, ?_⟩
  · cases one.symm.trans one'
    cases parked.symm.trans parked'
    have busyV : v.engine = .busy op := load.tags.engine.trans load.performs.busy
    have before : Works (fun _ _ => False) v (w.completeParked k title n).1 := works.completeParked k title n
    obtain ⟨mid, busyMid, handedMid⟩ := before.handed busyV
    obtain ⟨made, busyMade, handedMade⟩ := State.handHoldResult_hands busyMid (handedMid.trans silent) parked origin number
      (w.completeParked k title n).2
    have after : Works (fun _ _ => False) _ (State.drain _ n) :=
      (Works.refl (s := (w.completeParked k title n).1.handHoldResult q number (w.completeParked k title n).2)).drain n
    obtain ⟨done, busyDone, handedDone⟩ := after.handed busyMade
    subst one
    refine ends.answers o _ done ?_ ?_ (handedDone.trans handedMade) owed runs
    · rw [List.foldl_cons, List.foldl_nil, State.completeQuestion_parked parked]
      exact (((SameStacks.of_lanes load.lanes).trans before.sameStacks).trans
        (State.handHoldResult_sameStacks _ q number _)).trans after.sameStacks
    · rw [List.foldl_cons, List.foldl_nil, State.completeQuestion_parked parked]
      exact busyDone
  · have counts : ∀ y : State, Stocked title n op.traps (min shelf 255) y tt' →
        y.titleCounts title = titleCountFields title (some tt') ++ [⟨1, op.traps + (min shelf 255 - tt'.shelf)⟩] :=
      fun y st => by
        rw [State.titleCounts_eq, st.traps, State.residentTitle, st.found, Option.bind_some, st.resident]
    have confirm := ends.confirm
    rw [counts _ st] at confirm
    unfold shelfStatus at confirm
    simpa only [true_and] using confirm

/-! ## By the record -/

/-- The accounts of a title as its load writes it. -/
theorem stockedNew {tt : Title} (clean : y.upsets = []) (engine : y.engine = s.engine) (wf : Tbl.wf y.titles = true)
    (known : (y.setTitle n (.resident tt)).findTitle title = some n) (stock : tt.shelf = kept) :
    Stocked title n op.traps kept (y.setTitle n (.resident tt)) tt where
  clean := by simp [State.setTitle, clean]
  wf := Tbl.wf_store _ _ _ wf
  busy := ⟨op, engine.trans load.performs.busy⟩
  found := known
  resident := State.titleAt_eq_some.mpr (Tbl.lookup_store_same _ _ _)
  least := Nat.le_of_eq stock
  traps := by
    have busy : (y.setTitle n (.resident tt)).engine = .busy op := engine.trans load.performs.busy
    rw [State.traps_of_busy busy, stock, Nat.sub_self, Nat.add_zero]

omit load in
/-- An empty queue has no WAITING entry. -/
theorem drainedEmpty (y : State) (n title kept : Nat) : (y.newTitle n title kept).drained n := by
  intro tt resident
  have here : (y.newTitle n title kept).titleAt n = some ⟨title, kept, [], 0, 0⟩ :=
    State.titleAt_eq_some.mpr (Tbl.lookup_store_same _ _ _)
  cases here.symm.trans resident
  exact .inr rfl

omit load in
theorem okOrClamped (shelf : Nat) : shelfStatus .ok shelf = if 255 < shelf then .clamped else .ok := by
  simp [shelfStatus]

theorem absent (none_ : v.findTitle title = none) :
    (found = 0 →
        LoadRefuses s op x title qs v.tables (if 255 < shelf then .clamped else .ok) (.refused .notFound)) ∧
      (found ≠ 0 → Tbl.firstFree v.titles 2048 = none →
        LoadRefuses s op x title qs v.tables .tableFull (.refused .tableFull)) ∧
      ∀ n, found ≠ 0 → Tbl.firstFree v.titles 2048 = some n →
        LoadCompletes s op x title shelf qs (v.setTitle n (.resident ⟨title, min shelf 255, [], 0, 0⟩)) n := by
  refine ⟨fun isNot => ?_, fun isFound full => load.tableFull isFound (State.titleFound_full load.tags.clean none_ full _),
    fun n isFound free => ?_⟩
  · rw [← okOrClamped]
    exact load.notFound isNot (State.titleNotFound_absent none_) load.tags.engine load.lanes
  · exact load.completes isFound (State.titleFound_free load.tags.clean none_ free _)
      (load.stockedNew load.tags.clean load.tags.engine load.wf (State.findTitle_new load.titled none_ rfl n) rfl)
      (drainedEmpty v n title _)

theorem fetching {id : Nat} {held : TagId} (known : v.findTitle title = some n)
    (here : Tbl.lookup v.titles n = some (.fetching id held)) :
    (found = 0 →
        LoadRefuses s op x title qs { (v.satisfyTag held).tables with titles := Tbl.release v.titles n }
          (if 255 < shelf then .clamped else .ok) (.refused .notFound)) ∧
      (found ≠ 0 →
        LoadCompletes s op x title shelf qs ((v.satisfyTag held).setTitle n (.resident ⟨title, min shelf 255, [], 0, 0⟩)) n) := by
  have satisfied := OnlyTags.satisfyTag load.tags.clean held
  have tags := load.tags.trans satisfied
  have titles : (v.satisfyTag held).titles = v.titles := (congrArg State.titles satisfied.same :)
  refine ⟨fun isNot => ?_, fun isFound => ?_⟩
  · have refused := load.notFound isNot (State.titleNotFound_fetching known here) tags.engine
      (congrArg State.lanes tags.same :)
    rw [okOrClamped] at refused
    rw [← titles]
    exact refused
  · obtain ⟨rec, there, named⟩ := State.findTitle_spec load.wf known
    cases here.symm.trans there
    have found' : ((v.satisfyTag held).setTitle n (.resident ⟨title, min shelf 255, [], 0, 0⟩)).findTitle title = some n :=
      (State.findTitle_store (y := v) (r' := .resident ⟨title, min shelf 255, [], 0, 0⟩) load.wf here named.symm
        (by rw [← titles]; rfl) title).trans known
    exact load.completes isFound (State.titleFound_fetching load.tags.clean known here _)
      (load.stockedNew satisfied.clean tags.engine (titles ▸ load.wf) found' rfl) (drainedEmpty _ n title _)

theorem resident (known : v.findTitle title = some n) (own : v.titleAt n = some tt) :
    (found = 0 → LoadRefuses s op x title qs v.tables .wrongState (.refused .notFound)) ∧
      (found ≠ 0 →
        LoadCompletes s op x title shelf qs ((v.setTitle n (.resident { tt with shelf := min shelf 255 })).drain n) n) := by
  refine ⟨fun isNot =>
    load.notFound isNot (State.titleNotFound_resident known own) load.tags.engine load.lanes, fun isFound => ?_⟩
  have found' : (v.setTitle n (.resident { tt with shelf := min shelf 255 })).findTitle title = some n :=
    (State.findTitle_store (y := v) (r' := .resident { tt with shelf := min shelf 255 }) load.wf
      (State.titleAt_eq_some.mp own) rfl rfl title).trans known
  have start := load.stockedNew load.tags.clean load.tags.engine load.wf found' rfl
  obtain ⟨tt', stocked⟩ := start.drain
  exact load.completes isFound (State.titleFound_resident load.tags.clean known own _) stocked start.drained

end LoadsTitle

end Sys2Proof.Machine
end

section
/-! PROOF. The restoration of a DAMAGED title (R109), steps 1 to 4: the rebuilt queue, and its entries checked against their
owners. -/

namespace Sys2Proof.Machine

variable {s v y z w : State} {op : Op} {title n base kept k slot : Nat} {tt tt' : Title} {p : Patron} {i : QueueItem}
  {q rest : List QueueItem} {r r' : PatronRec}

/-! ## Tables -/

theorem Tbl.store_same {α : Type} {t : Tbl α} {a : α} (wf : Tbl.wf t = true) (here : Tbl.lookup t n = some a) :
    Tbl.store t n a = t := by
  have same := Tbl.map_store_same (w := a) wf id here rfl
  simpa using same

/-! ## Counts over distinct slots -/

/-- A count over items of distinct slots: one item, and the rest. -/
theorem State.countHolds_split {f : Hold → Bool} (y : State) (distinct : (q.map QueueItem.slot).Nodup) (mem : i ∈ q) :
    y.countHolds q f = (if y.holds? f i then 1 else 0) + y.countHolds (q.filter fun j => j.slot != i.slot) f := by
  rw [State.countHolds_items, State.countHolds_items]
  induction q with
  | nil => cases mem
  | cons j q ih =>
    obtain ⟨notIn, distinct⟩ := List.nodup_cons.mp distinct
    rcases List.mem_cons.mp mem with rfl | later
    · have others : (q.filter fun j => j.slot != i.slot) = q :=
        List.filter_eq_self.mpr fun j memJ => by
          have other : j.slot ≠ i.slot := fun same => notIn (List.mem_map.mpr ⟨j, memJ, same⟩)
          simpa using other
      have dropped : ((i :: q).filter fun j => j.slot != i.slot) = q := by
        rw [List.filter_cons_of_neg (by simp), others]
      rw [dropped, List.filter_cons]
      split
      · rw [List.length_cons, Nat.add_comm]
      · rw [Nat.zero_add]
    · have other : j.slot ≠ i.slot := fun same => notIn (List.mem_map.mpr ⟨i, later, same.symm⟩)
      have ih := ih distinct later
      have keeps : ((j :: q).filter fun j => j.slot != i.slot) = j :: q.filter fun j => j.slot != i.slot :=
        List.filter_cons_of_pos (by simpa using other)
      rw [keeps, List.filter_cons, List.filter_cons]
      split
      · rw [List.length_cons, List.length_cons, ih, Nat.add_assoc]
      · exact ih

/-- The counts of a title are those of its queue's readable entries (R110). -/
structure State.Counted (y : State) (tt : Title) : Prop where
  waiting : tt.waiting = y.countHolds tt.queue Hold.isWaiting
  ready : tt.ready = y.countHolds tt.queue Hold.isReady

theorem State.Counted.of_pool (h : y.Counted tt) (pool : z.pool = y.pool) : z.Counted tt := by
  have same (q : List QueueItem) : ∀ j ∈ q, z.holdAt j.slot = y.holdAt j.slot := fun j _ => State.holdAt_of_table pool j.slot
  exact ⟨h.waiting.trans (State.countHolds_congr (same _) _).symm, h.ready.trans (State.countHolds_congr (same _) _).symm⟩

/-- An entry that leaves a queue of distinct slots takes its count with it (R111). -/
theorem State.Counted.without (h : y.Counted tt) (distinct : (tt.queue.map QueueItem.slot).Nodup) (mem : i ∈ tt.queue)
    (others : ∀ j, j ≠ i.slot → z.holdAt j = y.holdAt j) :
    z.Counted (tt.without i.slot ((y.holdAt i.slot).map Hold.state)) := by
  have rest (f : Hold → Bool) : z.countHolds (tt.queue.filter fun j => j.slot != i.slot) f =
      y.countHolds (tt.queue.filter fun j => j.slot != i.slot) f :=
    State.countHolds_congr (fun j memJ => others _ (by simpa using (List.mem_filter.mp memJ).2)) f
  have waits := State.countHolds_split (f := Hold.isWaiting) y distinct mem
  have readies := State.countHolds_split (f := Hold.isReady) y distinct mem
  rw [← h.waiting] at waits
  rw [← h.ready] at readies
  unfold Title.without
  constructor
  · dsimp only
    rw [rest, waits]
    cases held : y.holdAt i.slot with
    | none => simp [State.holds?, held]
    | some g => cases state : g.state <;> simp [State.holds?, held, Hold.isWaiting, state]
  · dsimp only
    rw [rest, readies]
    cases held : y.holdAt i.slot with
    | none => simp [State.holds?, held]
    | some g => cases state : g.state <;> simp [State.holds?, held, Hold.isReady, state]

/-- A WAITING entry that becomes READY passes from one count to the other (R94). -/
theorem State.Counted.traps (h : y.Counted tt) (distinct : (tt.queue.map QueueItem.slot).Nodup) (mem : i ∈ tt.queue)
    {g : Hold} {deadline : Nat} {copy : Option Nat} (held : y.holdAt i.slot = some g) (waits : g.isWaiting = true)
    (made : z.holdAt i.slot = some { g with state := .ready deadline copy }) (others : ∀ j, j ≠ i.slot → z.holdAt j = y.holdAt j)
    (shelf : Nat) : z.Counted { tt with shelf, waiting := tt.waiting - 1, ready := tt.ready + 1 } := by
  have rest (f : Hold → Bool) : z.countHolds (tt.queue.filter fun j => j.slot != i.slot) f =
      y.countHolds (tt.queue.filter fun j => j.slot != i.slot) f :=
    State.countHolds_congr (fun j memJ => others _ (by simpa using (List.mem_filter.mp memJ).2)) f
  have state : g.state = .waiting := by simpa [Hold.isWaiting] using waits
  have before (f : Hold → Bool) := State.countHolds_split (f := f) y distinct mem
  have after (f : Hold → Bool) := State.countHolds_split (f := f) z distinct mem
  constructor
  · dsimp only
    rw [after, h.waiting, before, rest]
    simp [State.holds?, held, made, Hold.isWaiting, state]
  · dsimp only
    rw [after, h.ready, before, rest]
    simp [State.holds?, held, made, Hold.isReady, state, Nat.add_comm]

/-! ## The rebuilt queue (R109 steps 1 to 3) -/

/-- The items of a title's rebuilt queue, by placed day and pool slot. -/
def State.rebuiltQueue (v : State) (title : Nat) : List QueueItem := (v.entriesOf title).map fun e => ⟨e.1, e.2.patron⟩

theorem State.rebuiltQueue_distinct (wf : Tbl.wf v.pool = true) (title : Nat) :
    ((v.rebuiltQueue title).map QueueItem.slot).Nodup := by
  have slots : (v.rebuiltQueue title).map QueueItem.slot = (v.entriesOf title).map Prod.fst := by
    unfold State.rebuiltQueue
    rw [List.map_map]
    rfl
  rw [slots]
  unfold State.entriesOf
  rw [((List.perm_insertionSort _ _).map Prod.fst).nodup_iff]
  rw [Tbl.wf_iff_pairwise, List.pairwise_map] at wf
  rw [List.Nodup, List.pairwise_map, List.pairwise_filterMap]
  refine wf.imp fun {a b} lt x hx y hy => ?_
  have slotwise (e : Nat × PoolRec) (g : Nat × Hold) (named : (match e.2 with
      | .entry h => if h.title = title then some (e.1, h) else none
      | .damaged => none) = some g) : g.1 = e.1 := by
    split at named
    · split at named
      · cases named
        rfl
      · cases named
    · cases named
  rw [slotwise a x hx, slotwise b y hy]
  exact Nat.ne_of_lt lt

/-! ## The owners (R109 step 4) -/

/-- What step 4 does to a patron record: an activity day, and the title added to a hold list with room for it. -/
inductive Relisted (title : Nat) : PatronRec → PatronRec → Prop
  | damaged (id : Nat) : Relisted title (.damaged id) (.damaged id)
  | fetching (id day day' : Nat) (tag : TagId) : Relisted title (.fetching id day tag) (.fetching id day' tag)
  | unknown (id day day' : Nat) : Relisted title (.unknown id day) (.unknown id day')
  | resident {p p' : Patron} (id : p'.id = p.id)
      (holds : p'.holds = p.holds ∨ title ∉ p.holds ∧ p.holds.length < 32 ∧ p'.holds = p.holds ++ [title]) :
      Relisted title (.resident p) (.resident p')

theorem Relisted.refl (title : Nat) (r : PatronRec) : Relisted title r r := by
  cases r with
  | damaged id => exact .damaged id
  | fetching id day tag => exact .fetching id day day tag
  | unknown id day => exact .unknown id day day
  | resident p => exact .resident rfl (.inl rfl)

/-- The patron records of y are those of v, as step 4 leaves them. -/
structure Owners (v : State) (title : Nat) (y : State) : Prop where
  wf : Tbl.wf y.patrons = true
  ids : y.patronIds = v.patronIds
  records : ∀ k, Option.Rel (Relisted title) (Tbl.lookup v.patrons k) (Tbl.lookup y.patrons k)

theorem Owners.start (wf : Tbl.wf v.patrons = true) (title : Nat) : Owners v title v where
  wf := wf
  ids := rfl
  records k := by
    cases Tbl.lookup v.patrons k with
    | none => exact .none
    | some r => exact .some (.refl title r)

theorem Owners.of_patrons (o : Owners v title y) (same : z.patrons = y.patrons) : Owners v title z := by
  refine ⟨?_, ?_, ?_⟩
  · rw [same]
    exact o.wf
  · unfold State.patronIds
    rw [same]
    exact o.ids
  · rw [same]
    exact o.records

theorem Owners.findPatron (o : Owners v title y) (id : Nat) : y.findPatron id = v.findPatron id :=
  State.findPatron_of_ids o.ids id

theorem Owners.was (o : Owners v title y) (here : Tbl.lookup y.patrons k = some r) :
    ∃ r₀, Tbl.lookup v.patrons k = some r₀ ∧ Relisted title r₀ r := by
  have rel := o.records k
  rw [here] at rel
  cases was : Tbl.lookup v.patrons k with
  | none =>
    rw [was] at rel
    cases rel
  | some r₀ =>
    rw [was] at rel
    cases rel with
    | some rel => exact ⟨r₀, rfl, rel⟩

theorem Owners.now (o : Owners v title y) (was : Tbl.lookup v.patrons k = some r) :
    ∃ r', Tbl.lookup y.patrons k = some r' ∧ Relisted title r r' := by
  have rel := o.records k
  rw [was] at rel
  cases here : Tbl.lookup y.patrons k with
  | none =>
    rw [here] at rel
    cases rel
  | some r' =>
    rw [here] at rel
    cases rel with
    | some rel => exact ⟨r', rfl, rel⟩

/-- A record written under its id, as step 4 writes it. -/
theorem Owners.setPatron (o : Owners v title y) (here : Tbl.lookup y.patrons k = some r) (same : r'.id = r.id)
    (relists : ∀ r₀, Relisted title r₀ r → Relisted title r₀ r') : Owners v title (y.setPatron k r') where
  wf := Tbl.wf_store _ _ _ o.wf
  ids := (Tbl.map_store_same o.wf PatronRec.id here same).trans o.ids
  records m := by
    show Option.Rel _ _ (Tbl.lookup (Tbl.store y.patrons k r') m)
    by_cases at_ : m = k
    · subst at_
      obtain ⟨r₀, was, rel⟩ := o.was here
      rw [Tbl.lookup_store_same, was]
      exact .some (relists r₀ rel)
    · rw [Tbl.lookup_store_ne _ _ _ _ at_]
      exact o.records m

theorem Relisted.touch {r₀ : PatronRec} (rel : Relisted title r₀ (.resident p)) (day : Nat) :
    Relisted title r₀ (.resident { p with lastDay := day }) := by
  cases rel with
  | resident id holds => exact .resident id holds

theorem Relisted.append {r₀ : PatronRec} (rel : Relisted title r₀ (.resident p)) (unlisted : title ∉ p.holds)
    (room : p.holds.length < 32) : Relisted title r₀ (.resident { p with holds := p.holds ++ [title] }) := by
  cases rel with
  | resident id holds =>
    rcases holds with same | ⟨-, -, added⟩
    · exact .resident id (.inr ⟨same ▸ unlisted, same ▸ room, by rw [← same]⟩)
    · exact absurd (by rw [added]; simp) unlisted

/-! ## Which entries stay -/

/-- Step 4 keeps the entries of this patron: the record is DAMAGED, or RESIDENT with the title in its list or room for it. -/
def State.keepsEntries (v : State) (title patron : Nat) : Prop :=
  ∃ k, v.findPatron patron = some k ∧
    ((∃ i, Tbl.lookup v.patrons k = some (.damaged i)) ∨
      ∃ p, v.patronAt k = some p ∧ (title ∈ p.holds ∨ p.holds.length < 32))

/-- The test of step 4, on the record as the entries before have left it. -/
theorem Owners.keeps_iff {patron : Nat} (o : Owners v title y) (found : v.findPatron patron = some k)
    (here : Tbl.lookup y.patrons k = some r) :
    v.keepsEntries title patron ↔
      (∃ i, r = .damaged i) ∨ ∃ p, r = .resident p ∧ (title ∈ p.holds ∨ p.holds.length < 32) := by
  obtain ⟨r₀, was, rel⟩ := o.was here
  unfold State.keepsEntries
  simp only [found, Option.some.injEq, exists_eq_left', was, State.patronAt_eq_some]
  cases rel with
  | damaged id => simp
  | fetching => simp
  | unknown => simp
  | @resident p p' _ holds =>
    simp only [reduceCtorEq, exists_false, false_or, PatronRec.resident.injEq, exists_eq_left']
    rcases holds with same | ⟨unlisted, room, added⟩
    · rw [same]
    · simp [added, room]

theorem Owners.keeps_none {patron : Nat} (absent : v.findPatron patron = none) : ¬ v.keepsEntries title patron := by
  rintro ⟨k, found, -⟩
  rw [absent] at found
  cases found

/-- A removal leaves the patron records where its owner's list does not hold the title (R111). -/
theorem State.listingsWithout_unlisted {patron : Nat} (wf : Tbl.wf y.patrons = true)
    (unlisted : ∀ k p, y.findPatron patron = some k → y.patronAt k = some p → title ∉ p.holds) :
    y.listingsWithout patron title = y.patrons := by
  unfold State.listingsWithout
  split
  · rename_i k found
    split
    · rename_i p resident
      have same : p.holds.filter (· != title) = p.holds :=
        List.filter_eq_self.mpr fun t mem => by
          have other : t ≠ title := fun eq => unlisted k p found resident (eq ▸ mem)
          simpa using other
      rw [same]
      exact Tbl.store_same wf (State.patronAt_eq_some.mp resident)
    · rfl
  · rfl

end Sys2Proof.Machine
end

section
/-! PROOF. The restoration of a DAMAGED title (R109) step 4: each entry stays, or leaves as LOST. -/

namespace Sys2Proof.Machine

variable {v y z : State} {title n base kept k : Nat} {tt : Title} {i : QueueItem} {rest : List QueueItem} {r r' : PatronRec}

/-- Step 4 with the entries of `rest` still to be checked: of those before, the queue holds the ones that stay, and the
others' pool slots are FREE and their notices posted. -/
structure Rebuilt (v : State) (title n base kept : Nat) (rest : List QueueItem) (y : State) (tt : Title) : Prop where
  stocked : Stocked title n base kept y tt
  sub : tt.queue.Sublist (v.rebuiltQueue title)
  stays : ∀ i ∈ v.rebuiltQueue title, i ∈ tt.queue ↔ i ∈ rest ∨ v.keepsEntries title i.patron
  counted : y.Counted tt
  gone : ∀ i ∈ v.rebuiltQueue title, i ∉ tt.queue →
    Tbl.lookup y.pool i.slot = none ∧ y.HasPosted (.holdChange title i.patron .lost 0)
  owners : Owners v title y
  listed : ∀ i ∈ tt.queue, i ∉ rest → ∀ k p, y.findPatron i.patron = some k → y.patronAt k = some p → title ∈ p.holds

namespace Rebuilt

/-- A step that writes a patron record as step 4 does, with every title listed that was. -/
theorem setPatron (h : Rebuilt v title n base kept rest y tt) (here : Tbl.lookup y.patrons k = some r) (same : r'.id = r.id)
    (relists : ∀ r₀, Relisted title r₀ r → Relisted title r₀ r')
    (lists : ∀ p', r' = .resident p' → ∃ p, r = .resident p ∧ (title ∈ p.holds → title ∈ p'.holds)) :
    Rebuilt v title n base kept rest (y.setPatron k r') tt where
  stocked := h.stocked.sameEngine (by simp [State.setPatron, h.stocked.clean]) rfl rfl
  sub := h.sub
  stays := h.stays
  counted := h.counted.of_pool rfl
  gone i mem out := (h.gone i mem out).imp id fun posted => posted.of_same rfl rfl
  owners := h.owners.setPatron here same relists
  listed i mem past m p found resident := by
    have ids : (y.setPatron k r').patronIds = y.patronIds := Tbl.map_store_same h.owners.wf PatronRec.id here same
    rw [State.findPatron_of_ids ids] at found
    have there : Tbl.lookup (Tbl.store y.patrons k r') m = some (.resident p) := State.patronAt_eq_some.mp resident
    by_cases at_ : m = k
    · subst at_
      rw [Tbl.lookup_store_same] at there
      obtain ⟨p₀, rfl, grows⟩ := lists p (Option.some.inj there)
      exact grows (h.listed i mem past m p₀ found (State.patronAt_eq_some.mpr here))
    · rw [Tbl.lookup_store_ne _ _ _ _ at_] at there
      exact h.listed i mem past m p found (State.patronAt_eq_some.mpr there)

/-- The activity day that the lookup of an owner sets (R15). -/
theorem touchDay (h : Rebuilt v title n base kept rest y tt) (k : Nat) :
    Rebuilt v title n base kept rest (y.touchDay k) tt := by
  unfold State.touchDay
  split
  · rename_i id day tag here
    refine h.setPatron here rfl (fun r₀ rel => ?_) fun p' made => nomatch made
    cases rel
    exact .fetching _ _ _ _
  · rename_i p here
    refine h.setPatron here rfl (fun r₀ rel => rel.touch _) fun p' made => ⟨p, rfl, fun listed => ?_⟩
    cases made
    exact listed
  · rename_i id day here
    refine h.setPatron here rfl (fun r₀ rel => ?_) fun p' made => nomatch made
    cases rel
    exact .unknown _ _ _
  · exact h

/-- The entry checked stays, its owner's list holds the title where its record is RESIDENT. -/
theorem keep (h : Rebuilt v title n base kept (i :: rest) y tt) (keeps : v.keepsEntries title i.patron)
    (lists : ∀ k p, y.findPatron i.patron = some k → y.patronAt k = some p → title ∈ p.holds) :
    Rebuilt v title n base kept rest y tt where
  stocked := h.stocked
  sub := h.sub
  stays j mem := (h.stays j mem).trans (by
    constructor
    · rintro (later | stays)
      · rcases List.mem_cons.mp later with rfl | later
        · exact .inr keeps
        · exact .inl later
      · exact .inr stays
    · exact Or.imp (List.mem_cons_of_mem _) id)
  counted := h.counted
  gone := h.gone
  owners := h.owners
  listed j mem past k p found resident := by
    by_cases same : j = i
    · subst same
      exact lists k p found resident
    · exact h.listed j mem (fun later => (List.mem_cons.mp later).elim same past) k p found resident

/-- The entry checked leaves as LOST: its owner's list does not hold the title. -/
theorem remove (h : Rebuilt v title n base kept (i :: rest) y tt) (wf : Tbl.wf v.pool = true)
    (mem : i ∈ v.rebuiltQueue title) (once : i ∉ rest) (leaves : ¬ v.keepsEntries title i.patron)
    (unlisted : ∀ k p, y.findPatron i.patron = some k → y.patronAt k = some p → title ∉ p.holds) :
    ∃ tt', Rebuilt v title n base kept rest (y.removeEntry n title i .lost) tt' := by
  have distinct := State.rebuiltQueue_distinct wf title
  have inQueue : i ∈ tt.queue := (h.stays i mem).mpr (.inl List.mem_cons_self)
  have patrons := State.listingsWithout_unlisted h.owners.wf unlisted
  obtain ⟨op, busy⟩ := h.stocked.busy
  rw [State.removeEntry_removed h.stocked.clean h.stocked.resident]
  generalize hw : y.removed n title i tt = w
  have titles : w.titles = Tbl.store y.titles n (.resident (tt.without i.slot ((y.holdAt i.slot).map Hold.state))) := by
    rw [← hw]; rfl
  have pool : w.pool = Tbl.release y.pool i.slot := by rw [← hw]; rfl
  have samePatrons : w.patrons = y.patrons := by rw [← hw]; exact patrons
  have engine : w.engine = y.engine := by rw [← hw]; rfl
  have link : w.link = y.link := by rw [← hw]; rfl
  have clean : w.upsets = [] := by rw [← hw]; exact h.stocked.clean
  generalize hm : Notice.holdChange title i.patron .lost 0 = m
  obtain ⟨postPatrons, -, -, postPool, -⟩ := State.tables_eq_iff.mp (State.post_tables w m)
  have holdAt (j : Nat) (other : j ≠ i.slot) : (w.post m).holdAt j = y.holdAt j :=
    State.holdAt_congr (by rw [postPool, pool]; exact Tbl.lookup_release_ne _ _ _ other)
  have stocked : Stocked title n base kept w (tt.without i.slot ((y.holdAt i.slot).map Hold.state)) :=
    h.stocked.writes clean titles rfl ⟨op, engine.trans busy⟩ (Nat.le_refl _)
      ((State.traps_congr engine).trans (by simp [Title.without]))
  have onlyThis (j : QueueItem) (memJ : j ∈ v.rebuiltQueue title) : j.slot = i.slot ↔ j = i :=
    ⟨fun same => List.inj_on_of_nodup_map distinct memJ mem same, fun same => same ▸ rfl⟩
  have inLeft (j : QueueItem) (memJ : j ∈ v.rebuiltQueue title) :
      j ∈ (tt.without i.slot ((y.holdAt i.slot).map Hold.state)).queue ↔ j ∈ tt.queue ∧ j ≠ i := by
    show j ∈ tt.queue.filter _ ↔ _
    rw [List.mem_filter, bne_iff_ne, Ne, onlyThis j memJ]
  have findPatron (id : Nat) : (w.post m).findPatron id = y.findPatron id :=
    State.findPatron_of_table (postPatrons.trans samePatrons) id
  have patronAt (k : Nat) : (w.post m).patronAt k = y.patronAt k :=
    State.patronAt_of_table (postPatrons.trans samePatrons) k
  refine ⟨_, stocked.post m, List.filter_sublist.trans h.sub, fun j memJ => ?_,
    (h.counted.without (distinct.sublist (h.sub.map _)) inQueue holdAt), fun j memJ out => ?_,
    h.owners.of_patrons (postPatrons.trans samePatrons), fun j memJ past k p found resident => ?_⟩
  · rw [inLeft j memJ, h.stays j memJ]
    constructor
    · rintro ⟨later | stays, other⟩
      · exact .inl ((List.mem_cons.mp later).resolve_left other)
      · exact .inr stays
    · rintro (later | stays)
      · exact ⟨.inl (List.mem_cons_of_mem _ later), fun same => once (same ▸ later)⟩
      · exact ⟨.inr stays, fun same => leaves (same ▸ stays)⟩
  · by_cases same : j = i
    · subst same
      refine ⟨?_, ?_⟩
      · rw [postPool, pool]
        exact Tbl.lookup_release_same _ _
      · rw [hm]
        exact State.post_hasPosted (engine.trans busy) m
    · obtain ⟨free, posted⟩ := h.gone j memJ fun inside => out ((inLeft j memJ).mpr ⟨inside, same⟩)
      refine ⟨?_, (posted.of_same engine link).post rfl m⟩
      rw [postPool, pool, Tbl.lookup_release_ne _ _ _ fun at_ => same ((onlyThis j memJ).mp at_)]
      exact free
  · have memJ' := List.mem_filter.mp memJ
    have other : j ≠ i := ((inLeft j (h.sub.subset memJ'.1)).mp memJ).2
    rw [findPatron] at found
    rw [patronAt] at resident
    exact h.listed j memJ'.1 (fun later => (List.mem_cons.mp later).elim other past) k p found resident

/-- One entry checked against its owner (R109 step 4). -/
theorem checkOwner (h : Rebuilt v title n base kept (i :: rest) y tt) (wf : Tbl.wf v.pool = true)
    (mem : i ∈ v.rebuiltQueue title) (once : i ∉ rest) :
    ∃ tt', Rebuilt v title n base kept rest (y.checkOwner n title i) tt' := by
  unfold State.checkOwner
  dsimp only
  rw [State.lookUpPatron_clean h.stocked.clean]
  split
  · rename_i absent
    exact h.remove wf mem once (Owners.keeps_none ((h.owners.findPatron _).symm.trans absent)) fun k p found =>
      nomatch absent.symm.trans found
  rename_i k found
  have touched := h.touchDay k
  generalize y.touchDay k = u at touched ⊢
  have known : v.findPatron i.patron = some k := by rw [← h.owners.findPatron]; exact found
  have found' : u.findPatron i.patron = some k := (touched.owners.findPatron _).trans known
  have keeps (r : PatronRec) (here : Tbl.lookup u.patrons k = some r) := touched.owners.keeps_iff known here
  split
  · rename_i p here
    have own (m : Nat) (p' : Patron) (at_ : u.findPatron i.patron = some m) (resident : u.patronAt m = some p') : p' = p := by
      cases found'.symm.trans at_
      cases here.symm.trans (State.patronAt_eq_some.mp resident)
      rfl
    split
    · rename_i listed
      have listed : title ∈ p.holds := by simpa using listed
      exact ⟨tt, touched.keep ((keeps _ here).mpr (.inr ⟨p, rfl, .inl listed⟩)) fun m p' at_ resident =>
        own m p' at_ resident ▸ listed⟩
    · rename_i unlisted
      have unlisted : title ∉ p.holds := by simpa using unlisted
      split
      · rename_i full
        refine touched.remove wf mem once (fun stays => ?_) fun m p' at_ resident => own m p' at_ resident ▸ unlisted
        obtain ⟨_, made⟩ | ⟨p', made, lists⟩ := (keeps _ here).mp stays
        · cases made
        · cases made
          exact lists.elim unlisted (Nat.not_lt_of_le full)
      · rename_i space
        have room : p.holds.length < 32 := Nat.lt_of_not_le space
        have appended := touched.setPatron (r' := .resident { p with holds := p.holds ++ [title] }) here rfl
          (fun r₀ rel => rel.append unlisted room) fun p' made => ⟨p, rfl, fun listed => absurd listed unlisted⟩
        refine ⟨tt, appended.keep ((keeps _ here).mpr (.inr ⟨p, rfl, .inr room⟩)) fun m p' at_ resident => ?_⟩
        have ids := (appended.owners.findPatron i.patron).trans known
        cases ids.symm.trans at_
        have there := State.patronAt_eq_some.mp resident
        rw [show (u.setPatron k (.resident { p with holds := p.holds ++ [title] })).patrons =
          Tbl.store u.patrons k (.resident { p with holds := p.holds ++ [title] }) from rfl, Tbl.lookup_store_same] at there
        cases there
        simp
  · rename_i id here
    exact ⟨tt, touched.keep ((keeps _ here).mpr (.inl ⟨id, rfl⟩)) fun m p' at_ resident => by
      cases found'.symm.trans at_
      cases here.symm.trans (State.patronAt_eq_some.mp resident)⟩
  · rename_i notResident notDamaged
    refine touched.remove wf mem once (fun stays => ?_) fun m p' at_ resident => ?_
    · obtain ⟨r, here, -⟩ := State.findPatron_spec touched.owners.wf found'
      obtain ⟨id, rfl⟩ | ⟨p', rfl, -⟩ := (keeps _ here).mp stays
      · exact notDamaged id here
      · exact notResident p' here
    · cases found'.symm.trans at_
      exact absurd (State.patronAt_eq_some.mp resident) (notResident p')

/-- Every entry checked against its owner. -/
theorem checkOwners (h : Rebuilt v title n base kept rest y tt) (wf : Tbl.wf v.pool = true)
    (mem : ∀ i ∈ rest, i ∈ v.rebuiltQueue title) (once : rest.Nodup) :
    ∃ tt', Rebuilt v title n base kept [] (rest.foldl (fun s i => s.checkOwner n title i) y) tt' := by
  induction rest generalizing y tt with
  | nil => exact ⟨tt, h⟩
  | cons i rest ih =>
    obtain ⟨notLater, once⟩ := List.nodup_cons.mp once
    obtain ⟨tt', h'⟩ := h.checkOwner wf (mem i List.mem_cons_self) notLater
    exact ih h' (fun j memJ => mem j (List.mem_cons_of_mem _ memJ)) once

end Rebuilt

end Sys2Proof.Machine
end

section
/-! PROOF. The restoration of a DAMAGED title (R109) steps 5 to 7: the hold lists checked against the queue, the DAMAGED
pool slots freed, and the shelf drained. -/

namespace Sys2Proof.Machine

variable {v y z w u : State} {title n base kept k : Nat} {tt tt' : Title} {p : Patron} {slots : List Nat}

/-! ## The hold lists (R109 step 5) -/

/-- What step 5 leaves of a patron record: a listed title without the patron's item in its queue leaves the list. -/
def PatronRec.clearedOf (title : Nat) (tt : Title) : PatronRec → PatronRec
  | .resident p =>
    if title ∈ p.holds ∧ tt.itemOf p.id = none then .resident { p with holds := p.holds.filter (· != title) } else .resident p
  | r => r

theorem PatronRec.clearedOf_resident {r : PatronRec} (made : r.clearedOf title tt = .resident p) :
    ∃ p₀, r = .resident p₀ ∧ p.id = p₀.id ∧
      (title ∈ p₀.holds ∧ tt.itemOf p₀.id = none ∧ title ∉ p.holds ∨
        ¬ (title ∈ p₀.holds ∧ tt.itemOf p₀.id = none) ∧ p = p₀) := by
  cases r with
  | resident p₀ =>
    unfold PatronRec.clearedOf at made
    dsimp only at made
    split at made
    · rename_i lacks
      cases made
      exact ⟨p₀, rfl, rfl, .inl ⟨lacks.1, lacks.2, by simp⟩⟩
    · rename_i fits
      cases made
      exact ⟨_, rfl, rfl, .inr ⟨fits, rfl⟩⟩
  | _ => cases made

/-- Step 5 with the patron slots of `rest` still to come: the others are cleared, and their notices posted. -/
structure Clearing (y : State) (title n base kept : Nat) (tt : Title) (rest : List Nat) (z : State) : Prop where
  stocked : Stocked title n base kept z tt
  pool : z.pool = y.pool
  wf : Tbl.wf z.patrons = true
  ids : z.patronIds = y.patronIds
  pending : ∀ k ∈ rest, Tbl.lookup z.patrons k = Tbl.lookup y.patrons k
  cleared : ∀ k, k ∉ rest → Tbl.lookup z.patrons k = (Tbl.lookup y.patrons k).map (PatronRec.clearedOf title tt)
  lost : ∀ k p, k ∉ rest → y.patronAt k = some p → title ∈ p.holds → tt.itemOf p.id = none →
    z.HasPosted (.holdChange title p.id .lost 0)

namespace Clearing

/-- A slot whose record step 5 leaves as it is. -/
theorem skip (h : Clearing y title n base kept tt (k :: slots) z)
    (fits : ∀ p, y.patronAt k = some p → ¬ (title ∈ p.holds ∧ tt.itemOf p.id = none)) :
    Clearing y title n base kept tt slots z where
  stocked := h.stocked
  pool := h.pool
  wf := h.wf
  ids := h.ids
  pending m mem := h.pending m (List.mem_cons_of_mem _ mem)
  cleared m out := by
    by_cases same : m = k
    · subst same
      rw [h.pending m List.mem_cons_self]
      cases here : Tbl.lookup y.patrons m with
      | none => rfl
      | some r =>
        cases r with
        | resident p =>
          rw [Option.map_some, PatronRec.clearedOf, if_neg (fits p (State.patronAt_eq_some.mpr here))]
        | _ => rfl
    · exact h.cleared m fun later => (List.mem_cons.mp later).elim same out
  lost m p out resident listed lacks := by
    by_cases same : m = k
    · subst same
      exact absurd ⟨listed, lacks⟩ (fits p resident)
    · exact h.lost m p (fun later => (List.mem_cons.mp later).elim same out) resident listed lacks

/-- A slot whose list gives up the title. -/
theorem clear (h : Clearing y title n base kept tt (k :: slots) z) (once : k ∉ slots) (resident : y.patronAt k = some p)
    (listed : title ∈ p.holds) (lacks : tt.itemOf p.id = none) :
    Clearing y title n base kept tt slots
      ((z.setPatron k (.resident { p with holds := p.holds.filter (· != title) })).post (.holdChange title p.id .lost 0)) := by
  have here : Tbl.lookup z.patrons k = some (.resident p) :=
    (h.pending k List.mem_cons_self).trans (State.patronAt_eq_some.mp resident)
  generalize hr : PatronRec.resident { p with holds := p.holds.filter (· != title) } = r
  have same : r.id = (PatronRec.resident p).id := by rw [← hr]; rfl
  obtain ⟨op, busy⟩ := h.stocked.busy
  have stocked : Stocked title n base kept (z.setPatron k r) tt :=
    h.stocked.sameEngine (by simp [State.setPatron, h.stocked.clean]) rfl rfl
  obtain ⟨patrons, -, -, pool, -⟩ :=
    State.tables_eq_iff.mp (State.post_tables (z.setPatron k r) (.holdChange title p.id .lost 0))
  have patrons : ((z.setPatron k r).post (.holdChange title p.id .lost 0)).patrons = Tbl.store z.patrons k r := patrons
  refine ⟨stocked.post _, pool.trans h.pool, ?_, ?_, fun m mem => ?_, fun m out => ?_, fun m q out own listed' lacks' => ?_⟩
  · rw [patrons]
    exact Tbl.wf_store _ _ _ h.wf
  · unfold State.patronIds
    rw [patrons]
    exact (Tbl.map_store_same h.wf PatronRec.id here same).trans h.ids
  · rw [patrons, Tbl.lookup_store_ne _ _ _ _ fun at_ : m = k => once (at_ ▸ mem)]
    exact h.pending m (List.mem_cons_of_mem _ mem)
  · rw [patrons]
    by_cases at_ : m = k
    · subst at_
      rw [Tbl.lookup_store_same, State.patronAt_eq_some.mp resident, Option.map_some, PatronRec.clearedOf,
        if_pos ⟨listed, lacks⟩, hr]
    · rw [Tbl.lookup_store_ne _ _ _ _ at_]
      exact h.cleared m fun later => (List.mem_cons.mp later).elim at_ out
  · by_cases at_ : m = k
    · subst at_
      cases resident.symm.trans own
      exact State.post_hasPosted (s := z.setPatron m r) busy _
    · have posted := h.lost m q (fun later => (List.mem_cons.mp later).elim at_ out) own listed' lacks'
      exact (posted.of_same (t := z.setPatron k r) rfl rfl).post rfl _

theorem checkHoldList (h : Clearing y title n base kept tt (k :: slots) z) (once : k ∉ slots) :
    Clearing y title n base kept tt slots (z.checkHoldList n title k) := by
  have same : z.patronAt k = y.patronAt k := by
    unfold State.patronAt
    rw [h.pending k List.mem_cons_self]
  unfold State.checkHoldList
  rw [same, h.stocked.resident]
  cases resident : y.patronAt k with
  | none => exact h.skip fun p own => nomatch resident.symm.trans own
  | some p =>
    dsimp only
    split
    · rename_i lacks
      obtain ⟨listed, noItem⟩ : title ∈ p.holds ∧ tt.itemOf p.id = none := by simpa using lacks
      unfold State.mapPatron
      rw [same, resident]
      exact h.clear once resident listed noItem
    · rename_i fits
      refine h.skip fun q own => ?_
      cases resident.symm.trans own
      simpa using fits

theorem checkHoldLists (h : Clearing y title n base kept tt slots z) (once : slots.Nodup) :
    Clearing y title n base kept tt [] (slots.foldl (fun s k => s.checkHoldList n title k) z) := by
  induction slots generalizing z with
  | nil => exact h
  | cons k slots ih =>
    obtain ⟨notLater, once⟩ := List.nodup_cons.mp once
    exact ih (h.checkHoldList notLater) once

theorem start (stocked : Stocked title n base kept y tt) (wf : Tbl.wf y.patrons = true) :
    Clearing y title n base kept tt (y.patrons.map Prod.fst) y where
  stocked := stocked
  pool := rfl
  wf := wf
  ids := rfl
  pending _ _ := rfl
  cleared k out := by
    cases here : Tbl.lookup y.patrons k with
    | none => rfl
    | some r => exact absurd (List.mem_map.mpr ⟨(k, r), Tbl.mem_of_lookup here, rfl⟩) out
  lost k p out resident _ _ :=
    absurd (List.mem_map.mpr ⟨(k, .resident p), Tbl.mem_of_lookup (State.patronAt_eq_some.mp resident), rfl⟩) out

end Clearing

/-! ## What a restoration leaves -/

/-- The title that a restoration has made RESIDENT, its queue with the counts and the pool slots, and the hold lists. -/
structure Restored (v : State) (title n base kept : Nat) (w : State) (tt : Title) : Prop where
  stocked : Stocked title n base kept w tt
  sub : tt.queue.Sublist (v.rebuiltQueue title)
  stays : ∀ i ∈ v.rebuiltQueue title, i ∈ tt.queue ↔ v.keepsEntries title i.patron
  counted : w.Counted tt
  gone : ∀ i ∈ v.rebuiltQueue title, i ∉ tt.queue →
    Tbl.lookup w.pool i.slot = none ∧ w.HasPosted (.holdChange title i.patron .lost 0)
  wfPool : Tbl.wf w.pool = true
  listed : ∀ i ∈ tt.queue, ∀ k p, w.findPatron i.patron = some k → w.patronAt k = some p → title ∈ p.holds
  queued : ∀ k p, w.patronAt k = some p → title ∈ p.holds → (tt.itemOf p.id).isSome = true
  lost : ∀ k p, v.patronAt k = some p → title ∈ p.holds → (∀ e ∈ v.entriesOf title, e.2.patron ≠ p.id) →
    w.HasPosted (.holdChange title p.id .lost 0)

theorem Title.itemOf_isSome {i : QueueItem} (mem : i ∈ tt.queue) : (tt.itemOf i.patron).isSome = true := by
  unfold Title.itemOf
  rw [List.find?_isSome]
  exact ⟨i, mem, by simp⟩

/-- Steps 4 and 5 together. -/
theorem Rebuilt.cleared (h : Rebuilt v title n base kept [] y tt) (c : Clearing y title n base kept tt [] z)
    (posted : ∀ m, m.single = true → y.HasPosted m → z.HasPosted m) (wfPool : Tbl.wf y.pool = true) :
    Restored v title n base kept z tt := by
  have clears (k : Nat) : Tbl.lookup z.patrons k = (Tbl.lookup y.patrons k).map (PatronRec.clearedOf title tt) :=
    c.cleared k List.not_mem_nil
  have was (k : Nat) (p : Patron) (resident : z.patronAt k = some p) :
      ∃ p₀, y.patronAt k = some p₀ ∧ p.id = p₀.id ∧
        (title ∈ p₀.holds ∧ tt.itemOf p₀.id = none ∧ title ∉ p.holds ∨
          ¬ (title ∈ p₀.holds ∧ tt.itemOf p₀.id = none) ∧ p = p₀) := by
    have here := State.patronAt_eq_some.mp resident
    rw [clears] at here
    obtain ⟨r, there, made⟩ := Option.map_eq_some_iff.mp here
    obtain ⟨p₀, rfl, rest⟩ := PatronRec.clearedOf_resident made
    exact ⟨p₀, State.patronAt_eq_some.mpr there, rest⟩
  refine ⟨c.stocked, h.sub, fun i mem => by simpa using h.stays i mem, h.counted.of_pool c.pool, fun i mem out => ?_, ?_,
    fun i mem k p found resident => ?_, fun k p resident listed => ?_, fun k p resident listed alone => ?_⟩
  · obtain ⟨free, notice⟩ := h.gone i mem out
    exact ⟨by rw [c.pool]; exact free, posted _ rfl notice⟩
  · rw [c.pool]
    exact wfPool
  · rw [State.findPatron_of_ids c.ids] at found
    obtain ⟨p₀, own, -, ⟨-, lacks, -⟩ | ⟨-, rfl⟩⟩ := was k p resident
    · have id := State.findPatron_resident h.owners.wf found own
      have some_ := Title.itemOf_isSome mem
      rw [← id, lacks] at some_
      cases some_
    · exact h.listed i mem List.not_mem_nil k p found own
  · obtain ⟨p₀, own, -, ⟨-, -, unlisted⟩ | ⟨fits, rfl⟩⟩ := was k p resident
    · exact absurd listed unlisted
    · rw [Option.isSome_iff_ne_none]
      exact fun lacks => fits ⟨listed, lacks⟩
  · obtain ⟨r, here, rel⟩ := h.owners.now (State.patronAt_eq_some.mp resident)
    cases rel with
    | @resident _ p' id holds =>
      have listed' : title ∈ p'.holds := by
        rcases holds with same | ⟨unlisted, -⟩
        · rwa [same]
        · exact absurd listed unlisted
      have lacks : tt.itemOf p'.id = none := by
        unfold Title.itemOf
        rw [List.find?_eq_none]
        intro i mem named
        obtain ⟨e, memE, rfl⟩ := List.mem_map.mp (h.sub.subset mem)
        exact alone e memE ((by simpa using named : e.2.patron = p'.id).trans id)
      rw [← id]
      exact c.lost k p' List.not_mem_nil (State.patronAt_eq_some.mpr here) listed' lacks

namespace Restored

/-! ## The DAMAGED pool slots (R109 step 6) -/

/-- A step that leaves titles and patrons, and the readable entries and the FREE slots of the pool. -/
theorem samePool (h : Restored v title n base kept w tt) (stocked : Stocked title n base kept z tt)
    (patrons : z.patrons = w.patrons) (wfPool : Tbl.wf z.pool = true) (holdAt : ∀ m, z.holdAt m = w.holdAt m)
    (free : ∀ m, Tbl.lookup w.pool m = none → Tbl.lookup z.pool m = none)
    (posted : ∀ m, m.single = true → w.HasPosted m → z.HasPosted m) : Restored v title n base kept z tt where
  stocked := stocked
  sub := h.sub
  stays := h.stays
  counted := ⟨h.counted.waiting.trans (State.countHolds_congr (fun _ _ => holdAt _) _).symm,
    h.counted.ready.trans (State.countHolds_congr (fun _ _ => holdAt _) _).symm⟩
  gone i mem out := (h.gone i mem out).imp (free _) (posted _ rfl)
  wfPool := wfPool
  listed i mem k p found resident :=
    h.listed i mem k p ((State.findPatron_of_table patrons _).symm.trans found)
      ((State.patronAt_of_table patrons _).symm.trans resident)
  queued k p resident := h.queued k p ((State.patronAt_of_table patrons _).symm.trans resident)
  lost k p resident listed alone := posted _ rfl (h.lost k p resident listed alone)

theorem freeDamagedPool (h : Restored v title n base kept w tt) : Restored v title n base kept w.freeDamagedPool tt := by
  unfold State.freeDamagedPool
  split
  · exact h
  generalize hf : (fun e : Nat × PoolRec => !(decide (e.2 = .damaged) && (w.queueNaming e.1).isNone)) = f
  have wf := Tbl.wf_filter w.pool f h.wfPool
  have free (m : Nat) (none_ : Tbl.lookup w.pool m = none) : Tbl.lookup (w.pool.filter f) m = none := by
    cases here : Tbl.lookup (w.pool.filter f) m with
    | none => rfl
    | some r =>
      have mem := (List.mem_filter.mp (Tbl.mem_of_lookup here)).1
      exact nomatch none_.symm.trans (Tbl.lookup_of_mem h.wfPool mem)
  refine h.samePool (h.stocked.sameEngine (by simp [State.putPool, h.stocked.clean]) rfl rfl) rfl wf (fun m => ?_) free
    fun _ _ posted => posted.of_same rfl rfl
  show (w.putPool (w.pool.filter f)).holdAt m = w.holdAt m
  unfold State.holdAt
  show (match Tbl.lookup (w.pool.filter f) m with
    | some (.entry h) => some h
    | _ => none) = _
  cases here : Tbl.lookup w.pool m with
  | none => rw [free m here]
  | some r =>
    cases r with
    | entry g =>
      have kept : Tbl.lookup (w.pool.filter f) m = some (.entry g) :=
        Tbl.lookup_of_mem wf (List.mem_filter.mpr ⟨Tbl.mem_of_lookup here, by rw [← hf]; rfl⟩)
      rw [kept]
    | damaged =>
      cases there : Tbl.lookup (w.pool.filter f) m with
      | none => rfl
      | some r =>
        have mem := (List.mem_filter.mp (Tbl.mem_of_lookup there)).1
        cases here.symm.trans (Tbl.lookup_of_mem h.wfPool mem)
        rfl

/-! ## The drain (R109 step 7) -/

theorem trapFromShelf (h : Restored v title n base kept w tt) (wf : Tbl.wf v.pool = true) (stocked : 0 < tt.shelf)
    {x : QueueItem × Hold} (first : w.firstWaiting tt = some x) (title' : Nat) :
    Restored v title n base kept (w.trapFromShelf n title' x)
      { tt with shelf := tt.shelf - 1, waiting := tt.waiting - 1, ready := tt.ready + 1 } := by
  obtain ⟨mem, held, waits⟩ := State.firstWaiting_spec first
  have writes := State.trapFromShelf_writes h.stocked.clean h.stocked.resident title' x
  have tables := State.trapFromShelf_tables h.stocked.clean h.stocked.resident title' x
  have pool := (congrArg Tables.pool tables :)
  have distinct := (State.rebuiltQueue_distinct wf title).sublist (h.sub.map QueueItem.slot)
  have ready : (w.trapFromShelf n title' x).holdAt x.1.slot =
      some { x.2 with state := .ready w.pickupDeadline none } := by
    unfold State.holdAt
    rw [writes.entry]
  have posted (m : Notice) (single : m.single = true) (was : w.HasPosted m) : (w.trapFromShelf n title' x).HasPosted m :=
    (Works.refl.trapFromShelf n title' x).hasPosted single was
  refine ⟨h.stocked.trapFromShelf stocked title' x, h.sub, h.stays,
    h.counted.traps distinct mem held waits ready (fun j other => State.holdAt_congr (writes.otherPool j other)) _,
    fun i memI out => ?_, ?_, fun i memI k p found resident => ?_, fun k p resident => ?_,
    fun k p resident listed alone => posted _ rfl (h.lost k p resident listed alone)⟩
  · obtain ⟨free, notice⟩ := h.gone i memI out
    refine ⟨?_, posted _ rfl notice⟩
    have other : i.slot ≠ x.1.slot := fun same => by
      unfold State.holdAt at held
      rw [← same, free] at held
      cases held
    rw [writes.otherPool _ other]
    exact free
  · show Tbl.wf (w.trapFromShelf n title' x).pool = true
    rw [show (w.trapFromShelf n title' x).pool = _ from pool]
    exact Tbl.wf_store _ _ _ h.wfPool
  · exact h.listed i memI k p ((State.findPatron_of_table writes.patrons _).symm.trans found)
      ((State.patronAt_of_table writes.patrons _).symm.trans resident)
  · exact h.queued k p ((State.patronAt_of_table writes.patrons _).symm.trans resident)

theorem drain (h : Restored v title n base kept w tt) (wf : Tbl.wf v.pool = true) :
    ∃ tt', Restored v title n base kept (w.drain n) tt' :=
  State.drain_keeps (P := fun y => ∃ tt, Restored v title n base kept y tt) h.stocked.clean
    (fun y tt x ⟨tt₀, h⟩ resident stocked first => by
      cases h.stocked.resident.symm.trans resident
      exact ⟨_, h.trapFromShelf wf stocked first tt.id⟩) ⟨tt, h⟩

end Restored

/-! ## The restoration -/

/-- The restoration of a DAMAGED title whose record begins with these accounts. -/
theorem State.restoreTitle_restores (canon : v.canonical)
    (start : Stocked title n base kept (v.setTitle n (.resident (v.rebuiltTitle title kept))) (v.rebuiltTitle title kept))
    (clean : v.upsets = []) :
    (∃ tt, Restored v title n base kept (v.restoreTitle n title kept) tt) ∧ (v.restoreTitle n title kept).drained n := by
  have tidy : Tidy False v := tidy_iff.mpr ⟨canon, False.elim⟩
  have wf := tidy.pool
  have first : Rebuilt v title n base kept (v.rebuiltQueue title)
      (v.setTitle n (.resident (v.rebuiltTitle title kept))) (v.rebuiltTitle title kept) :=
    { stocked := start
      sub := List.Sublist.refl _
      stays := fun i mem => ⟨fun _ => .inl mem, fun _ => mem⟩
      counted := ⟨rfl, rfl⟩
      gone := fun i mem out => absurd mem out
      owners := (Owners.start tidy.patrons title).of_patrons rfl
      listed := fun i mem out => absurd mem out }
  have distinct := State.rebuiltQueue_distinct wf title
  obtain ⟨tt, owners⟩ := first.checkOwners wf (fun _ mem => mem) (List.Nodup.of_map _ distinct)
  generalize hy : (v.rebuiltQueue title).foldl (fun s i => s.checkOwner n title i)
    (v.setTitle n (.resident (v.rebuiltTitle title kept))) = y at owners
  have wfY : Tbl.wf y.pool = true := by
    rw [← hy]
    exact ((tidy.setTitle n _).foldl (fun _ _ h => h.checkOwner n title _) _).pool
  have clearing := Clearing.start owners.stocked owners.owners.wf
  have once : (y.patrons.map Prod.fst).Nodup :=
    ((Tbl.wf_iff_pairwise _).mp owners.owners.wf).imp fun lt => Nat.ne_of_lt lt
  have cleared := clearing.checkHoldLists once
  have works : Works Adjusts y ((y.patrons.map Prod.fst).foldl (fun s k => s.checkHoldList n title k) y) :=
    Works.refl.foldl (fun _ _ h => h.checkHoldList _ _ _) _
  have restored := owners.cleared cleared (fun m single posted => works.hasPosted single posted) wfY
  generalize hz : (y.patrons.map Prod.fst).foldl (fun s k => s.checkHoldList n title k) y = z at cleared restored
  have made : v.restoreTitle n title kept = z.freeDamagedPool.drain n := by
    unfold State.restoreTitle
    dsimp only
    have queue : (v.rebuiltTitle title kept).queue = v.rebuiltQueue title := rfl
    rw [State.scanTable_clean clean, queue, hy, State.scanTable_clean owners.stocked.clean, hz, State.scanTable_clean restored.stocked.clean]
  rw [made]
  exact ⟨restored.freeDamagedPool.drain wf, restored.freeDamagedPool.stocked.drained⟩

end Sys2Proof.Machine
end

section
/-! PROOF. The statement on TITLE_LOAD. -/

namespace Sys2Proof.Machine

variable {s v w : State} {op : Op} {x : Crossing} {tag : TagField} {title found shelf n : Nat} {qs : List (Question × Nat)}

namespace LoadsTitle

variable (load : LoadsTitle s op x tag title found shelf v qs)
include load

theorem canonical : v.canonical := by
  have canon := load.performs.canon
  rw [← load.tags.same] at canon
  exact canon

/-- What the state that brings the title has posted stands after the load, or waits for room there. -/
theorem posts {m : Notice} (isFound : found ≠ 0) (brings : v.titleFound title (min shelf 255) = (w, .ok, some n))
    (single : m.single = true) (posted : w.HasPosted m) : ∀ t, exec (.titleLoad x) s = .next t → Posted t m := by
  intro t next
  have work : State.titleLoadWork (.titleLoad tag title found shelf) s =
      (qs.foldl (fun y q => y.completeQuestion title (some n) q.1 q.2) w, shelfStatus .ok shelf,
        (qs.foldl (fun y q => y.completeQuestion title (some n) q.1 q.2) w).titleCounts title) := by
    rw [load.work]
    unfold State.loadTitle
    rw [if_neg isFound, brings]
  obtain ⟨t', next', ends⟩ := load.performs.titleLoad_row work
  cases next'.symm.trans next
  have works : Works Adjusts w (qs.foldl (fun y q => y.completeQuestion title (some n) q.1 q.2) w) :=
    Works.refl.foldl (fun _ _ h => h.completeQuestion _ _ _ _) _
  exact ends.posted m single (works.hasPosted single posted)

/-- The restoration of a DAMAGED title by a found load. -/
theorem restores {id : Nat} (known : v.findTitle title = some n) (here : Tbl.lookup v.titles n = some (.damaged id)) :
    (∃ tt, Restored v title n op.traps (min shelf 255) (v.restoreTitle n title (min shelf 255)) tt) ∧
      (v.restoreTitle n title (min shelf 255)).drained n := by
  obtain ⟨rec, there, named⟩ := State.findTitle_spec load.wf known
  cases here.symm.trans there
  have found' : (v.setTitle n (.resident (v.rebuiltTitle title (min shelf 255)))).findTitle title = some n :=
    (State.findTitle_store (y := v) (r' := .resident (v.rebuiltTitle title (min shelf 255))) load.wf here named.symm rfl
      title).trans known
  exact State.restoreTitle_restores load.canonical
    (load.stockedNew load.tags.clean load.tags.engine load.wf found' rfl) load.tags.clean

theorem damaged {id : Nat} (known : v.findTitle title = some n) (here : Tbl.lookup v.titles n = some (.damaged id)) :
    (found = 0 → LoadRefuses s op x title qs v.tables .wrongState (.refused .notFound)) ∧
      (found ≠ 0 → LoadCompletes s op x title shelf qs (v.restoreTitle n title (min shelf 255)) n) := by
  refine ⟨fun isNot => load.notFound isNot (State.titleNotFound_damaged known here) load.tags.engine load.lanes,
    fun isFound => ?_⟩
  obtain ⟨⟨tt, restored⟩, drained⟩ := load.restores known here
  exact load.completes isFound (State.titleFound_damaged load.tags.clean known here _) restored.stocked drained

end LoadsTitle

/-- A tagged load whose tag matches nothing (R149). -/
theorem Performs.titleLoad_stale (h : Performs s op x (.titleLoad tag title found shelf)) (room : 4 ≤ op.reservation)
    (titled : title ≠ 0) (stale : s.loadBase tag .titleFetch title = none) :
    ∃ t, exec (.titleLoad x) s = .next t ∧ t.tables = s.tables ∧ t.faults.has .staleReply = true ∧
      Confirms s t 4 .staleTag [] := by
  have enough : (s.logStaleReply tag 0 title).hasRoom 1 :=
    State.hasRoom_congr (s.logFault_onlyLogs _ _ _).engine (h.hasRoom (Nat.le_trans (by decide) room))
  have logged : (s.logStaleReply tag 0 title).faults.has .staleReply = true := (s.logFault_has _ _ _ _).mpr (.inr rfl)
  obtain ⟨t, next, ends⟩ := h.row_ends (row := .titleLoad) (fun _ => Works.refl.titleLoadWork _) rfl
    (State.titleLoadWork_stale h.noErr titled stale found shelf) enough
  exact ⟨t, next, ends.tables.trans (s.logFault_tables _ _ _), ends.noBalance.logged _ logged, ends.confirms⟩

/-- A load of title 0. -/
theorem Performs.titleLoad_malformed (h : Performs s op x (.titleLoad tag title found shelf)) (room : 4 ≤ op.reservation)
    (untitled : title = 0) :
    ∃ t, exec (.titleLoad x) s = .next t ∧ t.tables = s.tables ∧ Confirms s t 4 .badMessage [] := by
  have work : State.titleLoadWork (.titleLoad tag title found shelf) s = s.badMessage := by
    unfold State.titleLoadWork
    dsimp only
    rw [if_pos untitled]
  obtain ⟨t, next, ends⟩ := h.row_ends (row := .titleLoad) (fun _ => Works.refl.titleLoadWork _) rfl work
    (h.hasRoom (Nat.le_trans (by decide) room))
  exact ⟨t, next, ends.tables, ends.confirms⟩

/-- Settles O35: the record that the load meets decides what it brings; a DAMAGED one is restored as `Restored` says. -/
theorem titleLoadActsByTheRecord : Obligations.TitleLoadActsByTheRecord := by
  intro s op x tag title found shelf h room
  refine ⟨h.titleLoad_malformed room, h.titleLoad_stale room, fun v titled base => ?_⟩
  have load : LoadsTitle s op x tag title found shelf v (s.loadQuestions v tag title) :=
    ⟨h, room, titled, State.loadBase_onlyTags h.noErr base, State.titleLoadWork_base h.noErr titled base found shelf⟩
  refine ⟨load.absent, fun n known => ⟨fun id held here => load.fetching known here, fun tt own => load.resident known own,
    fun id here => ⟨(load.damaged known here).1, fun isFound => ⟨(load.damaged known here).2 isFound, ?_⟩⟩⟩⟩
  obtain ⟨⟨tt, r⟩, -⟩ := load.restores known here
  have lost {patron : Nat} (posted : (v.restoreTitle n title (min shelf 255)).HasPosted (.holdChange title patron .lost 0)) :=
    load.posts isFound (State.titleFound_damaged load.tags.clean known here _) rfl posted
  have item {e : Nat × Hold} (mem : e ∈ v.entriesOf title) : ⟨e.1, e.2.patron⟩ ∈ v.rebuiltQueue title :=
    List.mem_map.mpr ⟨e, mem, rfl⟩
  refine ⟨tt, r.stocked.resident, r.stocked.titleId, r.sub, fun e mem => ⟨r.stays _ (item mem), fun leaves => ?_⟩,
    r.counted.waiting, r.counted.ready, r.listed, r.queued, fun k p own listed alone => lost (r.lost k p own listed alone)⟩
  obtain ⟨free, posted⟩ := r.gone _ (item mem) fun stays => leaves ((r.stays _ (item mem)).mp stays)
  exact ⟨free, lost posted⟩

end Sys2Proof.Machine
end

section
/-! PROOF. Room for a patron's BALANCE after its catch-up (R3, R9, R125, R181): the catch-up has left the entry reserved, or
an unsent BALANCE that the next one updates. -/

namespace Sys2Proof.Machine

variable {s t u v : State} {n m : Notice} {k slot id : Nat} {op : Op}

/-! ## Unsent notices -/

/-- A notice merges into an unsent one of its subject (R181). -/
theorem Link.coalesce_of_unsent {l : Link} (unsent : m ∈ l.unsent) (same : n.sameSubject m = true) :
    ∃ q, l.coalesce n = some q := by
  have merged {q : List Notice} (mem : m ∈ q) : ∃ r, coalesceIn n q = some r :=
    Option.ne_none_iff_exists'.mp fun none_ => Bool.false_ne_true ((coalesceIn_none none_ m mem).symm.trans same)
  unfold Link.unsent at unsent
  unfold Link.coalesce
  split at unsent
  · rename_i sending
    rw [if_pos sending]
    cases queue : l.outbound with
    | nil => simp [queue] at unsent
    | cons head rest =>
      obtain ⟨r, e⟩ := merged (q := rest) (by simpa [queue] using unsent)
      exact ⟨head :: r, by simp [e]⟩
  · rename_i idle
    rw [if_neg idle]
    exact merged unsent

/-- A merged notice is unsent. -/
theorem Link.coalesce_unsent {l : Link} {q : List Notice} (merged : l.coalesce n = some q) :
    n ∈ ({ l with outbound := q } : Link).unsent := by
  have self := Link.coalesce_self merged
  unfold Link.coalesce at merged
  unfold Link.unsent
  dsimp only
  split at merged
  · rename_i sending
    rw [if_pos sending]
    cases queue : l.outbound with
    | nil => simp [queue] at merged
    | cons head rest =>
      rw [queue] at merged
      obtain ⟨r, e, rfl⟩ := Option.map_eq_some_iff.mp merged
      exact Link.coalesce_self (k := { l with sending := false, outbound := rest }) e
  · rename_i idle
    rwa [if_neg idle]

theorem State.post_merges {q : List Notice} (merged : s.link.coalesce n = some q) : s.post n = s.setOutbound q := by
  unfold State.post
  rw [merged]

/-- A post against the reservation is unsent: the entry being sent is an earlier one (R180). -/
theorem State.post_unsent (room : s.hasRoom (k + 1)) (sound : s.link.sending = true → s.link.outbound ≠ []) (n : Notice) :
    n ∈ (s.post n).link.unsent := by
  obtain ⟨op, busy, quiet, left⟩ := room
  cases merged : s.link.coalesce n with
  | some q =>
    rw [State.post_merges merged]
    exact Link.coalesce_unsent merged
  | none =>
    have reserved : 0 < op.reservation := Nat.lt_of_lt_of_le (Nat.succ_pos k) left
    have posted : (s.post n).link = { s.link with outbound := s.link.outbound ++ [n] } := by
      unfold State.post
      simp only [merged, busy, quiet, reserved, ne_eq, not_true_eq_false, ↓reduceIte]
      rfl
    rw [posted]
    unfold Link.unsent
    split
    · rename_i sending
      rw [List.tail_append_of_ne_nil (sound sending)]
      exact List.mem_append_right _ List.mem_cons_self
    · exact List.mem_append_right _ List.mem_cons_self

/-! ## Room for one patron's BALANCE -/

/-- The operation can post a BALANCE of this patron and k notices more: it has k + 1 entries reserved, or k and an unsent
BALANCE of the patron (R3, R181). -/
def State.hasBalanceRoom (s : State) (id k : Nat) : Prop :=
  s.hasRoom (k + 1) ∨ s.hasRoom k ∧ ∃ balance pending blocked, .balance id balance pending blocked ∈ s.link.unsent

theorem State.hasBalanceRoom_congr (engine : t.engine = s.engine) (link : t.link = s.link) (h : s.hasBalanceRoom id k) :
    t.hasBalanceRoom id k := by
  unfold State.hasBalanceRoom at *
  rw [link]
  exact h.imp (State.hasRoom_congr engine) (And.imp_left (State.hasRoom_congr engine))

theorem State.hasBalanceRoom.hasRoom (h : s.hasBalanceRoom id k) : s.hasRoom k := h.elim State.hasRoom_succ And.left

theorem State.post_balanceRoom {p : Patron} (room : s.hasBalanceRoom p.id k) :
    p.balanceNotice ∈ (s.post p.balanceNotice).link.outbound ∧ (s.post p.balanceNotice).hasRoom k := by
  rcases room with room | ⟨⟨op, busy, quiet, left⟩, balance, pending, blocked, unsent⟩
  · exact State.post_room room _
  · obtain ⟨q, merged⟩ := Link.coalesce_of_unsent (n := p.balanceNotice) unsent
      (by simp [Patron.balanceNotice, Notice.sameSubject])
    rw [State.post_merges merged]
    exact ⟨Link.coalesce_self merged, op, busy, quiet, left⟩

/-! ## The catch-up -/

/-- The BALANCE of an operation that counts it in its notice need (R9). -/
theorem State.postBalance_counted {p : Patron} (own : s.patronAt slot = some p) (counted : s.balanceIsOptional = false) :
    s.postBalance slot = s.post p.balanceNotice := by
  rw [State.postBalance_resident own, counted]
  rfl

theorem State.evaluate_onlyLogs (clean : s.upsets = []) (n : Nat) : OnlyLogs s (s.evaluate n).1 := by
  rcases State.evaluate_cases clean n with ⟨l, p, -, -, e⟩ | e <;> rw [e]
  · have written : OnlyLogs s (s.writeWalk n l p (s.walkLoan l p)) := .of_same rfl rfl rfl
    exact written.trans (State.logCeiling_onlyLogs _ p l _).1
  · exact .of_same rfl rfl rfl

theorem ServesOnly.evaluateAll_onlyLogs (h : ServesOnly s t) (ns : List Nat) : OnlyLogs t (t.evaluateAll ns) := by
  unfold State.evaluateAll
  induction ns generalizing t with
  | nil => exact .of_same rfl rfl rfl
  | cons n ns ih => exact (State.evaluate_onlyLogs h.clean n).trans (ih (h.evaluate n))

theorem ServesOnly.compared_onlyLogs (h : ServesOnly s t) (slot : Nat) (p : Patron) : OnlyLogs t (t.compared slot p) := by
  refine (h.evaluateAll_onlyLogs p.loans).trans ?_
  unfold State.compared State.blockCompare State.mapPatron
  split <;> exact .of_same rfl rfl rfl

/-- The catch-up of a patron leaves the entry that its BALANCE had reserved, or that BALANCE unsent (R9). -/
theorem State.served_balanceRoom (clean : s.upsets = []) (wf : Tbl.wf s.patrons = true)
    (sound : s.link.sending = true → s.link.outbound ≠ []) (counted : s.balanceIsOptional = false)
    (found : s.findPatron id = some slot) (room : s.hasRoom (k + 1)) : (s.served slot).hasBalanceRoom id k := by
  have touched := State.touchDay_onlyTables (s.catchUp slot) slot
  refine State.hasBalanceRoom_congr touched.engine touched.link ?_
  have serves := ServesOnly.refl clean wf
  rcases s.catchUp_cases slot with e | ⟨p, e⟩
  · rw [e]
    exact .inl room
  have logs := serves.compared_onlyLogs slot p
  have only : ServesOnly s (s.compared slot p) := (serves.evaluateAll p.loans).1.blockCompare slot
  generalize s.compared slot p = c at e logs only
  have room' := State.hasRoom_congr logs.engine room
  rcases e with e | e <;> rw [e]
  · exact .inl room'
  cases own : c.patronAt slot with
  | none =>
    unfold State.postBalance
    rw [own]
    exact .inl room'
  | some q =>
    obtain rfl : q.id = id :=
      State.findPatron_resident only.wf ((State.findPatron_of_ids only.ids id).trans found) own
    obtain ⟨more, link, -⟩ := logs.outbound
    have sound' : c.link.sending = true → c.link.outbound ≠ [] := by
      rw [link]
      exact fun sending => List.append_ne_nil_of_left_ne_nil (sound sending) _
    rw [State.postBalance_counted own ((State.balanceIsOptional_congr logs.engine).trans counted)]
    exact .inr ⟨(State.post_room room' _).2, _, _, _, State.post_unsent room' sound' q.balanceNotice⟩

/-- An operation counts its BALANCE in its notice need, or not, from its grant on (R9). -/
theorem Works.balanceIsOptional (works : Works Adjusts s u) (busy : s.engine = .busy op) :
    u.balanceIsOptional = s.balanceIsOptional := by
  obtain ⟨done, busyDone, same⟩ := works.carries.op op busy
  unfold State.balanceIsOptional State.op?
  simp only [busy, busyDone, same.kind]

theorem State.served_works {K : State → State → Prop} (s : State) (slot : Nat) : Works K s (s.served slot) :=
  (Works.refl.catchUp slot).touchDay slot

end Sys2Proof.Machine
end

section
/-! PROOF. A balance lowered by a payment or a waiver (R115, R121, R123): the record it writes, and its BALANCE. -/

namespace Sys2Proof.Machine

variable {s t u v w : State} {k slot n applied : Nat} {p q : Patron}

/-! ## One patron record written -/

/-- From u to t no table has changed but in one patron slot, which holds q. -/
structure WritesPatron (u t : State) (slot : Nat) (q : Patron) : Prop where
  patron : t.patronAt slot = some q
  others : ∀ n, n ≠ slot → Tbl.lookup t.patrons n = Tbl.lookup u.patrons n
  frame : { t.tables with patrons := u.patrons } = u.tables

theorem WritesPatron.of_tables (h : WritesPatron u w slot q) (tables : t.tables = w.tables) : WritesPatron u t slot q := by
  have patrons : t.patrons = w.patrons := congrArg Tables.patrons tables
  refine ⟨(State.patronAt_of_table patrons slot).trans h.patron, ?_, ?_⟩
  · rw [patrons]
    exact h.others
  · rw [tables]
    exact h.frame

theorem WritesPatron.nothing (own : u.patronAt slot = some p) : WritesPatron u u slot p := ⟨own, fun _ _ => rfl, rfl⟩

theorem WritesPatron.loaded (u : State) (slot : Nat) (q : Patron) : WritesPatron u (u.loaded slot q) slot (u.compares q) :=
  ⟨u.loaded_patronAt slot q, fun _ other => Tbl.lookup_store_ne _ _ _ _ other, rfl⟩

theorem WritesPatron.rest (h : WritesPatron u t slot q) :
    t.loans = u.loans ∧ t.titles = u.titles ∧ t.pool = u.pool ∧ t.tags = u.tags ∧ t.tagLine = u.tagLine ∧
      t.calendar = u.calendar ∧ t.schedule = u.schedule ∧ t.sweep = u.sweep := by
  have frame := h.frame
  simp only [State.tables, Tables.mk.injEq] at frame
  obtain ⟨-, loans, titles, pool, calendar, schedule, sweep, tags, tagLine⟩ := frame
  exact ⟨loans, titles, pool, tags, tagLine, calendar, schedule, sweep⟩

/-! ## The amount taken off -/

/-- The record with an amount off its balance. -/
def Patron.less (p : Patron) (amount : Nat) : Patron := { p with balance := p.balance - amount }

theorem State.takeOff_eq (clean : u.upsets = []) (own : u.patronAt slot = some p) (counted : u.balanceIsOptional = false)
    (amount : Nat) :
    u.takeOff slot amount =
      (u.loaded slot (p.less amount)).post (u.compares (p.less amount)).balanceNotice := by
  have lowered : (u.mapPatron slot fun p => { p with balance := p.balance - amount }) =
      u.setPatron slot (.resident (p.less amount)) := by
    unfold State.mapPatron
    rw [own]
    rfl
  unfold State.takeOff
  rw [lowered, State.setPatron_compared clean]
  exact State.postBalance_counted (u.loaded_patronAt slot _) counted

/-- What a payment or a waiver leaves of the state: one that applies nothing leaves it as it is. -/
def State.pays (u : State) (slot applied : Nat) : State := if applied = 0 then u else u.takeOff slot applied

/-- w is what a payment or a waiver on the RESIDENT patron p leaves of u, with room for k notices more. -/
structure Pays (u w : State) (slot : Nat) (p : Patron) (applied k : Nat) : Prop where
  writes : WritesPatron u w slot (if applied = 0 then p else u.compares (p.less applied))
  posted : applied ≠ 0 → (u.compares (p.less applied)).balanceNotice ∈ w.link.outbound
  room : w.hasRoom k

theorem State.pays_spec (clean : u.upsets = []) (own : u.patronAt slot = some p) (counted : u.balanceIsOptional = false)
    (room : u.hasBalanceRoom p.id k) (applied : Nat) : Pays u (u.pays slot applied) slot p applied k := by
  unfold State.pays
  by_cases none_ : applied = 0
  · rw [if_pos none_]
    exact ⟨by rw [if_pos none_]; exact .nothing own, fun some_ => absurd none_ some_, room.hasRoom⟩
  · rw [if_neg none_, State.takeOff_eq clean own counted]
    obtain ⟨posted, left⟩ := State.post_balanceRoom (s := u.loaded slot (p.less applied))
      (p := u.compares (p.less applied)) (State.hasBalanceRoom_congr rfl rfl room)
    refine ⟨?_, fun _ => posted, left⟩
    rw [if_neg none_]
    exact (WritesPatron.loaded u slot (p.less applied)).of_tables (State.post_tables _ _)

end Sys2Proof.Machine
end

section
/-! PROOF. PAY_CASH and WAIVE (R113 to R115, R121, R123). -/

namespace Sys2Proof.Machine

variable {s t u w : State} {op : Op} {x : Crossing} {code : ReqCode} {fields : List Nat} {id amount slot k : Nat} {p : Patron}
  {a : Answer} {n : Notice}

/-! ## The row -/

/-- What a request has posted stands after its completion. -/
theorem Granted.request_kept (h : Granted s op x) (kind : op.kind = .request code fields) (served : code.work op s = (w, a))
    (room : w.hasRoom k) (next : exec (code.command x) s = .next t) (mem : n ∈ w.link.outbound)
    (notLane : n.isLaneState = false) : n ∈ t.link.outbound := by
  obtain ⟨left, busy, quiet, -⟩ := room
  have answered : (State.answer (w, a)).engine = .busy { left with answer := some a } := by
    simp [State.answer, busy, Engine.mapOp]
  rw [code.exec_command] at next
  unfold State.request at next
  rw [State.command_perform h.noReset h.busy (by simp [kind, OpKind.isRequest]), h.crossed, served,
    State.complete_done answered quiet] at next
  cases next
  exact (State.answer (w, a)).finishOp_mem _ x.claims mem notLane

/-- The catch-up that opens an operation that counts its BALANCE leaves room for another (R9). -/
theorem Granted.balance {left : Nat} (h : Granted s op x) (room : left + 1 ≤ op.reservation)
    (counted : s.balanceIsOptional = false) (found : s.findPatron id = some slot)
    (own : (s.served slot).patronAt slot = some p) :
    (s.served slot).balanceIsOptional = false ∧ (s.served slot).hasBalanceRoom p.id left := by
  have serves := (ServesOnly.refl h.noErr h.canon.1).served slot
  have named : p.id = id := State.findPatron_resident serves.wf ((State.findPatron_of_ids serves.ids id).trans found) own
  rw [named]
  exact ⟨((s.served_works slot).balanceIsOptional h.busy).trans counted,
    State.served_balanceRoom h.noErr h.canon.1 h.sound counted found ⟨op, h.busy, h.noWait, room⟩⟩

theorem Serves.balance {left : Nat} (h : Serves s op x code fields slot u p) (room : left + 1 ≤ op.reservation)
    (counts : code ≠ .account) : u.balanceIsOptional = false ∧ u.hasBalanceRoom p.id left := by
  have counted : s.balanceIsOptional = false := by
    unfold State.balanceIsOptional State.op?
    simp only [h.busy, h.kind]
    cases code with
    | account => exact absurd rfl counts
    | _ => rfl
  obtain ⟨granted, -, found, -, rfl, own⟩ := h
  exact granted.balance room counted found own

/-! ## The two payments -/

theorem Serves.payCash_work (h : Serves s op x .payCash [id, amount] slot u p) :
    ReqCode.payCash.work op s =
      (u.pays slot (min amount p.payable),
        cashAnswer (min amount p.payable) (p.balance - min amount p.payable)
          (if amount = 0 then .refused .badAmount else if p.payable = 0 then .refused .nothingDue else .ok)) := by
  show State.payCashWork op s = _
  unfold State.payCashWork State.pays
  rewrite [h.body, h.field]
  show (if amount = 0 then _ else _) = _
  by_cases zero : amount = 0
  · simp [zero]
  · by_cases nothing : p.payable = 0
    · simp [zero, nothing]
    · simp [zero, nothing]

/-- Settles O18: the work of the request is `State.pays`. -/
theorem cashIsAppliedUpToThePayableAmount : Obligations.CashIsAppliedUpToThePayableAmount := by
  intro s op x id amount slot u p served room
  obtain ⟨counted, balance⟩ := served.balance (left := 0) room nofun
  have work := served.payCash_work
  have pays := State.pays_spec served.servesOnly.clean served.patron counted balance (min amount p.payable)
  obtain ⟨t, next, ends⟩ := served.toGranted.request_ends served.kind work pays.room
  have writes := pays.writes.of_tables ends.tables
  have posted (some_ : min amount p.payable ≠ 0) :=
    served.toGranted.request_kept served.kind work pays.room next (pays.posted some_) rfl
  unfold State.compares at writes posted
  rw [State.blockDue_eq] at writes posted
  exact ⟨t, next, ⟨writes.patron, posted, ends.answers⟩, writes.others, writes.rest⟩

theorem Names.waive_work {patron : Nat} (h : Names s op x (.waive patron amount) patron slot u p) :
    State.waiveWork (.waive patron amount) s =
      (u.pays slot (min amount p.payable),
        if amount = 0 then .badAmount else if p.payable = 0 then .nothingDue
          else if p.payable < amount then .clamped else .ok,
        waiveFields (min amount p.payable) (p.balance - min amount p.payable) p.pending) := by
  unfold State.waiveWork State.pays
  dsimp only
  rewrite [h.named]
  by_cases zero : amount = 0
  · simp [zero]
  · by_cases nothing : p.payable = 0
    · simp [zero, nothing]
    · simp [zero, nothing, clampedStatus_eq]

/-- Settles O37: the work of the message is `State.pays`. -/
theorem waiveLowersTheBalanceUpToThePayableAmount : Obligations.WaiveLowersTheBalanceUpToThePayableAmount := by
  intro s op x patron amount slot u p named room
  have counts : s.balanceIsOptional = false := by simp [State.balanceIsOptional, State.op?, named.busy, named.kind]
  obtain ⟨counted, balance⟩ : u.balanceIsOptional = false ∧ u.hasBalanceRoom p.id 3 := by
    obtain ⟨performs, found, -, rfl, own⟩ := named
    exact performs.toGranted.balance room counts found own
  have pays := State.pays_spec named.servesOnly.clean named.patron counted balance (min amount p.payable)
  have ⟨left, busy, quiet, enough⟩ := pays.room
  obtain ⟨t, next, ends⟩ := named.toPerforms.row_ends (row := .waive) (fun _ => Works.refl.waiveWork _) rfl
    named.waive_work ⟨left, busy, quiet, Nat.le_trans (by decide) enough⟩
  have writes := pays.writes.of_tables ends.tables
  exact ⟨t, next, ⟨writes.patron, fun some_ => ends.kept _ (pays.posted some_) rfl, ends.confirms⟩, writes.others,
    writes.rest⟩

end Sys2Proof.Machine
end

section
/-! PROOF. PAY_CARD (R113, R116, R147, R153, R154). -/

namespace Sys2Proof.Machine

variable {s u : State} {op : Op} {x : Crossing} {id amount cardRef slot : Nat} {p : Patron} {o : Origin} {n : Fin 32}
  {r : Refused}

/-! ## The checks -/

theorem Serves.payCard_work (h : Serves s op x .payCard [id, amount, cardRef] slot u p) (origin : op.origin = some o) :
    ReqCode.payCard.work op s =
      if u.link.up = false then (u, refusedZero 1 .linkDown)
      else if amount = 0 then (u, refusedZero 1 .badAmount)
      else if p.payable = 0 then (u, refusedZero 1 .nothingDue)
      else if u.mayPark o = false then (u, refusedZero 1 .parkedLimit)
      else
        match u.freeTag with
        | none => (u, refusedZero 1 .tryLater)
        | some n =>
          (u.reserveCard o n slot p (min amount p.payable) cardRef, ⟨[.num (min amount p.payable)], .pending⟩) := by
  have from_ : op.from = o := by simp [Op.from, origin]
  show State.payCardWork op s = _
  unfold State.payCardWork
  rewrite [h.body, h.field, h.field, from_]
  dsimp only
  rewrite [State.readFreeTag_clean h.servesOnly.clean]
  simp only [Bool.not_eq_true']
  rfl

/-- The first failing check of R116. -/
theorem Serves.payCard_refused (h : Serves s op x .payCard [id, amount, cardRef] slot u p) (origin : op.origin = some o)
    (refused : u.link.up = false ∧ r = .linkDown ∨
      u.link.up = true ∧
        (amount = 0 ∧ r = .badAmount ∨
          amount ≠ 0 ∧
            (p.payable = 0 ∧ r = .nothingDue ∨
              p.payable ≠ 0 ∧
                (2 ≤ (u.stationAt o).stack.length + (u.stationAt o).parked ∧ r = .parkedLimit ∨
                  (u.stationAt o).stack.length + (u.stationAt o).parked < 2 ∧ u.freeTag = none ∧ r = .tryLater)))) :
    ReqCode.payCard.work op s = (u, refusedZero 1 r) := by
  rw [h.payCard_work origin]
  rcases refused with ⟨down, rfl⟩ | ⟨up, refused⟩
  · rw [if_pos down]
  rw [if_neg (by simp [up])]
  rcases refused with ⟨zero, rfl⟩ | ⟨some_, refused⟩
  · rw [if_pos zero]
  rw [if_neg some_]
  rcases refused with ⟨nothing, rfl⟩ | ⟨due, refused⟩
  · rw [if_pos nothing]
  rw [if_neg due]
  rcases refused with ⟨full, rfl⟩ | ⟨below, noTag, rfl⟩
  · rw [if_pos (Bool.eq_false_iff.mpr fun may => absurd ((u.mayPark_iff o).mp may) (Nat.not_lt_of_le full))]
  · rw [if_neg (by simp [(u.mayPark_iff o).mpr below]), noTag]

theorem Serves.payCard_passes (h : Serves s op x .payCard [id, amount, cardRef] slot u p) (origin : op.origin = some o)
    (up : u.link.up = true) (some_ : amount ≠ 0) (due : p.payable ≠ 0)
    (below : (u.stationAt o).stack.length + (u.stationAt o).parked < 2) (tag : u.freeTag = some n) :
    ReqCode.payCard.work op s =
      (u.reserveCard o n slot p (min amount p.payable) cardRef, ⟨[.num (min amount p.payable)], .pending⟩) := by
  rw [h.payCard_work origin, if_neg (by simp [up]), if_neg some_, if_neg due, if_neg (by simp [(u.mayPark_iff o).mpr below]), tag]

/-! ## The reserve (R116) -/

/-- The record with an amount more in its pending credit. -/
def Patron.holding (p : Patron) (reserve : Nat) : Patron := { p with pending := p.pending + reserve }

/-- What a card payment that passes writes: its patron's record and its number. -/
def State.reserving (u : State) (o : Origin) (n : Fin 32) (slot : Nat) (p : Patron) (reserve : Nat) : State :=
  ({ u with patrons := Tbl.store u.patrons slot (.resident (p.holding reserve)) } : State).allocateTag n .cardAuth p.id
    reserve (some o) none

theorem State.raiseParked_link (s : State) (o : Origin) : (s.raiseParked o).link = s.link := by
  unfold State.raiseParked
  dsimp only
  split <;> rfl

/-- w is what a card payment that passes leaves of u: its writes, the raised parked count and its two posts. -/
structure ReservesCard (u w : State) (o : Origin) (n : Fin 32) (slot : Nat) (p : Patron) (reserve cardRef : Nat) : Prop where
  tables : w.tables = (u.reserving o n slot p reserve).tables
  raises : RaisesParked u w o
  reported : (p.holding reserve).balanceNotice ∈ w.link.outbound
  asked : .authRequest (u.nextTagId n) p.id reserve cardRef o.lane o.station ∈ w.link.outbound
  room : w.hasRoom 0

theorem State.reserveCard_spec (clean : u.upsets = []) (own : u.patronAt slot = some p)
    (counted : u.balanceIsOptional = false) (room : u.hasBalanceRoom p.id 1) (o : Origin) (n : Fin 32) (reserve cardRef : Nat) :
    ReservesCard u (u.reserveCard o n slot p reserve cardRef) o n slot p reserve cardRef := by
  obtain ⟨raises, tables, engine⟩ := (u.reserving o n slot p reserve).raiseParked_raises o
  have link := (u.reserving o n slot p reserve).raiseParked_link o
  generalize hw : (u.reserving o n slot p reserve).raiseParked o = w at raises tables engine link
  have holds : w.patronAt slot = some (p.holding reserve) := by
    rw [State.patronAt_of_table (congrArg Tables.patrons tables :), State.patronAt_eq_some]
    exact Tbl.lookup_store_same _ _ _
  generalize hm : Notice.authRequest (u.nextTagId n) p.id reserve cardRef o.lane o.station = m
  have made : u.reserveCard o n slot p reserve cardRef = (w.post (p.holding reserve).balanceNotice).post m := by
    have posts := State.postBalance_counted holds ((State.balanceIsOptional_congr engine).trans counted)
    unfold State.reserveCard
    dsimp only
    rw [State.mapPatron_clean clean own, ← posts, ← hw, ← hm]
    rfl
  obtain ⟨reported, left⟩ := State.post_balanceRoom (s := w) (p := p.holding reserve)
    (State.hasBalanceRoom_congr engine link room)
  obtain ⟨asked, enough⟩ := State.post_room left m
  have single : m.sameSubject (p.holding reserve).balanceNotice = false := by rw [← hm]; rfl
  rw [made]
  refine ⟨?_, ?_, State.post_mem _ reported single, ?_, enough⟩
  · rw [State.post_tables, State.post_tables, tables]
  · exact (raises.of_before rfl).of_after
      ((w.post_onlyPosts _).sameStacks.trans (State.post_onlyPosts _ m).sameStacks)
  · rw [hm]
    exact asked

/-- Settles O19: the first failing check leaves the state alone; a payment that passes leaves what `ReservesCard` says. -/
theorem cardPaymentReservesThePayableAmount : Obligations.CardPaymentReservesThePayableAmount := by
  refine ⟨fun s op x id amount cardRef slot u p o r served room origin refused => ?_,
    fun s op x id amount cardRef slot u p o n served room origin up some_ due below tag => ?_⟩
  · exact served.quiet_row (by omega) (served.payCard_refused origin refused)
  have only := served.servesOnly
  obtain ⟨counted, balance⟩ := served.balance (left := 1) room nofun
  have work := served.payCard_passes origin up some_ due below tag
  have card := State.reserveCard_spec only.clean served.patron counted balance o n (min amount p.payable) cardRef
  obtain ⟨t, next, ends⟩ := served.toGranted.request_ends served.kind work card.room
  have kept {notice : Notice} := served.toGranted.request_kept (n := notice) served.kind work card.room next
  obtain ⟨patrons, loans, titles, pool, calendar, schedule, sweep, tags, -⟩ :=
    State.tables_eq_iff.mp (ends.tables.trans card.tables)
  refine ⟨t, next, ⟨?_, ?_, kept card.asked rfl, kept card.reported rfl, ends.answers⟩, fun silent => ?_, fun k other => ?_,
    fun k other => ?_, loans, titles, pool, calendar, schedule, sweep⟩
  · rw [State.patronAt_eq_some, patrons]
    exact Tbl.lookup_store_same _ _ _
  · rw [tags]
    exact (vector_get_set u.tags n _).1
  · exact (card.raises.of_before only.lanes).of_after (ends.stations silent)
  · rw [patrons]
    exact Tbl.lookup_store_ne _ _ _ _ other
  · rw [tags]
    exact (vector_get_set u.tags n _).2 k other

end Sys2Proof.Machine
end

section
/-! PROOF. AUTH_RESULT (R117, R118, R149, R152, R153). -/

namespace Sys2Proof.Machine

variable {s t u v w y : State} {op done : Op} {x : Crossing} {tag : TagField} {m : Message} {amount slot number applied : Nat}
  {p : Patron} {q : Question} {o : Origin} {notice : StationNotice} {outcome : NoticeOutcome}

/-! ## The row of a message that hands one station notice -/

/-- The station notice of a message whose posts have all found room (R10, R11, R153). -/
theorem Performs.message_stacks {row : Crossing → Instr} {work : Message → State → Confirmed} {status : Status}
    {fields : List CField} (h : Performs s op x m)
    (performs : exec (row x) s = State.message (OpKind.isMessage m.kind) work x s) (served : work m s = (w, status, fields))
    (works : Works Adjusts s w) (room : w.hasRoom 1) (same : SameStacks s w) (busy : w.engine = .busy done)
    (one : done.handed = [(o, notice)]) (owed : op.resetOwed = false) (next : exec (row x) s = .next t) :
    Stacks s t o notice := by
  have named : op.message = some m := by simp [Op.message, h.kind]
  rw [performs] at next
  unfold State.message at next
  rw [State.command_perform h.noReset h.busy (by simp [h.kind, OpKind.isMessage]), h.crossed] at next
  simp only [named, State.confirm, served] at next
  generalize Notice.confirm w.headSeq m.kind status fields = n at next
  obtain ⟨-, left, busyLeft, quiet, -⟩ := State.post_room room n
  obtain ⟨granted, handed⟩ : SameGrant done left ∧ left.handed = done.handed := by
    obtain ⟨posted, f, g, made, same⟩ := w.post_onlyPosts n
    have busyDone : (w.post n).engine = .busy (g done) := by
      rw [made]
      simp [State.setOutbound, busy, Engine.mapOp]
    obtain rfl : left = g done := Engine.busy.inj (busyLeft.symm.trans busyDone)
    exact same done
  obtain ⟨done', busy', granted'⟩ := works.carries.op op h.busy
  obtain rfl : done = done' := Engine.busy.inj (busy.symm.trans busy')
  rw [State.complete_done busyLeft quiet] at next
  cases next
  have stacked := (w.post n).finishOp_stacks (handed.trans one)
    (granted.resetOwed.trans (granted'.resetOwed.trans owed)) x.claims
  exact Stacks.of_before (same.trans (w.post_onlyPosts n).sameStacks) (stacked.of_after (.of_lanes rfl))

/-! ## The CARD_RESULT (R153) -/

theorem State.handCardResult_frame (y : State) (q : Question) (number amount : Nat) (outcome : NoticeOutcome) :
    (y.handCardResult q number amount outcome).tables = y.tables ∧
      (y.handCardResult q number amount outcome).link = y.link ∧
      (y.handCardResult q number amount outcome).lanes = y.lanes := by
  unfold State.handCardResult State.hand
  split <;> exact ⟨rfl, rfl, rfl⟩

theorem State.handCardResult_room {k : Nat} (room : y.hasRoom k) (q : Question) (number amount : Nat)
    (outcome : NoticeOutcome) : (y.handCardResult q number amount outcome).hasRoom k := by
  obtain ⟨op, busy, quiet, left⟩ := room
  unfold State.handCardResult State.hand
  split
  · exact ⟨_, State.mapOp_busy busy _, quiet, left⟩
  · exact ⟨op, busy, quiet, left⟩

/-- The one CARD_RESULT of an operation that had handed none. -/
theorem State.handCardResult_hands (busy : y.engine = .busy op) (silent : op.handed = []) (origin : q.origin = some o)
    (number amount : Nat) (outcome : NoticeOutcome) :
    ∃ done, (y.handCardResult q number amount outcome).engine = .busy done ∧
      done.handed = [(o, ⟨.cardResult, q.subject, amount, outcome, number, false⟩)] := by
  unfold State.handCardResult State.hand
  rw [origin]
  exact ⟨_, State.mapOp_busy busy _, by simp [silent]⟩

/-! ## The row -/

/-- t is what the completion of a matched AUTH_RESULT leaves of y, the state before its CARD_RESULT. -/
structure AuthEnds (s y t : State) (op : Op) (q : Question) (number applied : Nat) (outcome : NoticeOutcome) (status : Status)
    (fields : List CField) : Prop where
  tables : t.tables = y.tables
  confirms : Confirms s t 5 status fields
  kept : ∀ n ∈ y.link.outbound, n.isLaneState = false → n ∈ t.link.outbound
  answers : ∀ o, q.origin = some o → op.handed = [] → op.resetOwed = false →
    Stacks s t o ⟨.cardResult, q.subject, applied, outcome, number, false⟩

theorem Performs.authResult_row {status : Status} {fields : List CField} (h : Performs s op x (.authResult tag amount))
    (works : Works (fun _ _ => False) s y) (room : y.hasRoom 1)
    (served : State.authResultWork (.authResult tag amount) s =
      (y.handCardResult q number applied outcome, status, fields)) :
    ∃ t, exec (.authResult x) s = .next t ∧ AuthEnds s y t op q number applied outcome status fields := by
  have room' := State.handCardResult_room room q number applied outcome
  obtain ⟨tables, link, lanes⟩ := y.handCardResult_frame q number applied outcome
  obtain ⟨t, next, ends⟩ := h.row_ends (row := .authResult) (fun _ => Works.refl.authResultWork _) rfl served room'
  refine ⟨t, next, ends.tables.trans tables, ends.confirms, fun n mem notLane => ?_,
    fun o origin silent owed => ?_⟩
  · exact ends.kept n (by rwa [link]) notLane
  · obtain ⟨left, busyLeft, handed⟩ := works.handed h.busy
    obtain ⟨done, busyDone, one⟩ := State.handCardResult_hands busyLeft (handed.trans silent) origin number applied outcome
    exact h.message_stacks (row := .authResult) rfl served (works.plain.handCardResult _ _ _ _) room'
      (works.sameStacks.trans (.of_lanes lanes)) busyDone one owed next

/-! ## The tag (R149, R152) -/

theorem State.authResultWork_stale (clean : s.upsets = []) (stale : s.matchTag tag .cardAuth none = none) (amount : Nat) :
    State.authResultWork (.authResult tag amount) s = (s.logStaleReply tag 0 0, .staleTag, []) := by
  unfold State.authResultWork
  simp only [State.readTagField_clean clean, stale]

theorem State.authResultWork_matched (clean : s.upsets = []) (matched : s.matchTag tag .cardAuth none = some q)
    (amount : Nat) :
    State.authResultWork (.authResult tag amount) s = (s.retireTag tag.number).authMatched q tag.number amount := by
  unfold State.authResultWork
  simp only [State.readTagField_clean clean, matched]

/-- What the retirement of a number writes (R152). -/
theorem State.retireTag_tags (s : State) (n : Fin 32) :
    (s.retireTag n.val).tags.get n = (s.tags.get n).retired ∧
      (∀ k, k ≠ n → (s.retireTag n.val).tags.get k = s.tags.get k) ∧
      (s.retireTag n.val).tagLine = s.tagLine.filter (· != n.val) := by
  have made : s.retireTag n.val =
      { s.setTag n (s.tags.get n).retired with tagLine := s.tagLine.filter (· != n.val) } := dif_pos n.isLt
  rw [made]
  obtain ⟨own, others⟩ := vector_get_set s.tags n (s.tags.get n).retired
  exact ⟨own, others, rfl⟩

theorem OnlyTags.findPatron (h : OnlyTags s v) (id : Nat) : v.findPatron id = s.findPatron id :=
  State.findPatron_of_ids (by rw [State.patronIds, h.patrons]; rfl) id

/-! ## The record (R117, R118) -/

theorem State.authMatched_absent (clean : v.upsets = []) (absent : v.findPatron q.subject = none) (number amount : Nat) :
    v.authMatched q number amount = v.authLost q number (min amount q.reserve) := by
  unfold State.authMatched
  simp only [State.lookUpPatron_clean clean, absent]

/-- A record that is not RESIDENT. -/
theorem State.authMatched_unserved (clean : v.upsets = []) (found : v.findPatron q.subject = some slot)
    (other : v.patronAt slot = none) (number amount : Nat) :
    v.authMatched q number amount = (v.touchDay slot).authLost q number (min amount q.reserve) := by
  unfold State.authMatched
  simp only [State.lookUpPatron_clean clean, found]
  split
  · rename_i p here
    rw [State.patronAt_eq_some.mpr here] at other
    cases other
  · rfl

theorem State.authMatched_resident (clean : v.upsets = []) (found : v.findPatron q.subject = some slot)
    (resident : (v.patronAt slot).isSome = true) (own : (v.served slot).patronAt slot = some p) (number amount : Nat) :
    v.authMatched q number amount =
      (v.served slot).applyAuth slot q number (min amount q.reserve) (decide (q.reserve < amount)) := by
  obtain ⟨old, here⟩ := State.patronAt_isSome resident
  unfold State.authMatched
  simp only [State.lookUpPatron_clean clean, found, here]
  unfold State.served at own ⊢
  rw [own]
  rfl

/-- The record with a reserve out of its pending credit and an amount off its balance (R117). -/
def Patron.settled (p : Patron) (reserve amount : Nat) : Patron :=
  { p with pending := p.pending - reserve, balance := p.balance - amount }

theorem State.applyAuth_eq (clean : u.upsets = []) (own : u.patronAt slot = some p) (counted : u.balanceIsOptional = false)
    (q : Question) (number amount : Nat) (clamped : Bool) :
    u.applyAuth slot q number amount clamped =
      (((u.loaded slot (p.settled q.reserve amount)).post
          (u.compares (p.settled q.reserve amount)).balanceNotice).handCardResult q number amount .ok,
        clampedStatus clamped, [⟨4, amount⟩, ⟨4, p.balance - amount⟩, ⟨4, p.pending - q.reserve⟩]) := by
  generalize hr : ({ p with pending := p.pending - q.reserve } : Patron) = r
  generalize hc : ({ u with patrons := Tbl.store u.patrons slot (.resident r) } : State) = c
  have released : (u.mapPatron slot fun p => { p with pending := p.pending - q.reserve }) = c := by
    rw [State.mapPatron_clean clean own, ← hc, ← hr]
  have there : c.patronAt slot = some r := by
    rw [← hc, State.patronAt_eq_some]
    exact Tbl.lookup_store_same _ _ _
  have taken : c.takeOff slot amount =
      (u.loaded slot (p.settled q.reserve amount)).post (u.compares (p.settled q.reserve amount)).balanceNotice := by
    rw [State.takeOff_eq (by rw [← hc]; exact clean) there (by rw [← hc]; exact counted), ← hc, ← hr]
    simp only [State.loaded, Tbl.store_store]
    rfl
  generalize hy : (u.loaded slot (p.settled q.reserve amount)).post _ = y at taken ⊢
  have settled : (y.handCardResult q number amount .ok).patronAt slot = some (u.compares (p.settled q.reserve amount)) := by
    have tables := (y.handCardResult_frame q number amount .ok).1
    rw [← hy, State.post_tables] at tables
    rw [← hy, State.patronAt_of_table (congrArg Tables.patrons tables :)]
    exact u.loaded_patronAt slot _
  unfold State.applyAuth
  dsimp only
  rw [released, taken, settled]
  rfl

/-! ## The statement's parts -/

/-- An AUTH_RESULT that matches no card payment (R149). -/
theorem Performs.authResult_stale (h : Performs s op x (.authResult tag amount)) (room : 4 ≤ op.reservation)
    (stale : s.matchTag tag .cardAuth none = none) :
    ∃ t, exec (.authResult x) s = .next t ∧ t.tables = s.tables ∧ t.faults.has .staleReply = true ∧
      Confirms s t 5 .staleTag [] := by
  have enough : (s.logStaleReply tag 0 0).hasRoom 1 :=
    State.hasRoom_congr (s.logFault_onlyLogs _ _ _).engine (h.hasRoom (Nat.le_trans (by decide) room))
  have logged : (s.logStaleReply tag 0 0).faults.has .staleReply = true := (s.logFault_has _ _ _ _).mpr (.inr rfl)
  obtain ⟨t, next, ends⟩ := h.row_ends (row := .authResult) (fun _ => Works.refl.authResultWork _) rfl
    (State.authResultWork_stale h.noErr stale amount) enough
  exact ⟨t, next, ends.tables.trans (s.logFault_tables _ _ _), ends.noBalance.logged _ logged, ends.confirms⟩

/-- A matched AUTH_RESULT on a record that is not RESIDENT, in the state that this leaves before the CARD_RESULT. -/
theorem Performs.authResult_lost (h : Performs s op x (.authResult tag amount)) (room : 4 ≤ op.reservation)
    (matched : s.matchTag tag .cardAuth none = some q)
    (lost : s.findPatron q.subject = none ∧ u = s.retireTag tag.number ∨
      ∃ slot, s.findPatron q.subject = some slot ∧ s.patronAt slot = none ∧ u = (s.retireTag tag.number).touchDay slot) :
    ∃ t, exec (.authResult x) s = .next t ∧
      AuthEnds s u t op q tag.number (min amount q.reserve) (.refused .damaged) .damaged [⟨4, 0⟩, ⟨4, 0⟩, ⟨4, 0⟩] := by
  have tags := OnlyTags.retireTag h.noErr tag.number
  have retired : Works (fun _ _ => False) s (s.retireTag tag.number) := Works.refl.retireTag _
  have enough : (s.retireTag tag.number).hasRoom 1 := State.hasRoom_congr tags.engine (h.hasRoom (Nat.le_trans (by decide) room))
  have work := State.authResultWork_matched h.noErr matched amount
  rcases lost with ⟨absent, rfl⟩ | ⟨slot, found, other, rfl⟩
  · rw [State.authMatched_absent tags.clean ((tags.findPatron _).trans absent)] at work
    exact h.authResult_row retired enough work
  · rw [State.authMatched_unserved tags.clean ((tags.findPatron _).trans found)
      ((State.patronAt_of_table tags.patrons slot).trans other)] at work
    exact h.authResult_row (retired.touchDay slot) (State.hasRoom_congr (State.touchDay_onlyTables _ slot).engine enough) work

/-- A matched AUTH_RESULT on a RESIDENT record. -/
theorem Performs.authResult_settles (h : Performs s op x (.authResult tag amount)) (room : 4 ≤ op.reservation)
    (matched : s.matchTag tag .cardAuth none = some q) (found : s.findPatron q.subject = some slot)
    (resident : (s.patronAt slot).isSome = true) (after : u = (s.retireTag tag.number).served slot)
    (own : u.patronAt slot = some p) :
    ∃ t y, exec (.authResult x) s = .next t ∧
      AuthEnds s y t op q tag.number (min amount q.reserve) .ok (if q.reserve < amount then .clamped else .ok)
        [⟨4, min amount q.reserve⟩, ⟨4, p.balance - min amount q.reserve⟩, ⟨4, p.pending - q.reserve⟩] ∧
      WritesPatron u y slot (u.compares (p.settled q.reserve (min amount q.reserve))) ∧
      (u.compares (p.settled q.reserve (min amount q.reserve))).balanceNotice ∈ y.link.outbound ∧
      u.tags = (s.retireTag tag.number).tags ∧ u.tagLine = (s.retireTag tag.number).tagLine := by
  subst after
  have tags := OnlyTags.retireTag h.noErr tag.number
  generalize hv : s.retireTag tag.number = v at tags own
  have wf : Tbl.wf v.patrons = true := by
    rw [tags.patrons]
    exact h.canon.1
  have works : Works (fun _ _ => False) s (v.served slot) := by
    rw [← hv]
    exact ((Works.refl.retireTag _).catchUp slot).touchDay slot
  have counted : (v.served slot).balanceIsOptional = false :=
    (works.plain.balanceIsOptional h.busy).trans (by simp [State.balanceIsOptional, State.op?, h.busy, h.kind])
  have only := (ServesOnly.refl tags.clean wf).served slot
  have room' : (v.served slot).hasRoom 2 :=
    State.served_room tags.clean wf (State.hasRoom_congr tags.engine (h.hasRoom (Nat.le_trans (by decide) room))) slot
  have work := State.authResultWork_matched h.noErr matched amount
  rw [hv, State.authMatched_resident tags.clean ((tags.findPatron _).trans found)
    (by rwa [State.patronAt_of_table tags.patrons]) own, State.applyAuth_eq only.clean own counted, clampedStatus_eq] at work
  generalize p.settled q.reserve (min amount q.reserve) = r at work
  obtain ⟨posted, enough⟩ := State.post_room (s := (v.served slot).loaded slot r) (k := 1) room'
    ((v.served slot).compares r).balanceNotice
  have written : Works (fun _ _ => False) s ((v.served slot).loaded slot r) := works.tables rfl
  obtain ⟨t, next, ends⟩ := h.authResult_row (written.post _) enough work
  exact ⟨t, _, next, ends, (WritesPatron.loaded _ slot r).of_tables (State.post_tables _ _), posted,
    (congrArg Tables.tags only.frame :), (congrArg Tables.tagLine only.frame :)⟩

/-- Settles O36: the tag decides whether the reply is stale, and the record of its subject what becomes of it. -/
theorem authResultSettlesTheCardPayment : Obligations.AuthResultSettlesTheCardPayment := by
  intro s op x tag amount h room
  refine ⟨h.authResult_stale room, fun q n number matched => ?_⟩
  dsimp only
  rw [← number]
  refine ⟨fun slot u p found resident after own => ?_, fun u lost => ?_⟩
  · obtain ⟨t, y, next, ends, made, posted, sameTags, sameLine⟩ :=
      h.authResult_settles room matched found resident after own
    have writes := made.of_tables ends.tables
    obtain ⟨loans, titles, pool, tags, tagLine, calendar, schedule, sweep⟩ := writes.rest
    obtain ⟨retired, others, line⟩ := s.retireTag_tags n
    rw [← number] at retired others line
    rw [← sameTags, ← tags] at retired others
    rw [← sameLine, ← tagLine] at line
    exact ⟨t, next, ⟨writes.patron, ends.kept _ posted rfl, ends.confirms⟩, ends.answers, retired, others, line,
      writes.others, loans, titles, pool, calendar, schedule, sweep⟩
  · obtain ⟨t, next, ends⟩ := h.authResult_lost room matched lost
    exact ⟨t, next, ends.tables, ends.answers, ends.confirms⟩

end Sys2Proof.Machine
end

section
/-! PROOF. The Sweep Unit and the close day through the work of the engine's operations: only a DAY_CLOSE and the sweep's own
steps change them (R128, R131). -/

namespace Sys2Proof.Machine

/-- The Sweep Unit, and the close day that its target is judged by. -/
def State.clock (s : State) : Sweep × Nat := (s.sweep, s.calendar.closeDay)

theorem State.clock_of_tables {s t : State} (h : t.tables = s.tables) : t.clock = s.clock :=
  congrArg (fun x : Tables => (x.sweep, x.calendar.closeDay)) h

theorem State.foldl_clock {α : Type} {f : State → α → State} (step : ∀ t a, (f t a).clock = t.clock) (xs : List α)
    (s : State) : (xs.foldl f s).clock = s.clock := by
  induction xs generalizing s with
  | nil => rfl
  | cons x xs ih => exact (ih _).trans (step s x)

variable (s : State)

/-! ## Writes, posts and faults -/

@[simp] theorem State.setPatron_clock (n : Nat) (r : PatronRec) : (s.setPatron n r).clock = s.clock := rfl
@[simp] theorem State.freePatron_clock (n : Nat) : (s.freePatron n).clock = s.clock := rfl
@[simp] theorem State.putPatrons_clock (t : Tbl PatronRec) : (s.putPatrons t).clock = s.clock := rfl
@[simp] theorem State.setLoan_clock (n : Nat) (r : LoanRec) : (s.setLoan n r).clock = s.clock := rfl
@[simp] theorem State.freeLoan_clock (n : Nat) : (s.freeLoan n).clock = s.clock := rfl
@[simp] theorem State.setTitle_clock (n : Nat) (r : TitleRec) : (s.setTitle n r).clock = s.clock := rfl
@[simp] theorem State.freeTitle_clock (n : Nat) : (s.freeTitle n).clock = s.clock := rfl
@[simp] theorem State.putTitles_clock (t : Tbl TitleRec) : (s.putTitles t).clock = s.clock := rfl
@[simp] theorem State.setPool_clock (n : Nat) (r : PoolRec) : (s.setPool n r).clock = s.clock := rfl
@[simp] theorem State.freePool_clock (n : Nat) : (s.freePool n).clock = s.clock := rfl
@[simp] theorem State.putPool_clock (t : Tbl PoolRec) : (s.putPool t).clock = s.clock := rfl
@[simp] theorem State.forgetEntry_clock (n : Nat) : (s.forgetEntry n).clock = s.clock := rfl
@[simp] theorem State.setTag_clock (n : Fin 32) (t : Tag) : (s.setTag n t).clock = s.clock := rfl
@[simp] theorem State.toLineEnd_clock (n : Nat) : (s.toLineEnd n).clock = s.clock := rfl
@[simp] theorem State.setLane_clock (l : Lane) (u : LaneUnit) : (s.setLane l u).clock = s.clock := rfl
@[simp] theorem State.mapOp_clock (f : Op → Op) : (s.mapOp f).clock = s.clock := rfl

@[simp] theorem State.mapPatron_clock (n : Nat) (f : Patron → Patron) : (s.mapPatron n f).clock = s.clock := by
  unfold State.mapPatron
  split <;> rfl

@[simp] theorem State.mapTitle_clock (n : Nat) (f : Title → Title) : (s.mapTitle n f).clock = s.clock := by
  unfold State.mapTitle
  split <;> rfl

@[simp] theorem State.retireTag_clock (n : Nat) : (s.retireTag n).clock = s.clock := by
  unfold State.retireTag
  split <;> rfl

@[simp] theorem State.allocateTag_clock (n : Fin 32) (kind : TagKind) (subject reserve : Nat) (o : Option Origin)
    (k : Option Parked) : (s.allocateTag n kind subject reserve o k).clock = s.clock := rfl

@[simp] theorem State.touchDay_clock (n : Nat) : (s.touchDay n).clock = s.clock := by
  unfold State.touchDay
  split <;> rfl

@[simp] theorem State.post_clock (n : Notice) : (s.post n).clock = s.clock := State.clock_of_tables (s.post_tables n)

@[simp] theorem State.postBalance_clock (n : Nat) : (s.postBalance n).clock = s.clock :=
  State.clock_of_tables (s.postBalance_tables n)

@[simp] theorem State.logFault_clock (c : FaultClass) (src : Source) (ctx : Context) :
    (s.logFault c src ctx).clock = s.clock := State.clock_of_tables (s.logFault_tables c src ctx)

@[simp] theorem State.hand_clock (o : Option Origin) (n : StationNotice) : (s.hand o n).clock = s.clock := by
  cases o <;> rfl

/-! ## Checked reads (R185, R186) -/

@[simp] theorem State.check_clock (r : RecordId) : (s.check r).2.clock = s.clock := by
  unfold State.check
  dsimp only
  split
  · rfl
  · exact State.logFault_clock _ _ _ _
  · rfl

@[simp] theorem State.logDamage_clock (r : RecordId) : (s.logDamage r).clock = s.clock := by
  unfold State.logDamage State.logMemory
  split <;> simp

section Reader

variable {read : Reader} (reads : ∀ r t, (read r t).clock = t.clock)
include reads

theorem State.scanBy_clock (t : Table) : (State.scanBy read t s).clock = s.clock :=
  State.foldl_clock (fun _ _ => reads _ _) _ _

theorem State.recountBy_clock (n : Nat) : (State.recountBy read n s).clock = s.clock := by
  unfold State.recountBy
  split
  · exact (State.mapTitle_clock _ _ _).trans (State.foldl_clock (fun _ _ => reads _ _) _ _)
  · rfl

theorem State.markDamaged_clock (r : RecordId) : (State.markDamaged read r s).clock = s.clock := by
  unfold State.markDamaged
  dsimp only
  repeat' split
  all_goals simp [State.scanBy_clock _ reads, State.recountBy_clock _ reads]

theorem State.recoverPlace_clock (r : RecordId) : (State.recoverPlace read r s).clock = s.clock := by
  have forgotten : (s.forgetId r).clock = s.clock := by
    unfold State.forgetId
    split <;> rfl
  have others (u : State) : (State.scanOthers read r u).clock = u.clock := by
    refine State.scanBy_clock u (fun q t => ?_) r.table
    split
    · rfl
    · exact reads q t
  unfold State.recoverPlace
  dsimp only
  repeat' split
  all_goals simp [State.scanBy_clock _ reads, others, forgotten]

theorem State.bothLost_clock (r p : RecordId) : (State.bothLost read r p s).clock = s.clock := by
  simp [State.bothLost, State.recoverPlace_clock _ reads]

theorem State.lost_clock (r : RecordId) : (State.lost read r s).clock = s.clock := by
  unfold State.lost State.placeLost State.recordLost
  dsimp only
  repeat' split
  all_goals simp [State.recoverPlace_clock _ reads, State.bothLost_clock _ reads, State.markDamaged_clock _ reads]

end Reader

@[simp] theorem State.readRecord_clock (r : RecordId) : (s.readRecord r).clock = s.clock := by
  unfold State.readRecord
  generalize s.upsets.length + 1 = fuel
  induction fuel generalizing r s with
  | zero => rfl
  | succ fuel ih =>
    unfold State.readBy
    dsimp only
    split
    · rfl
    · split
      · exact (State.lost_clock _ (fun r t => ih t r) r).trans (s.check_clock r)
      · exact s.check_clock r

@[simp] theorem State.readPatron_clock (n : Nat) : (s.readPatron n).clock = s.clock := s.readRecord_clock _
@[simp] theorem State.readLoan_clock (n : Nat) : (s.readLoan n).clock = s.clock := s.readRecord_clock _
@[simp] theorem State.readTitle_clock (n : Nat) : (s.readTitle n).clock = s.clock := s.readRecord_clock _
@[simp] theorem State.readPool_clock (n : Nat) : (s.readPool n).clock = s.clock := s.readRecord_clock _

@[simp] theorem State.readTag_clock (n : Nat) : (s.readTag n).clock = s.clock := by simp [State.readTag]

@[simp] theorem State.scanTable_clock (t : Table) : (s.scanTable t).clock = s.clock :=
  s.scanBy_clock (fun r u => u.readRecord_clock r) t

@[simp] theorem State.scanTags_clock : s.scanTags.clock = s.clock := by simp [State.scanTags]

@[simp] theorem State.searchFrom_clock (t : Table) (start : Nat) (found : State → Option Nat) :
    (s.searchFrom t start found).clock = s.clock := by
  refine State.foldl_clock (fun u n => ?_) _ _
  split <;> simp

@[simp] theorem State.searchPlaces_clock (t : Table) (found : State → Option Nat) :
    (s.searchPlaces t found).clock = s.clock := s.searchFrom_clock t 0 found

@[simp] theorem State.lookUpPatron_clock (id : Nat) : (s.lookUpPatron id).clock = s.clock := by
  unfold State.lookUpPatron
  dsimp only
  split <;> simp

@[simp] theorem State.lookUpCopy_clock (id : Nat) : (s.lookUpCopy id).clock = s.clock := by
  unfold State.lookUpCopy
  dsimp only
  split <;> simp

@[simp] theorem State.lookUpTitle_clock (id : Nat) : (s.lookUpTitle id).clock = s.clock := by
  unfold State.lookUpTitle
  dsimp only
  split <;> simp

@[simp] theorem State.readFreePatron_clock : s.readFreePatron.clock = s.clock := s.searchPlaces_clock _ _
@[simp] theorem State.readFreeLoan_clock : s.readFreeLoan.clock = s.clock := s.searchPlaces_clock _ _
@[simp] theorem State.readFreeTitle_clock : s.readFreeTitle.clock = s.clock := s.searchPlaces_clock _ _
@[simp] theorem State.readFreePool_clock : s.readFreePool.clock = s.clock := s.searchPlaces_clock _ _

@[simp] theorem State.readQueue_clock (q : List QueueItem) : (s.readQueue q).clock = s.clock :=
  State.foldl_clock (f := fun u (i : QueueItem) => u.readPool i.slot) (fun u i => u.readPool_clock i.slot) q s

@[simp] theorem State.readQueueOf_clock (n : Nat) : (s.readQueueOf n).clock = s.clock := by
  unfold State.readQueueOf
  split <;> simp

@[simp] theorem State.readQueueById_clock (title : Nat) : (s.readQueueById title).clock = s.clock := by
  unfold State.readQueueById
  split <;> simp

@[simp] theorem State.readTitleQueue_clock (title : Nat) : (s.readTitleQueue title).clock = s.clock := by
  simp [State.readTitleQueue]

@[simp] theorem State.readFreeTag_clock : s.readFreeTag.clock = s.clock := by
  have from_ (fuel : Nat) : ∀ start t, (State.readFreeTagFrom fuel start t).clock = t.clock := by
    induction fuel with
    | zero => exact fun _ _ => rfl
    | succ fuel ih =>
      intro start t
      unfold State.readFreeTagFrom
      dsimp only
      repeat' split
      all_goals simp [ih]
  exact from_ _ _ s

@[simp] theorem State.readForSlot_clock : s.readForSlot.clock = s.clock := by
  unfold State.readForSlot
  dsimp only
  repeat' split
  all_goals simp

@[simp] theorem State.readTagField_clock (x : TagField) : (s.readTagField x).clock = s.clock := by
  unfold State.readTagField
  split <;> simp

@[simp] theorem State.readTagId_clock (x : TagId) : (s.readTagId x).clock = s.clock := by
  unfold State.readTagId
  split <;> simp

@[simp] theorem State.listSearch_clock (n : Nat) : (s.listSearch n).clock = s.clock := by simp [State.listSearch]

/-! ## Serving a patron (R9, R16, R19) -/

@[simp] theorem State.evaluate_clock (n : Nat) : (s.evaluate n).1.clock = s.clock := by
  unfold State.evaluate State.logCeiling State.writeWalk
  dsimp only
  repeat' split
  all_goals simp

@[simp] theorem State.blockCompare_clock (n : Nat) : (s.blockCompare n).clock = s.clock := s.mapPatron_clock n _

@[simp] theorem State.catchUp_clock (n : Nat) : (s.catchUp n).clock = s.clock := by
  have evaluated (loans : List Nat) : (s.evaluateAll loans).clock = s.clock :=
    State.foldl_clock (fun u n => u.evaluate_clock n) loans s
  unfold State.catchUp
  dsimp only
  repeat' split
  all_goals simp [evaluated]

@[simp] theorem State.fetchOnMiss_clock (id : Nat) : (s.fetchOnMiss id).1.clock = s.clock := by
  unfold State.fetchOnMiss
  dsimp only
  repeat' split
  all_goals simp

theorem State.servePatron_clock {body : Nat → Patron → State → Served} (keeps : ∀ n p u, (body n p u).1.clock = u.clock)
    (id width : Nat) (lost : Patron → Answer) : (s.servePatron id width lost body).1.clock = s.clock := by
  unfold State.servePatron
  dsimp only
  repeat' split
  all_goals simp [keeps]

theorem State.namePatron_clock {body : Nat → Patron → State → Confirmed} (keeps : ∀ n p u, (body n p u).1.clock = u.clock)
    (id : Nat) : (s.namePatron id body).1.clock = s.clock := by
  unfold State.namePatron
  dsimp only
  repeat' split
  all_goals simp [keeps]

@[simp] theorem State.takeOff_clock (slot amount : Nat) : (s.takeOff slot amount).clock = s.clock := by
  simp [State.takeOff]

end Sys2Proof.Machine
end

section
/-! PROOF. The work of the requests, the messages and the tag expiries leaves the Sweep Unit and the close day, but for a
DAY_CLOSE. -/

namespace Sys2Proof.Machine

variable (s : State)

/-! ## Hold queues -/

@[simp] theorem State.trap_clock (n title : Nat) (x : QueueItem × Hold) (copy ret : Option Nat) :
    (s.trap n title x copy ret).clock = s.clock := by simp [State.trap]

@[simp] theorem State.offerCopy_clock (n : Nat) (copy ret : Option Nat) : (s.offerCopy n copy ret).1.clock = s.clock := by
  unfold State.offerCopy State.shelve State.logCountClamp
  dsimp only
  repeat' split
  all_goals simp

@[simp] theorem State.trapFromShelf_clock (n title : Nat) (x : QueueItem × Hold) :
    (s.trapFromShelf n title x).clock = s.clock := by simp [State.trapFromShelf]

@[simp] theorem State.drainRead_clock (n : Nat) : (s.drainRead n).clock = s.clock := by
  have steps (k : Nat) : ∀ u, (State.drainSteps n k u).clock = u.clock := by
    induction k with
    | zero => exact fun _ => rfl
    | succ k ih =>
      intro u
      unfold State.drainSteps
      repeat' split
      all_goals simp [ih]
  unfold State.drainRead
  split
  · exact steps _ s
  · rfl

@[simp] theorem State.drain_clock (n : Nat) : (s.drain n).clock = s.clock := by simp [State.drain]

@[simp] theorem State.removeEntry_clock (n title : Nat) (i : QueueItem) (reason : HoldChange) :
    (s.removeEntry n title i reason).clock = s.clock := by
  have dropped (u : State) (patron : Nat) : (u.dropFromHolds patron title).clock = u.clock := by
    unfold State.dropFromHolds
    split <;> simp
  simp [State.removeEntry, dropped]

@[simp] theorem State.checkPatron_clock (p : Patron) (title : Nat) : (s.checkPatron p title).1.clock = s.clock := by
  have read : (p.loans.foldl State.readLoan s).clock = s.clock := State.foldl_clock State.readLoan_clock _ s
  unfold State.checkPatron
  dsimp only
  repeat' split
  all_goals simp [read]

@[simp] theorem State.placeOn_clock (pslot patron tslot branch : Nat) (until_ : Option Nat) :
    (s.placeOn pslot patron tslot branch until_).1.clock = s.clock := by
  have read : (s.readForEntry tslot).clock = s.clock := by
    unfold State.readForEntry
    dsimp only
    repeat' split
    all_goals simp
  have posted (u : State) (title position : Nat) (st : HoldState) :
      (u.postPlaced title patron branch position st).clock = u.clock := by
    unfold State.postPlaced
    dsimp only
    split <;> simp
  unfold State.placeOn State.makeEntry
  dsimp only
  repeat' split
  all_goals simp [read, posted]

@[simp] theorem State.nameEntry_clock (p : Patron) (title : Nat) : (s.nameEntry p title).1.clock = s.clock := by
  unfold State.nameEntry
  dsimp only
  repeat' split
  all_goals simp

@[simp] theorem State.cancelEntry_clock (e : NamedEntry) : (s.cancelEntry e).clock = s.clock := by
  unfold State.cancelEntry State.offerSetAside
  split <;> simp

@[simp] theorem State.changeEntry_clock (e : NamedEntry) (st : HoldState) : (s.changeEntry e st).clock = s.clock := by
  simp [State.changeEntry]

@[simp] theorem State.resumeEntry_clock (e : NamedEntry) : (s.resumeEntry e).clock = s.clock := by
  unfold State.resumeEntry
  dsimp only
  repeat' split
  all_goals simp

/-! ## Lane requests -/

@[simp] theorem State.renewOne_clock (pslot : Nat) (loans : List Nat) (n : Nat) :
    (s.renewOne pslot loans n).1.clock = s.clock := by
  have checked (u : State) (patron : Nat) (l : Loan) : (u.renewChecked patron n l).1.clock = u.clock := by
    unfold State.renewChecked State.renewTo
    dsimp only
    repeat' split
    all_goals simp
  unfold State.renewOne
  dsimp only
  repeat' split
  all_goals simp [checked]

theorem State.renewEach_clock (pslot : Nat) (loans ns : List Nat) : (State.renewEach pslot loans ns s).1.clock = s.clock := by
  induction ns generalizing s with
  | nil => rfl
  | cons n ns ih => exact (ih _).trans (s.renewOne_clock pslot loans n)

@[simp] theorem State.raiseParked_clock (o : Origin) : (s.raiseParked o).clock = s.clock := by
  unfold State.raiseParked
  dsimp only
  split <;> rfl

theorem State.parkPlacement_clock (o : Origin) (patron title branch : Nat) (until_ : Option Nat) :
    (s.parkPlacement o patron title branch until_).1.clock = s.clock := by
  unfold State.parkPlacement
  dsimp only
  repeat' split
  all_goals simp

theorem ReqCode.work_clock (code : ReqCode) (op : Op) : (code.work op s).1.clock = s.clock := by
  cases code with
  | account =>
    refine s.servePatron_clock (fun n p u => ?_) _ _ _
    exact (State.foldl_clock State.readTitleQueue_clock _ _).trans (State.foldl_clock State.readLoan_clock _ _)
  | renew =>
    refine s.servePatron_clock (fun n p u => ?_) _ _ _
    dsimp only
    split <;> simp
  | renewAll =>
    refine s.servePatron_clock (fun n p u => ?_) _ _ _
    dsimp only
    split
    · rfl
    · exact u.renewEach_clock _ _ _
  | placeHold =>
    refine s.servePatron_clock (fun n p u => ?_) _ _ _
    have checked := u.checkPatron_clock p (op.field 1)
    split <;> rename_i e <;> rw [e] at checked
    · exact checked
    · rename_i v
      have found := (v.lookUpTitle_clock (op.field 1)).trans checked
      dsimp only
      split
      · exact (State.parkPlacement_clock _ _ _ _ _ _).trans found
      · exact found
      · exact found
      · rename_i tslot _ _
        have placed := fun until_ => (State.placeOn_clock _ n p.id tslot (op.field 2) until_).trans found
        split <;> rename_i e <;> have placed := e ▸ placed _ <;> exact placed
  | cancelHold =>
    refine s.servePatron_clock (fun n p u => ?_) _ _ _
    have named := u.nameEntry_clock p (op.field 1)
    split <;> rename_i e <;> rw [e] at named
    · exact named
    · simpa using named
  | suspendHold =>
    refine s.servePatron_clock (fun n p u => ?_) _ _ _
    have named := u.nameEntry_clock p (op.field 1)
    split <;> rename_i e <;> rw [e] at named
    · exact named
    · unfold State.suspendEntry
      repeat' split
      all_goals simpa using named
  | resumeHold =>
    refine s.servePatron_clock (fun n p u => ?_) _ _ _
    have named := u.nameEntry_clock p (op.field 1)
    split <;> rename_i e <;> rw [e] at named
    · exact named
    · split
      all_goals simpa using named
  | payCash =>
    refine s.servePatron_clock (fun n p u => ?_) _ _ _
    repeat' split
    all_goals simp
  | payCard =>
    refine s.servePatron_clock (fun n p u => ?_) _ _ _
    dsimp only
    repeat' split
    all_goals simp [State.reserveCard]
  | detail => rfl
  | poll =>
    show (State.pollWork op s).1.clock = _
    unfold State.pollWork
    split <;> rfl

/-! ## LOAN_OPEN and RETURN -/

theorem State.loanOpenWork_clock (m : Message) : (State.loanOpenWork m s).1.clock = s.clock := by
  have slots (u : State) (p : Patron) (copy : Nat) (isRestore : Bool) :
      (u.loanSlot p copy isRestore).1.clock = u.clock := by
    unfold State.loanSlot
    dsimp only
    repeat' split
    all_goals simp
  have opened (u : State) (n pslot : Nat) (overwrites : Bool) (l : Loan) :
      (u.openLoan n pslot overwrites l).clock = u.clock := by
    unfold State.openLoan
    dsimp only
    split <;> simp
  have lowered (u : State) (n : Nat) (x : Title) : (u.lowerShelf n x).clock = u.clock := by
    unfold State.lowerShelf State.logCountClamp
    split <;> simp
  have out (u : State) (title : Nat) : (u.checkOut title).clock = u.clock := by
    unfold State.checkOut
    split
    · exact lowered u _ _
    · rfl
  have picked (u : State) (patron title copy : Nat) : (u.pickUp patron title copy).clock = u.clock := by
    unfold State.pickUp State.logMismatch
    dsimp only
    repeat' split
    all_goals simp [lowered]
  unfold State.loanOpenWork
  split
  · rename_i copy title patron cls due pickup restore
    split
    · refine s.namePatron_clock (fun n p u => ?_) _
      have found := (slots (u.lookUpCopy copy) p copy restore.isSome).trans (u.lookUpCopy_clock copy)
      dsimp only
      split <;> rename_i e <;> rw [e] at found
      · exact found
      · dsimp only
        split
        · exact (out _ _).trans ((State.lookUpTitle_clock _ _).trans ((opened _ _ _ _ _).trans found))
        · exact (picked _ _ _ _).trans ((State.lookUpTitle_clock _ _).trans ((opened _ _ _ _ _).trans found))
    · rfl
  · rfl

theorem State.endLoan_clock (copy : Nat) : (s.endLoan copy).1.clock = s.clock := by
  have owner (u : State) (n : Nat) : (u.readOwner n).clock = u.clock := by
    unfold State.readOwner
    repeat' split
    all_goals simp
  unfold State.endLoan State.endActive
  dsimp only
  repeat' split
  all_goals simp [owner]

theorem State.returnWork_clock (m : Message) : (State.returnWork m s).1.clock = s.clock := by
  have offered (u : State) (copy title branch : Nat) : (u.offerReturned copy title branch).1.clock = u.clock := by
    unfold State.offerReturned
    dsimp only
    split <;> simp
  unfold State.returnWork
  split
  · split
    · rfl
    · exact (offered _ _ _ _).trans (s.endLoan_clock _)
  · rfl

/-! ## PATRON_LOAD -/

@[simp] theorem State.newResident_clock (slot id category balance : Nat) :
    (s.newResident slot id category balance).1.clock = s.clock := by
  unfold State.newResident
  dsimp only
  split <;> simp

@[simp] theorem State.satisfyTag_clock (tag : TagId) : (s.satisfyTag tag).clock = s.clock := by
  unfold State.satisfyTag
  dsimp only
  repeat' split
  all_goals simp

@[simp] theorem State.restorePatron_clock (slot id category balance : Nat) :
    (s.restorePatron slot id category balance).1.clock = s.clock := by simp [State.restorePatron]

theorem State.loadPatron_clock (id found category balance : Nat) (isMatch : Bool) :
    (s.loadPatron id found category balance isMatch).1.clock = s.clock := by
  have caught (u : State) : (u.caughtUp id).clock = u.clock := by
    unfold State.caughtUp
    repeat' split
    all_goals simp
  have changed (u : State) (slot : Nat) : (u.changeCategory slot category).1.clock = u.clock := by
    unfold State.changeCategory
    dsimp only
    split <;> simp
  have present (u : State) : (u.patronFound id category balance).1.clock = u.clock := by
    unfold State.patronFound
    dsimp only
    repeat' split
    all_goals simp [changed]
  have absent (u : State) : (u.patronNotFound id isMatch).1.clock = u.clock := by
    unfold State.patronNotFound
    repeat' split
    all_goals simp
  unfold State.loadPatron
  dsimp only
  split <;> simp [present, absent, caught]

theorem State.patronLoadWork_clock (m : Message) : (State.patronLoadWork m s).1.clock = s.clock := by
  unfold State.patronLoadWork State.logStaleReply
  dsimp only
  repeat' split
  all_goals simp [State.loadPatron_clock, State.badMessage]

/-! ## TITLE_LOAD -/

@[simp] theorem State.restoreTitle_clock (n title shelf : Nat) : (s.restoreTitle n title shelf).clock = s.clock := by
  have owner (u : State) (i : QueueItem) : (u.checkOwner n title i).clock = u.clock := by
    unfold State.checkOwner
    dsimp only
    repeat' split
    all_goals simp
  have lists (u : State) (k : Nat) : (u.checkHoldList n title k).clock = u.clock := by
    unfold State.checkHoldList
    repeat' split
    all_goals simp
  have pools (u : State) : u.freeDamagedPool.clock = u.clock := by
    unfold State.freeDamagedPool
    split <;> simp
  simp [State.restoreTitle, pools, State.foldl_clock lists, State.foldl_clock owner]

@[simp] theorem State.titleFound_clock (title shelf : Nat) : (s.titleFound title shelf).1.clock = s.clock := by
  unfold State.titleFound State.newTitle
  dsimp only
  repeat' split
  all_goals simp

@[simp] theorem State.completeParked_clock (k : Parked) (title n : Nat) : (s.completeParked k title n).1.clock = s.clock := by
  unfold State.completeParked
  dsimp only
  split
  · simp
  · rename_i pslot _
    split
    · have touched := (State.touchDay_clock _ pslot).trans (s.lookUpPatron_clock k.patron)
      split
      · exact touched
      · rename_i p _
        have checked := (State.checkPatron_clock _ p title).trans touched
        split <;> rename_i e <;> rw [e] at checked
        · exact checked
        · have placed := (State.placeOn_clock _ pslot p.id n k.branch k.until_).trans checked
          split <;> rename_i e <;> rw [e] at placed <;> exact placed
    · simp
    · simp

@[simp] theorem State.handHoldResult_clock (q : Question) (number : Nat) (o : NoticeOutcome) :
    (s.handHoldResult q number o).clock = s.clock := by
  unfold State.handHoldResult
  split <;> simp

theorem State.loadTitle_clock (title found shelf : Nat) (qs : List (Question × Nat)) :
    (s.loadTitle title found shelf qs).1.clock = s.clock := by
  have notFound : (s.titleNotFound title).1.clock = s.clock := by
    unfold State.titleNotFound
    split <;> simp
  have completes (slot : Option Nat) (u : State) (q : Question × Nat) :
      (u.completeQuestion title slot q.1 q.2).clock = u.clock := by
    unfold State.completeQuestion
    split <;> simp
  unfold State.loadTitle
  split
  · exact (State.foldl_clock (fun u (q : Question × Nat) => u.handHoldResult_clock q.1 q.2 _) _ _).trans notFound
  · exact (State.foldl_clock (completes _) _ _).trans (s.titleFound_clock _ _)

theorem State.titleLoadWork_clock (m : Message) : (State.titleLoadWork m s).1.clock = s.clock := by
  have fetch (u : State) (title : Nat) : (u.readFetchTag title).clock = u.clock := by
    unfold State.readFetchTag
    split <;> simp
  unfold State.titleLoadWork State.logStaleReply
  dsimp only
  repeat' split
  all_goals simp [State.loadTitle_clock, State.badMessage, fetch]

/-! ## AUTH_RESULT and the other messages -/

@[simp] theorem State.handCardResult_clock (q : Question) (number amount : Nat) (o : NoticeOutcome) :
    (s.handCardResult q number amount o).clock = s.clock := s.hand_clock _ _

theorem State.authResultWork_clock (m : Message) : (State.authResultWork m s).1.clock = s.clock := by
  have applied (u : State) (slot : Nat) (q : Question) (number amount : Nat) (clamped : Bool) :
      (u.applyAuth slot q number amount clamped).1.clock = u.clock := by
    unfold State.applyAuth
    dsimp only
    split <;> simp
  have matched (u : State) (q : Question) (number amount : Nat) : (u.authMatched q number amount).1.clock = u.clock := by
    unfold State.authMatched State.authLost
    dsimp only
    repeat' split
    all_goals simp [applied]
  unfold State.authResultWork State.logStaleReply
  dsimp only
  repeat' split
  all_goals simp [matched, State.badMessage]

theorem State.calendarWork_clock (m : Message) : (State.calendarWork m s).1.clock = s.clock := by
  unfold State.calendarWork
  split
  · split
    · rfl
    · split
      · rfl
      · exact congrArg (Prod.mk s.sweep) (Calendar.setMarks_closeDay _ _ _)
  · rfl

theorem State.scheduleWork_clock (m : Message) : (State.scheduleWork m s).1.clock = s.clock := by
  unfold State.scheduleWork
  dsimp only
  repeat' split
  all_goals rfl

theorem State.waiveWork_clock (m : Message) : (State.waiveWork m s).1.clock = s.clock := by
  unfold State.waiveWork
  split
  · refine s.namePatron_clock (fun n p u => ?_) _
    dsimp only
    repeat' split
    all_goals simp
  · rfl

theorem State.holdPlaceWork_clock (m : Message) : (State.holdPlaceWork m s).1.clock = s.clock := by
  unfold State.holdPlaceWork
  split
  · rename_i patron title branch until_
    split
    · rfl
    · refine s.namePatron_clock (fun n p u => ?_) _
      have checked := u.checkPatron_clock p title
      split <;> rename_i e <;> rw [e] at checked
      · exact checked
      · rename_i v
        have found := (v.lookUpTitle_clock title).trans checked
        dsimp only
        split
        · exact found
        · exact found
        · exact found
        · rename_i tslot _ _
          have placed := (State.placeOn_clock _ n p.id tslot branch until_).trans found
          split <;> rename_i e <;> rw [e] at placed <;> exact placed
  · rfl

theorem State.holdCancelWork_clock (m : Message) : (State.holdCancelWork m s).1.clock = s.clock := by
  unfold State.holdCancelWork
  split
  · rename_i patron title
    refine s.namePatron_clock (fun n p u => ?_) _
    have named := u.nameEntry_clock p title
    split <;> rename_i e <;> rw [e] at named
    · exact named
    · exact (State.cancelEntry_clock _ _).trans named
  · rfl

theorem State.laneControlWork_clock {act : State → Lane → State × Status} (acts : ∀ u l, (act u l).1.clock = u.clock)
    (action : Nat) (m : Message) : (State.laneControlWork action act m s).1.clock = s.clock := by
  unfold State.laneControlWork
  split
  · split
    · exact acts _ _
    · rfl
  · rfl

theorem State.controlLane_clock (l : Lane) (u : LaneUnit) : (s.controlLane l u).clock = s.clock :=
  State.clock_of_tables ((State.announceByOp_tables _ l).trans rfl)

theorem State.enableLane_clock (l : Lane) : (s.enableLane l).1.clock = s.clock := by
  unfold State.enableLane
  dsimp only
  split <;> simp [State.controlLane_clock]

theorem State.disableLane_clock (l : Lane) : (s.disableLane l).1.clock = s.clock := by
  have answered (u : State) : (u.answerHeldCall l).clock = u.clock := State.clock_of_tables (u.answerHeldCall_tables l)
  unfold State.disableLane
  dsimp only
  repeat' split
  all_goals simp [State.controlLane_clock, answered]

theorem State.abortLane_clock (l : Lane) : (s.abortLane l).1.clock = s.clock := by
  unfold State.abortLane
  split <;> simp [State.controlLane_clock]

/-! ## TAG_EXPIRY -/

theorem State.expireQuestion_clock (q : Question) (tag : TagId) : (s.expireQuestion q tag).clock = s.clock := by
  unfold State.expireQuestion State.endPatronFetch State.endTitleFetch State.endCardAuth
  dsimp only
  repeat' split
  all_goals simp

theorem State.expireDamaged_clock (t : Tag) (n : Nat) : (s.expireDamaged t n).clock = s.clock := by
  have settles (u : State) (n : Nat) : (u.settlePending n).clock = u.clock := by
    unfold State.settlePending
    repeat' split
    all_goals simp
  have recounts (u : State) (l : Lane) : (u.recountParked l).clock = u.clock := by
    unfold State.recountParked
    dsimp only
    split <;> rfl
  simp [State.expireDamaged, State.freeFetchesOf, State.foldl_clock settles, State.foldl_clock recounts]

theorem State.expiryWork_clock (n : Nat) : (State.expiryWork n s).clock = s.clock := by
  unfold State.expiryWork
  dsimp only
  repeat' split
  all_goals simp [State.expireDamaged_clock, State.expireQuestion_clock]

end Sys2Proof.Machine
end

section
/-! PROOF. The Sweep Unit through its own steps and a DAY_CLOSE: its fields go on agreeing with its state (R128, R130 to R133,
R138 to R141). -/

namespace Sys2Proof.Machine

variable {s t : State}

/-- The Sweep Unit's fields agree with its state and the close day. -/
def State.sweepSound (s : State) : Prop := s.sweep.agrees s.calendar.closeDay

theorem State.sweepSound.of_clock (h : s.sweepSound) (clock : t.clock = s.clock) : t.sweepSound := by
  obtain ⟨sweep, day⟩ := Prod.mk.inj clock
  unfold State.sweepSound
  rwa [sweep, day]

/-- From s to t only the current summary has changed, of the Sweep Unit. -/
def SameRun (s t : State) : Prop := ∃ m, t.clock = ({ s.sweep with current := m }, s.calendar.closeDay)

theorem SameRun.of_clock (clock : t.clock = s.clock) : SameRun s t := ⟨s.sweep.current, clock⟩

theorem SameRun.trans {u : State} (h : SameRun s t) (h' : SameRun t u) : SameRun s u := by
  obtain ⟨m, clock⟩ := h
  obtain ⟨m', clock'⟩ := h'
  obtain ⟨sweep, day⟩ := Prod.mk.inj clock
  exact ⟨m', by rw [clock', sweep, day]⟩

theorem SameRun.mapCurrent (h : SameRun s t) (f : Summary → Summary) : SameRun s (t.mapCurrent f) := h.trans ⟨_, rfl⟩

theorem SameRun.cursorMoved (h : SameRun s t) (n : Nat) : ∃ m,
    (t.setSweep { t.sweep with cursor := n }).clock = ({ s.sweep with cursor := n, current := m }, s.calendar.closeDay) := by
  obtain ⟨m, clock⟩ := h
  obtain ⟨sweep, day⟩ := Prod.mk.inj clock
  exact ⟨m, congrArg₂ (fun (w : Sweep) (d : Nat) => ({ w with cursor := n }, d)) sweep day⟩

/-! ## LOANS_STEP (R132, R133) -/

theorem State.nextLoan_clock (ns : List Nat) (s : State) : (State.nextLoan ns s).1.clock = s.clock := by
  induction ns generalizing s with
  | nil => rfl
  | cons n ns ih =>
    unfold State.nextLoan
    dsimp only
    split
    · simp
    · rw [ih]
      split <;> simp
    · simp [ih]

/-- A LOANS step ends the phase, or moves the cursor and counts. -/
theorem State.loansStepWork_clock (s : State) :
    s.loansStepWork.clock = (s.sweep.toHolds, s.calendar.closeDay) ∨
      ∃ n m, s.loansStepWork.clock = ({ s.sweep with cursor := n, current := m }, s.calendar.closeDay) := by
  have next := State.nextLoan_clock (s.slotsFrom .copyIndex (s.loans.map Prod.fst) s.sweep.cursor) s
  unfold State.loansStepWork
  split <;> rename_i e <;> rw [e] at next
  · obtain ⟨sweep, day⟩ := Prod.mk.inj next
    left
    rw [← sweep, ← day]
    rfl
  · rename_i u n
    have reported (v : State) (f : Figures) : (v.reportCharge n f).clock = v.clock := by
      unfold State.reportCharge
      repeat' split
      all_goals simp
    have run : SameRun s (((u.evaluate n).1.reportCharge n (u.evaluate n).2).mapCurrent fun m => m.addLoan (u.evaluate n).2) :=
      (SameRun.of_clock ((reported _ _).trans ((u.evaluate_clock n).trans next))).mapCurrent _
    right
    exact ⟨n + 1, run.cursorMoved (n + 1)⟩

theorem State.sweepSound.loansStepWork (h : s.sweepSound) (loans : s.sweep.state = .loans) : s.loansStepWork.sweepSound := by
  unfold State.sweepSound Sweep.agrees at h
  simp only [loans] at h
  rcases s.loansStepWork_clock with clock | ⟨n, m, clock⟩ <;> obtain ⟨sweep, day⟩ := Prod.mk.inj clock <;>
    unfold State.sweepSound Sweep.agrees <;> rw [sweep, day]
  · exact ⟨.inl rfl, rfl, h.2.2⟩
  · simpa only [loans] using h

/-! ## HOLDS_STEP (R134 to R140) -/

theorem State.nextTitle_clock (ns : List Nat) (s : State) : (State.nextTitle ns s).1.clock = s.clock := by
  induction ns generalizing s with
  | nil => rfl
  | cons n ns ih =>
    unfold State.nextTitle
    dsimp only
    repeat' split
    all_goals simp [ih]

theorem State.makeChange_sameRun (s : State) (n title : Nat) (c : Change) : SameRun s (s.makeChange n title c) := by
  unfold State.makeChange
  cases c with
  | resume i h => exact (SameRun.of_clock (s.resumeEntry_clock _)).mapCurrent _
  | expire i h =>
    have offered (u : State) : (u.offerSetAside n h).clock = u.clock := by
      unfold State.offerSetAside
      split <;> simp
    exact (SameRun.of_clock ((offered _).trans (s.removeEntry_clock n title i .expired))).mapCurrent _
  | remove i => exact .of_clock (s.removeEntry_clock n title i .lost)

theorem State.makeChanges_sameRun (n k : Nat) (s : State) : SameRun s (State.makeChanges n k s) := by
  induction k generalizing s with
  | zero => exact .of_clock rfl
  | succ k ih =>
    have read : SameRun s (s.readQueueOf n) := .of_clock (s.readQueueOf_clock n)
    unfold State.makeChanges
    dsimp only
    split
    · exact read
    · split
      · exact read
      · exact (read.trans (State.makeChange_sameRun _ n _ _)).trans (ih _)

/-- The phases of HOLDS. -/
def SweepPhase.ofHolds (p : SweepPhase) : Prop := p = .nextTitle ∨ p = .resuming ∨ p = .expiring ∨ p = .removing

theorem Change.phase_ofHolds (c : Change) : c.phase.ofHolds := by
  cases c <;> simp [Change.phase, SweepPhase.ofHolds]

/-- A move of the cursor in HOLDS. -/
theorem State.sweepSound.moved {m : State} (h : s.sweepSound) (holds : s.sweep.state = .holds) (run : SameRun s m) (n : Nat)
    {phase : SweepPhase} (of : phase.ofHolds) (t : State)
    (clock : t.clock = ({ m.sweep with cursor := n, phase := phase }, m.calendar.closeDay)) : t.sweepSound := by
  obtain ⟨current, run⟩ := run
  obtain ⟨sweep, day⟩ := Prod.mk.inj run
  rw [sweep, day] at clock
  obtain ⟨sweep, day⟩ := Prod.mk.inj clock
  unfold State.sweepSound Sweep.agrees at h ⊢
  rw [sweep, day]
  simp only [holds] at h ⊢
  obtain ⟨-, clear, target⟩ := h
  exact ⟨of, clear, target⟩

theorem State.sweepSound.workTitle (h : s.sweepSound) (holds : s.sweep.state = .holds) (n : Nat) :
    (s.workTitle n).sweepSound := by
  have changed : SameRun s ((State.makeChanges n 4 s).readQueueOf n) :=
    (State.makeChanges_sameRun n 4 s).trans (.of_clock (State.readQueueOf_clock _ n))
  unfold State.workTitle
  dsimp only
  generalize (State.makeChanges n 4 s).readQueueOf n = u at changed ⊢
  split
  · exact h.moved holds changed (n + 1) (.inl rfl) _ rfl
  · rename_i x _
    split
    · rename_i c _
      exact h.moved holds changed n c.phase_ofHolds _ rfl
    · have read : SameRun s (if x.queue.isEmpty then u.scanTags else u) := changed.trans (.of_clock (by split <;> simp))
      unfold State.finishTitle
      dsimp only
      generalize (if x.queue.isEmpty then u.scanTags else u) = v at read ⊢
      refine h.moved holds (read.trans (u := if v.mayRelease x then _ else v) ?_) (n + 1) (.inl rfl) _ rfl
      split
      · exact SameRun.mapCurrent (.of_clock (v.freeTitle_clock n)) _
      · exact .of_clock rfl

theorem State.closeSweep_sweepSound (s : State) : s.closeSweep.sweepSound := ⟨rfl, rfl, rfl, rfl⟩

theorem State.sweepSound.holdsStepWork (h : s.sweepSound) (holds : s.sweep.state = .holds) : s.holdsStepWork.sweepSound := by
  have next := State.nextTitle_clock (s.slotsFrom .titleIndex (s.titles.map Prod.fst) s.sweep.cursor) s
  unfold State.holdsStepWork
  split <;> rename_i e <;> rw [e] at next
  · exact State.closeSweep_sweepSound _
  · refine (h.of_clock next).workTitle ?_ _
    rwa [(Prod.mk.inj next).1]

/-! ## DAY_CLOSE (R130, R141) -/

theorem Sweep.close_agrees (w : Sweep) (day : Nat) : (w.close day).agrees day := by
  unfold Sweep.close
  split <;> exact ⟨rfl, rfl, rfl⟩

theorem State.sweepSound.dayCloseWork (h : s.sweepSound) (m : Message) : (State.dayCloseWork m s).1.sweepSound := by
  unfold State.dayCloseWork
  split
  · dsimp only
    split
    · exact h
    · exact s.sweep.close_agrees _
  · exact h

end Sys2Proof.Machine
end

section
/-! PROOF. Every step keeps the Sweep Unit's fields in agreement (R128, R143), and a granted sweep step of the kind that the
sweep owes (R131). -/

namespace Sys2Proof.Machine

variable {s t : State}

/-- Posts, faults and station states leave a free engine free. -/
theorem Works.free (works : Works Adjusts s t) (free : s.engine = .free) : t.engine = .free := by
  have posts {u v : State} (h : OnlyPosts u v) (free : u.engine = .free) : v.engine = .free := by
    obtain ⟨q, f, g, rfl, -⟩ := h
    simp [State.setOutbound, free, Engine.mapOp]
  induction works with
  | refl => exact free
  | tables _ only ih => exact (congrArg State.engine only :).trans ih
  | post _ n ih => exact posts (State.post_onlyPosts _ n) ih
  | postIfRoom _ n ih => exact posts (State.postIfRoom_onlyPosts _ n) ih
  | logFault _ c src ctx ih => exact posts (State.logFault_onlyPosts _ c src ctx) ih
  | trapped _ ih => exact posts (State.trapped_onlyPosts _) ih
  | extra _ step ih =>
    cases step with
    | lanes same => exact same.engine.trans ih
    | answer a => simp [ih, Engine.mapOp]
    | hand o n => cases o <;> simp [State.hand, ih, Engine.mapOp]
    | faults f => exact ih

theorem State.sweepAgrees.congr (h : s.sweepAgrees) (engine : t.engine = s.engine) (clock : t.clock = s.clock) :
    t.sweepAgrees := by
  obtain ⟨sweep, -⟩ := Prod.mk.inj clock
  obtain ⟨sound, owes⟩ := h
  refine ⟨State.sweepSound.of_clock sound clock, ?_⟩
  rwa [engine, sweep]

theorem State.sweepAgrees.of_tables (h : s.sweepAgrees) (engine : t.engine = s.engine) (tables : t.tables = s.tables) :
    t.sweepAgrees := h.congr engine (State.clock_of_tables tables)

/-- With no operation to be performed, the sweep owes what it says. -/
theorem State.sweepSound.agrees (h : s.sweepSound) (idle : ∀ op, s.engine ≠ .busy op) : s.sweepAgrees := by
  refine ⟨h, ?_⟩
  unfold Engine.owes
  split
  · rename_i op busy
    exact absurd busy (idle op)
  · trivial

/-! ## Grants and completions -/

/-- A position presents a sweep step only when the sweep owes one of that kind (R131). -/
theorem State.requestAt_owes {p : Nat} {k : OpKind} (request : s.requestAt p = some k) :
    (k = .loansStep → s.sweep.state = .loans) ∧ (k = .holdsStep → s.sweep.state = .holds) := by
  have lane (u : LaneUnit) : u.request ≠ some .loansStep ∧ u.request ≠ some .holdsStep := by
    unfold LaneUnit.request
    repeat' split
    all_goals exact ⟨nofun, nofun⟩
  have link : s.link.request ≠ some .loansStep ∧ s.link.request ≠ some .holdsStep := by
    unfold Link.request
    repeat' split
    all_goals exact ⟨nofun, nofun⟩
  have line : s.tagLine.head?.map OpKind.tagExpiry ≠ some .loansStep ∧
      s.tagLine.head?.map OpKind.tagExpiry ≠ some .holdsStep := by
    cases s.tagLine.head? <;> exact ⟨nofun, nofun⟩
  have other {o : Option OpKind} (h : o ≠ some .loansStep ∧ o ≠ some .holdsStep) (request : o = some k) :
      (k = .loansStep → s.sweep.state = .loans) ∧ (k = .holdsStep → s.sweep.state = .holds) :=
    ⟨fun e => absurd (e ▸ request) h.1, fun e => absurd (e ▸ request) h.2⟩
  unfold State.requestAt at request
  split at request
  · exact other (lane _) request
  · split at request
    · exact other link request
    · split at request
      · unfold Sweep.request at request
        split at request <;> rename_i owed <;> cases request
        · exact ⟨fun _ => owed, nofun⟩
        · exact ⟨nofun, fun _ => owed⟩
      · split at request
        · exact other line request
        · cases request

theorem State.sweepAgrees.grant (h : s.sweepAgrees) {p : Nat} {k : OpKind} (request : s.requestAt p = some k) :
    (s.grant p k).sweepAgrees := by
  have clock : (s.grant p k).clock = s.clock := State.clock_of_tables (s.grant_tables p k)
  refine ⟨State.sweepSound.of_clock h.1 clock, ?_⟩
  rw [(Prod.mk.inj clock).1]
  exact State.requestAt_owes request

theorem State.sweepAgrees.searchOver (h : s.sweepAgrees) (ps : List Nat) : (s.searchOver ps).sweepAgrees := by
  induction ps generalizing s with
  | nil => exact h
  | cons p ps ih =>
    unfold State.searchOver
    split
    · exact ih h
    · rename_i request
      split
      · exact h.grant request
      · split
        · exact ih (h.of_tables ((SameButLanes.refl s).serviceLimited p).engine (s.serviceLimited_tables p))
        · exact ih h

theorem State.sweepAgrees.search (h : s.sweepAgrees) : s.search.sweepAgrees := by
  unfold State.search
  split
  · exact h.searchOver _
  · exact h

theorem State.sweepAgrees.claimAll (h : s.sweepAgrees) (cs : List Claim) : (s.claimAll cs).sweepAgrees :=
  h.of_tables (s.claimAll_engine cs).1 (s.claimAll_tables cs)

/-- A completion leaves no operation to be performed but one that its search grants. -/
theorem State.sweepSound.complete (h : s.sweepSound) (cs : List Claim) : (s.complete cs).sweepAgrees := by
  unfold State.complete
  split
  · rename_i op _
    split
    · have left : (s.atCompletion op).tables = s.tables := by
        unfold State.atCompletion
        split
        · exact s.leaveQueue_tables op
        · exact (((SameButLanes.refl _).routeAnswer op).handNotices op.handed).tables.trans (s.leaveQueue_tables op)
      have free : (s.atCompletion op).sweepAgrees :=
        (h.of_clock (State.clock_of_tables left)).agrees (by simp [s.atCompletion_engine op])
      rw [State.finishOp_eq]
      split
      · exact free
      · exact (free.claimAll cs).search
    · exact State.sweepSound.agrees (s := { s with engine := .waitingRoom op }) h (by simp)
  · rename_i other
    exact h.agrees other

/-! ## The rows of the operations -/

/-- A row performs, of the operations that `mine` recognises, a work that keeps the Sweep Unit sound. -/
def KeepsSweep (row : Crossing → Instr) : Prop :=
  ∃ mine work, (∀ op u, mine op.kind = true → u.sweepSound → Engine.owes (.busy op) u.sweep → (work op u).sweepSound) ∧
    ∀ x s, exec (row x) s = State.command (State.perform mine work x) s

theorem KeepsSweep.message {row : Crossing → Instr} {mine : OpKind → Bool} {work : Message → State → Confirmed}
    (works : ∀ m u, u.sweepSound → (work m u).1.sweepSound) (e : ∀ x s, exec (row x) s = State.message mine work x s) :
    KeepsSweep row := by
  refine ⟨mine, _, fun op u _ h _ => ?_, e⟩
  split
  · exact (works _ u h).of_clock (State.post_clock _ _)
  · exact h

/-- A message that leaves the Sweep Unit and the close day. -/
theorem KeepsSweep.same {row : Crossing → Instr} {mine : OpKind → Bool} {work : Message → State → Confirmed}
    (works : ∀ m u, (work m u).1.clock = u.clock) (e : ∀ x s, exec (row x) s = State.message mine work x s) :
    KeepsSweep row := .message (fun m u h => h.of_clock (works m u)) e

theorem Message.keepsSweep (m : Message) : KeepsSweep m.command := by
  cases m with
  | loanOpen => exact .same (fun m u => u.loanOpenWork_clock m) fun _ _ => rfl
  | returnCopy => exact .same (fun m u => u.returnWork_clock m) fun _ _ => rfl
  | patronLoad => exact .same (fun m u => u.patronLoadWork_clock m) fun _ _ => rfl
  | titleLoad => exact .same (fun m u => u.titleLoadWork_clock m) fun _ _ => rfl
  | authResult => exact .same (fun m u => u.authResultWork_clock m) fun _ _ => rfl
  | dayClose => exact .message (fun m _ h => h.dayCloseWork m) fun _ _ => rfl
  | calendar => exact .same (fun m u => u.calendarWork_clock m) fun _ _ => rfl
  | schedule => exact .same (fun m u => u.scheduleWork_clock m) fun _ _ => rfl
  | waive => exact .same (fun m u => u.waiveWork_clock m) fun _ _ => rfl
  | holdPlace => exact .same (fun m u => u.holdPlaceWork_clock m) fun _ _ => rfl
  | holdCancel => exact .same (fun m u => u.holdCancelWork_clock m) fun _ _ => rfl
  | laneControl lane action =>
    match action with
    | 0 => exact .same (fun m u => u.laneControlWork_clock State.enableLane_clock 0 m) fun _ _ => rfl
    | 1 => exact .same (fun m u => u.laneControlWork_clock State.disableLane_clock 1 m) fun _ _ => rfl
    | _ + 2 => exact .same (fun m u => u.laneControlWork_clock State.abortLane_clock 2 m) fun _ _ => rfl
  | statusRead => exact .same (fun _ u => u.scanTable_clock _) fun _ _ => rfl
  | faultRead => exact .same (fun _ _ => rfl) fun _ _ => rfl
  | faultClear => exact .same (fun _ _ => rfl) fun _ _ => rfl
  | restart => exact .same (fun _ _ => rfl) fun _ _ => rfl

theorem OpKind.keepsSweep (k : OpKind) : KeepsSweep k.command := by
  cases k with
  | request code fields =>
    exact ⟨_, fun op s => State.answer (code.work op s),
      fun op u _ h _ => h.of_clock ((State.mapOp_clock _ _).trans (code.work_clock u op)), code.exec_command⟩
  | message kind m => exact m.keepsSweep
  | loansStep =>
    exact ⟨_, _, fun _ _ mine h owes => h.loansStepWork (owes.1 (of_decide_eq_true mine)), fun _ _ => rfl⟩
  | holdsStep =>
    exact ⟨_, _, fun _ _ mine h owes => h.holdsStepWork (owes.2 (of_decide_eq_true mine)), fun _ _ => rfl⟩
  | tagExpiry n =>
    refine ⟨_, _, fun op u _ h _ => ?_, fun _ _ => rfl⟩
    split
    · exact h.of_clock (u.expiryWork_clock _)
    · exact h

namespace State.sweepAgrees

/-! ## Warm reset and the frame of a command -/

theorem warmReset (h : s.sweepAgrees) : s.warmReset.sweepAgrees := by
  refine State.sweepAgrees.search (State.sweepSound.agrees ?_ (by simp))
  show s.sweep.warmReset.agrees s.calendar.closeDay
  obtain ⟨sound, -⟩ := h
  unfold Sweep.warmReset
  split
  · exact sound
  · have target : s.sweep.target = s.calendar.closeDay := by
      unfold Sweep.agrees at sound
      split at sound
      · contradiction
      · exact sound.2.2
      · exact sound.2.2
    exact ⟨rfl, rfl, target⟩

theorem command {f : State → State} (keeps : ∀ u, u.sweepAgrees → (f u).sweepAgrees) (h : s.sweepAgrees)
    (e : State.command f s = .next t) : t.sweepAgrees := by
  cases e
  have start : s.takeDueReset.sweepAgrees := by
    unfold State.takeDueReset
    split
    · exact h.warmReset
    · exact h
  exact (keeps _ start).congr rfl rfl

theorem operation (h : s.sweepAgrees) (k : OpKind) (x : Crossing) (e : exec (k.command x) s = .next t) : t.sweepAgrees := by
  obtain ⟨mine, work, works, exec_eq⟩ := k.keepsSweep
  rw [exec_eq] at e
  refine command (fun u h => ?_) h e
  unfold State.perform
  split
  · rename_i op busy
    split
    · rename_i isMine
      obtain ⟨sound, owes⟩ := h
      rw [busy] at owes
      exact (works op { u with upsets := u.upsets ++ x.flips } isMine sound owes).complete _
    · exact h
  · exact h

theorem lineWorks (h : s.sweepAgrees) (works : LineWorks s t) : t.sweepAgrees := by
  refine h.of_tables ?_ works.tables
  induction works with
  | refl => rfl
  | lanes _ only ih => exact only.engine.trans ih
  | logFault _ c src ctx ih => exact (State.logFault_onlyLogs _ c src ctx).engine.trans ih
  | announce _ l ih => exact (State.announce_engine _ l).1.trans ih

theorem ofLane (h : s.sweepAgrees) {i : Instr} (ofLane : Instr.ofLane i = true) (e : exec i s = .next t) : t.sweepAgrees := by
  obtain ⟨f, works, exec_eq | exec_eq⟩ := Instr.ofLane.works ofLane <;> rw [exec_eq] at e
  · exact command (fun u h => h.lineWorks (works u)) h e
  · exact command (fun u h => (h.lineWorks (works u)).search) h e

/-! ## The other commands -/

theorem claim (h : s.sweepAgrees) (c : Claim) : (s.claim c).sweepAgrees := h.of_tables (s.claim_engine c).1 (s.claim_tables c)

theorem assertReset (h : s.sweepAgrees) : s.assertReset.sweepAgrees := by
  unfold State.assertReset
  split
  · rename_i op busy
    obtain ⟨sound, owes⟩ := h
    rw [busy] at owes
    exact ⟨sound, owes⟩
  · exact h

theorem takeFrame (h : s.sweepAgrees) (kind : Byte) (payload : List Byte) (check : BitVec 16) :
    (s.takeFrame kind payload check).sweepAgrees := by
  refine h.of_tables ?_ (s.takeFrame_tables kind payload check)
  have logged (u : State) (c : FaultClass) (seq : Nat) : (u.logFrame c seq).engine = u.engine :=
    (u.logFault_onlyLogs _ _ _).engine
  unfold State.takeFrame
  dsimp only
  split
  · exact logged s.countFrame _ _
  · split
    · split <;> rfl
    · exact logged _ _ _

theorem postWaiting (h : s.sweepAgrees) (cs : List Claim) : (s.postWaiting cs).sweepAgrees := by
  unfold State.postWaiting
  split
  · split
    · split
      · rename_i u placed
        have sound : u.sweepSound := State.sweepSound.of_clock h.1 (State.clock_of_tables (State.placeWaiting_tables placed))
        have held (e : Engine) : ({ u with engine := e } : State).sweepSound := sound
        dsimp only
        split
        · exact (held _).complete cs
        · exact (held _).agrees (by simp)
      · exact h
    · exact h
  · exact h

theorem passDeadlines (h : s.sweepAgrees) (ns : List (Fin 32)) : (ns.foldl State.passDeadline s).sweepAgrees := by
  induction ns generalizing s with
  | nil => exact h
  | cons n ns ih =>
    refine ih ?_
    unfold State.passDeadline
    dsimp only
    split
    · exact h.congr rfl rfl
    · exact h

theorem scrubRead (h : s.sweepAgrees) (flips : List Flip) : (s.scrubRead flips).sweepAgrees := by
  have clock (u : State) (r : RecordId) : (u.scrubOne r).clock = u.clock := by
    unfold State.scrubOne
    split <;> simp
  have works (u : State) (r : RecordId) : Works Adjusts u (u.scrubOne r) := by
    unfold State.scrubOne
    split
    · exact (Works.refl.readRecord _).readRecord _
    · exact Works.refl.readRecord _
  unfold State.scrubRead
  split
  · rename_i isFree
    have free : s.engine = .free := by cases e : s.engine <;> simp_all [Engine.isFree]
    refine State.sweepAgrees.search (State.sweepSound.agrees
      (State.sweepSound.of_clock h.1 (clock { s with upsets := s.upsets ++ flips } _)) fun op busy => ?_)
    cases ((works { s with upsets := s.upsets ++ flips } _).free free).symm.trans busy
  · exact h

theorem linkUp (h : s.sweepAgrees) (e : execLinkUp s = .next t) : t.sweepAgrees := by
  unfold execLinkUp at e
  refine command (fun u h => ?_) h e
  have raised : ({ u with link := { u.link with up := true } } : State).sweepAgrees := h.of_tables rfl rfl
  split
  · exact h
  · exact raised.search

theorem linkDown (h : s.sweepAgrees) (e : execLinkDown s = .next t) : t.sweepAgrees := by
  unfold execLinkDown at e
  refine command (fun u h => ?_) h e
  have dropped : u.dropLine.sweepAgrees := h.of_tables rfl rfl
  split
  · exact dropped.search
  · exact h

theorem inboundFrame (h : s.sweepAgrees) {kind : Byte} {payload : List Byte} {check : BitVec 16}
    (e : execInboundFrame kind payload check s = .next t) : t.sweepAgrees := by
  unfold execInboundFrame at e
  refine command (fun u h => ?_) h e
  split
  · exact (h.takeFrame _ _ _).search
  · exact h

theorem entrySent (h : s.sweepAgrees) {cs : List Claim} (e : execEntrySent cs s = .next t) : t.sweepAgrees := by
  unfold execEntrySent at e
  refine command (fun u h => ?_) h e
  split
  · rename_i n rest _
    have out : (u.entryOut n rest).sweepAgrees := h.of_tables rfl rfl
    split
    · exact (out.claimAll cs).search
    · exact h
  · exact h

theorem confirmMarker (h : s.sweepAgrees) : s.confirmMarker.sweepAgrees := by
  unfold State.confirmMarker
  repeat' split
  all_goals exact h.of_tables rfl rfl

/-- Every command keeps the Sweep Unit's fields in agreement. -/
theorem exec (h : s.sweepAgrees) (c : Instr) (e : exec c s = .next t) : t.sweepAgrees := by
  cases c with
  | powerOn =>
    cases e
    obtain ⟨-, -, reset, -⟩ := resetMeetsTheInvariants
    exact State.sweepAgrees.congr (s := State.reset) reset rfl rfl
  | resetLineAsserted => exact command (fun _ h => h.assertReset) h e
  | warmReset => exact command (fun _ h => h) h e
  | linkUp => exact h.linkUp e
  | linkDown => exact h.linkDown e
  | inboundFrame kind payload check => exact h.inboundFrame e
  | markerConfirm => exact command (fun _ h => h.confirmMarker.search) h e
  | overrunConfirm => exact command (fun _ h => (h.claim .overrun).search) h e
  | sideListMove => exact command (fun _ h => (h.claim .sideList).search) h e
  | entrySent cs => exact h.entrySent e
  | owedFaultPost => exact command (fun _ h => h.claim .fault) h e
  | owedLaneStatePost l => exact command (fun _ h => h.claim (.laneState l)) h e
  | waitingRoomPost cs => exact command (fun _ h => h.postWaiting cs) h e
  | account x => exact h.operation (.request .account []) x e
  | renew x => exact h.operation (.request .renew []) x e
  | renewAll x => exact h.operation (.request .renewAll []) x e
  | placeHold x => exact h.operation (.request .placeHold []) x e
  | cancelHold x => exact h.operation (.request .cancelHold []) x e
  | suspendHold x => exact h.operation (.request .suspendHold []) x e
  | resumeHold x => exact h.operation (.request .resumeHold []) x e
  | payCash x => exact h.operation (.request .payCash []) x e
  | payCard x => exact h.operation (.request .payCard []) x e
  | detail x => exact h.operation (.request .detail []) x e
  | poll x => exact h.operation (.request .poll []) x e
  | loanOpen x => exact h.operation (.message 1 (.loanOpen 0 0 0 0 0 0 none)) x e
  | returnCopy x => exact h.operation (.message 2 (.returnCopy 0 0 0)) x e
  | patronLoad x => exact h.operation (.message 3 (.patronLoad ⟨false, 0, 0⟩ 0 0 0 0)) x e
  | titleLoad x => exact h.operation (.message 4 (.titleLoad ⟨false, 0, 0⟩ 0 0 0)) x e
  | authResult x => exact h.operation (.message 5 (.authResult ⟨false, 0, 0⟩ 0)) x e
  | dayClose x => exact h.operation (.message 6 (.dayClose 0)) x e
  | calendar x => exact h.operation (.message 7 (.calendar 0 0 [])) x e
  | schedule x => exact h.operation (.message 8 (.schedule 0 0 [])) x e
  | waive x => exact h.operation (.message 9 (.waive 0 0)) x e
  | holdPlace x => exact h.operation (.message 10 (.holdPlace 0 0 0 none)) x e
  | holdCancel x => exact h.operation (.message 11 (.holdCancel 0 0)) x e
  | laneControlEnable x => exact h.operation (.message 12 (.laneControl 0 0)) x e
  | laneControlDisable x => exact h.operation (.message 12 (.laneControl 0 1)) x e
  | laneControlAbort x => exact h.operation (.message 12 (.laneControl 0 2)) x e
  | statusRead x => exact h.operation (.message 13 .statusRead) x e
  | faultRead x => exact h.operation (.message 14 .faultRead) x e
  | faultClear x => exact h.operation (.message 15 .faultClear) x e
  | restart x => exact h.operation (.message 16 .restart) x e
  | loansStep x => exact h.operation .loansStep x e
  | holdsStep x => exact h.operation .holdsStep x e
  | tagExpiry x => exact h.operation (.tagExpiry 0) x e
  | tagDeadline ns => exact command (fun _ h => (h.passDeadlines _).search) h e
  | carrierPresent => exact h.ofLane rfl e
  | carrierLost => exact h.ofLane rfl e
  | settleTimerExpiry => exact h.ofLane rfl e
  | identifyTimerExpiry => exact h.ofLane rfl e
  | roll => exact h.ofLane rfl e
  | replyTimerExpiry => exact h.ofLane rfl e
  | call => exact h.ofLane rfl e
  | req => exact h.ofLane rfl e
  | field => exact h.ofLane rfl e
  | accept => exact h.ofLane rfl e
  | stop => exact h.ofLane rfl e
  | halt => exact h.ofLane rfl e
  | acceptOffer => exact h.ofLane rfl e
  | defer => exact h.ofLane rfl e
  | wordCheckFailure => exact h.ofLane rfl e
  | scrubRead flips => exact command (fun _ h => h.scrubRead flips) h e

end State.sweepAgrees

/-- Settles O6: by the kinds of a command's parts. Grants present a sweep step only when the sweep owes one of its kind, the
sweep's steps and a DAY_CLOSE move the Sweep Unit from one row of R128 and R143 to the next, and nothing else changes it. -/
theorem stepKeepsSweepAgreement : Obligations.StepKeepsSweepAgreement := by
  intro s t h e
  unfold step at e
  split at e
  · cases e
    exact h
  · rename_i c rest _
    exact State.sweepAgrees.exec (s := { s with pending := rest }) (h.congr rfl rfl) c e

end Sys2Proof.Machine
end

section
/-! PROOF. The steps of the day sweep in a memory without bit errors: how a granted step completes, the slots from the cursor
on, and the first RESIDENT title among them (R1, R131, R134). -/

namespace Sys2Proof.Machine

variable {s : State}

/-! ## The slots from the cursor on -/

theorem Tbl.lookup_eq_some_iff {α : Type} {t : Tbl α} (wf : Tbl.wf t = true) {n : Nat} {v : α} :
    Tbl.lookup t n = some v ↔ (n, v) ∈ t := ⟨Tbl.mem_of_lookup, Tbl.lookup_of_mem wf⟩

/-- The slots of a table from the cursor on. -/
def Tbl.keysFrom {α : Type} (t : Tbl α) (c : Nat) : List Nat := (t.map Prod.fst).filter fun n => c ≤ n

theorem Tbl.mem_keysFrom {α : Type} {t : Tbl α} {c n : Nat} : n ∈ t.keysFrom c ↔ c ≤ n ∧ ∃ v, (n, v) ∈ t := by
  simp [Tbl.keysFrom, and_comm]

theorem Tbl.keysFrom_rise {α : Type} {t : Tbl α} (wf : Tbl.wf t = true) (c : Nat) : (t.keysFrom c).Pairwise (· < ·) :=
  ((Tbl.wf_iff_pairwise t).mp wf).filter _

/-- A slot in use parts those from the cursor on into the ones below it and the ones above. -/
theorem Tbl.keysFrom_split {α : Type} {t : Tbl α} (wf : Tbl.wf t = true) {c n : Nat} {v : α} (from_ : c ≤ n)
    (here : Tbl.lookup t n = some v) :
    ∃ before after, t.keysFrom c = before ++ n :: after ∧ ∀ m, m ∈ before ↔ m < n ∧ m ∈ t.keysFrom c := by
  have mem : n ∈ t.keysFrom c := Tbl.mem_keysFrom.mpr ⟨from_, v, Tbl.mem_of_lookup here⟩
  obtain ⟨before, after, split⟩ := List.append_of_mem mem
  have rise := t.keysFrom_rise wf c
  rw [split, List.pairwise_append, List.pairwise_cons] at rise
  obtain ⟨-, ⟨above, -⟩, below⟩ := rise
  refine ⟨before, after, split, fun m => ⟨fun m_mem => ⟨below m m_mem n (by simp), by simp [split, m_mem]⟩, ?_⟩⟩
  rintro ⟨lt, m_mem⟩
  rw [split] at m_mem
  rcases List.mem_append.mp m_mem with m_mem | m_mem
  · exact m_mem
  · rcases List.mem_cons.mp m_mem with rfl | m_mem
    · omega
    · have := above m m_mem
      omega

/-! ## The first RESIDENT title -/

theorem State.nextTitle_absent (clean : s.upsets = []) (before rest : List Nat) (absent : ∀ m ∈ before, s.titleAt m = none) :
    State.nextTitle (before ++ rest) s = State.nextTitle rest s := by
  induction before with
  | nil => rfl
  | cons m before ih =>
    have here : s.titleAt m = none := absent m List.mem_cons_self
    have later := ih fun k mem => absent k (List.mem_cons_of_mem _ mem)
    simpa [State.nextTitle, State.readRecord_clean clean, State.readTitle_clean clean, here] using later

theorem State.nextTitle_here (clean : s.upsets = []) {n : Nat} (here : (s.titleAt n).isSome = true) (after : List Nat) :
    State.nextTitle (n :: after) s = (s, some n) := by
  simp [State.nextTitle, State.readRecord_clean clean, State.readTitle_clean clean, here]

/-- With no RESIDENT title from the cursor on, a HOLDS step is the closing one (R140). -/
theorem State.holdsStepWork_none (clean : s.upsets = []) (absent : ∀ n, s.sweep.cursor ≤ n → s.titleAt n = none) :
    s.holdsStepWork = s.closeSweep := by
  have passed := State.nextTitle_absent clean (s.titles.keysFrom s.sweep.cursor) [] fun m mem =>
    absent m (Tbl.mem_keysFrom.mp mem).1
  rw [List.append_nil] at passed
  unfold State.holdsStepWork
  rw [State.slotsFrom_clean clean]
  unfold Tbl.keysFrom at passed
  rw [passed]
  rfl

/-- A HOLDS step works the first RESIDENT title from the cursor on (R134). -/
theorem State.holdsStepWork_first (clean : s.upsets = []) (wf : Tbl.wf s.titles = true) {n : Nat} {tt : Title}
    (from_ : s.sweep.cursor ≤ n) (absent : ∀ m, s.sweep.cursor ≤ m → m < n → s.titleAt m = none)
    (here : s.titleAt n = some tt) : s.holdsStepWork = s.workTitle n := by
  obtain ⟨before, after, split, below⟩ := Tbl.keysFrom_split wf from_ (State.titleAt_eq_some.mp here)
  have passed := State.nextTitle_absent clean before (n :: after) fun m mem => by
    obtain ⟨lt, mem⟩ := (below m).mp mem
    exact absent m (Tbl.mem_keysFrom.mp mem).1 lt
  rw [State.nextTitle_here clean (by simp [here]), ← split] at passed
  unfold State.holdsStepWork
  rw [State.slotsFrom_clean clean]
  unfold Tbl.keysFrom at passed
  rw [passed]

/-! ## The completion of a sweep step -/

/-- What the completion of a sweep step leaves of its work w: the tables and the notices. -/
structure SweepStepEnds (w t : State) (claims : List Claim) : Prop where
  tables : t.tables = w.tables
  kept : ∀ n ∈ w.link.outbound, n.isLaneState = false → n ∈ t.link.outbound
  only : claims = [] → t.link.outbound = w.link.outbound

/-- A granted sweep step whose posts have all found room. -/
theorem Granted.sweepStep_row {op : Op} {x : Crossing} {kind : OpKind} {work : State → State} (h : Granted s op x)
    (isKind : op.kind = kind) (room : (work s).hasRoom 0) :
    ∃ t, State.sweepStep kind work x s = .next t ∧ SweepStepEnds (work s) t x.claims := by
  have e := State.command_perform (mine := fun k => decide (k = kind)) h.noReset h.busy (decide_eq_true isKind)
    (fun _ s => work s) x
  obtain ⟨done, busy, quiet, -⟩ := room
  rw [h.crossed, State.complete_done busy quiet] at e
  refine ⟨_, e, State.finishOp_tables _ _ _, fun n mem other => State.finishOp_mem _ _ _ mem other, fun unclaimed => ?_⟩
  rw [unclaimed]
  exact State.finishOp_outbound _ _

end Sys2Proof.Machine
end

section
/-! PROOF. The closing step of the sweep (R140). -/

namespace Sys2Proof.Machine

variable {s : State}

theorem PatronRec.isUnknown_false {r : PatronRec} : r.isUnknown = false ↔ ∀ id day, r ≠ .unknown id day := by
  cases r <;> simp [PatronRec.isUnknown]

theorem State.loanNames_false (wf : Tbl.wf s.loans = true) {n : Nat} :
    s.loanNames n = false ↔ ∀ k l, s.loanAt k = some l → l.patronSlot ≠ n := by
  unfold State.loanNames
  rw [List.any_eq_false]
  constructor
  · intro none k l here
    simpa using none (k, .active l) (Tbl.mem_of_lookup (State.loanAt_eq_some.mp here))
  · rintro others ⟨k, r⟩ mem
    cases r with
    | active l => simpa using others k l (State.loanAt_eq_some.mpr (Tbl.lookup_of_mem wf mem))
    | damaged copy => simp

/-- The closing step frees the UNKNOWN records, and the DAMAGED ones without an id that no loan names (R140). -/
theorem State.closePatrons_lookup (wf : Tbl.wf s.patrons = true) (loans : Tbl.wf s.loans = true) (n : Nat) (r : PatronRec) :
    Tbl.lookup s.closePatrons.patrons n = some r ↔
      Tbl.lookup s.patrons n = some r ∧ (∀ id day, r ≠ .unknown id day) ∧
        ¬ (r = .damaged 0 ∧ ∀ k l, s.loanAt k = some l → l.patronSlot ≠ n) := by
  have kept : Tbl.wf s.closePatrons.patrons = true := Tbl.wf_filter _ _ wf
  rw [Tbl.lookup_eq_some_iff kept, Tbl.lookup_eq_some_iff wf, ← PatronRec.isUnknown_false, ← State.loanNames_false loans]
  unfold State.closePatrons State.isForgotten
  simp only [State.putPatrons, List.mem_filter, Bool.not_or, Bool.not_and, Bool.and_eq_true, Bool.not_eq_true',
    Bool.or_eq_true, decide_eq_false_iff_not, Bool.not_eq_false', not_and, Bool.not_eq_false]
  tauto

/-- A patron known by UNKNOWN records only is absent when they are freed. -/
theorem State.findPatron_freed {t : State} (wf : Tbl.wf t.patrons = true) {id : Nat}
    (unknown : ∀ n r, Tbl.lookup t.patrons n = some r → r.id ≠ id) : t.findPatron id = none := by
  cases found : t.findPatron id with
  | none => rfl
  | some slot =>
    obtain ⟨r, here, same⟩ := State.findPatron_spec wf found
    exact absurd same (unknown slot r here)

/-- The work of the closing step: the patrons kept, the Sweep Unit IDLE, and SWEEP_DONE posted. -/
theorem State.closeSweep_eq {op : Op} (clean : s.upsets = []) (busy : s.engine = .busy op) (quiet : op.waiting = [])
    (room : 1 ≤ op.reservation) :
    let summary := { s.sweep.current with
      freed := min 65535 (s.sweep.current.freed + (s.patrons.filter fun e => e.2.isUnknown).length) }
    s.closeSweep = { s with
      patrons := s.closePatrons.patrons
      upsets := s.closePatrons.upsets
      sweep := { s.sweep with
        state := .idle, phase := .none, cursor := 0, complete := true, current := .zero, last := summary }
      engine := .busy { op with reservation := op.reservation - 1 }
      link := { s.link with outbound := s.link.outbound ++ [.sweepDone summary] } } := by
  unfold State.closeSweep
  simp only [State.readToClose_clean clean]
  generalize counted : s.closePatrons.mapCurrent _ = u
  have busyThen : u.engine = .busy op := by rwa [← counted]
  rw [State.post_reserved busyThen quiet room fun _ => rfl, ← counted]
  rfl

/-- Settles O50: the closing step is one filter of the patron table, one post and one write of the Sweep Unit. -/
theorem closingStepEndsTheSweep : Obligations.ClosingStepEndsTheSweep := by
  intro s op x h kind room absent
  have work := s.holdsStepWork_none h.noErr absent
  rw [State.closeSweep_eq h.noErr h.busy h.noWait room] at work
  obtain ⟨t, row, ends⟩ := h.sweepStep_row (work := State.holdsStepWork) kind
    (by rw [work]; exact ⟨_, rfl, h.noWait, Nat.zero_le _⟩)
  rw [work] at ends
  obtain ⟨tables, kept, only⟩ := ends
  injection tables with patrons loans titles pool calendar schedule sweep tags tagLine
  obtain ⟨wf, wfLoans, -⟩ := h.canon
  have remain := State.closePatrons_lookup wf wfLoans
  rw [← patrons] at remain
  refine ⟨t, row, ?_, fun id unknown => ?_, loans, titles, pool, calendar, schedule, tags, tagLine⟩
  · intro freed summary
    have counted : freed = (s.patrons.filter fun e => e.2.isUnknown).length := by
      refine congrArg List.length (List.filter_congr fun e _ => ?_)
      obtain ⟨n, r⟩ := e
      cases r <;> rfl
    rw [← counted] at sweep kept only
    exact ⟨remain, sweep, kept _ (by simp [summary]) rfl, only⟩
  · refine State.findPatron_freed (patrons ▸ Tbl.wf_filter _ _ wf) fun n r here same => ?_
    obtain ⟨before, notUnknown, -⟩ := (remain n r).mp here
    obtain ⟨day, e⟩ := unknown n r before same
    exact notUnknown id day e

end Sys2Proof.Machine
end

section
/-! PROOF. The walk of a loan in closed form (R56, R58 to R61): so many days count, so many of them are charged, and the
charges fill the room under the item cap. -/

namespace Sys2Proof.Machine

variable {s : State}

/-- What the charges of some days add to the accrued fine. -/
def WalkContext.fine (x : WalkContext) (accrued charged : Nat) : Nat := min (charged * x.charge) (x.cap - accrued)

/-- How many of k counted days are charged, after so many overdue ones. -/
def WalkContext.charged (x : WalkContext) (overdue k : Nat) : Nat := if 255 ≤ x.grace then 0 else k - (x.grace - overdue)

/-- The walk after k more days that count. -/
def Walk.counting (x : WalkContext) (w : Walk) (k : Nat) : Walk :=
  let charged := x.charged w.overdue k
  let fine := x.fine w.accrued charged
  let balance := addToBalance w.balance fine
  ⟨if k = 0 then w.overdue else min 255 (w.overdue + k), w.accrued + fine, balance, w.daysCharged + charged,
    w.accruedAdded + fine, w.balanceAdded + (balance - w.balance)⟩

variable (x : WalkContext) (w : Walk)

theorem WalkContext.charged_zero (overdue : Nat) : x.charged overdue 0 = 0 := by
  unfold WalkContext.charged
  split <;> omega

theorem WalkContext.fine_zero (accrued : Nat) : x.fine accrued 0 = 0 := by simp [WalkContext.fine]

/-- The charges of some days, and then of some more. -/
theorem WalkContext.fine_add (accrued a b : Nat) :
    x.fine accrued (a + b) = x.fine accrued a + x.fine (accrued + x.fine accrued a) b := by
  unfold WalkContext.fine
  rw [Nat.add_mul]
  generalize a * x.charge = c
  generalize b * x.charge = d
  omega

theorem WalkContext.charged_succ (overdue k : Nat) :
    x.charged overdue (k + 1) = x.charged overdue 1 + x.charged (min 255 (overdue + 1)) k := by
  unfold WalkContext.charged
  split <;> omega

theorem Walk.counting_zero : Walk.counting x w 0 = w := by
  unfold Walk.counting
  simp [WalkContext.charged_zero, WalkContext.fine_zero, addToBalance_zero]

/-- A day that counts, and k more. -/
theorem Walk.counting_succ (k : Nat) : Walk.counting x (Walk.counting x w 1) k = Walk.counting x w (k + 1) := by
  have more := x.fine_add w.accrued (x.charged w.overdue 1) (x.charged (min 255 (w.overdue + 1)) k)
  rw [← x.charged_succ] at more
  unfold Walk.counting
  simp only [Nat.succ_ne_zero, ↓reduceIte, Walk.mk.injEq]
  rw [more, x.charged_succ w.overdue k, ← addToBalance_add]
  have first := le_addToBalance w.balance (x.fine w.accrued (x.charged w.overdue 1))
  have second := le_addToBalance (addToBalance w.balance (x.fine w.accrued (x.charged w.overdue 1)))
    (x.fine (w.accrued + x.fine w.accrued (x.charged w.overdue 1)) (x.charged (min 255 (w.overdue + 1)) k))
  refine ⟨?_, by omega, rfl, by omega, by omega, by omega⟩
  split <;> omega

/-- One day of the walk counts, or leaves it. -/
theorem Walk.day_eq (d : Nat) :
    w.day x d = if decide (x.due < d) && !x.calendar.isClosed d then Walk.counting x w 1 else w := by
  unfold Walk.day
  by_cases late : x.due < d
  · cases closed : x.calendar.isClosed d with
    | true => simp [late]
    | false =>
      have beyond : x.grace < min 255 (w.overdue + 1) ↔ x.charged w.overdue 1 = 1 := by
        unfold WalkContext.charged
        split <;> omega
      have within : ¬ x.grace < min 255 (w.overdue + 1) → x.charged w.overdue 1 = 0 := by
        unfold WalkContext.charged
        split <;> omega
      simp only [Nat.not_le_of_lt late, late, ↓reduceIte, decide_true, Bool.not_false, Bool.and_self, Bool.false_eq_true,
        Walk.counting, Nat.one_ne_zero]
      split
      · rename_i charged
        simp [beyond.mp charged, Walk.charge, WalkContext.fine]
      · rename_i free
        simp [within free, WalkContext.fine_zero, addToBalance_zero]
  · simp [late, Nat.le_of_not_lt late]

/-- A walk counts its overdue days. -/
theorem Walk.days_eq (n d : Nat) : Walk.days x n d w = Walk.counting x w (x.calendar.overdueDays x.due d n) := by
  induction n generalizing d w with
  | zero => exact (Walk.counting_zero x w).symm
  | succ n ih =>
    rw [Walk.days, ih, Walk.day_eq]
    unfold Calendar.overdueDays
    rw [List.range'_succ, List.filter_cons]
    split
    · rw [List.length_cons, Walk.counting_succ]
    · rfl

theorem State.underPressure_iff (s : State) (l : Loan) :
    s.underPressure l = true ↔ (s.schedule.cls l.cls).threshold ≠ 0 ∧
      ∃ n tt, s.findTitle l.title = some n ∧ s.titleAt n = some tt ∧ (s.schedule.cls l.cls).threshold ≤ tt.waiting := by
  have resident (tt : Title) : s.residentTitle l.title = some tt ↔ ∃ n, s.findTitle l.title = some n ∧ s.titleAt n = some tt :=
    Option.bind_eq_some_iff
  unfold State.underPressure
  simp only [Bool.and_eq_true, decide_eq_true_eq]
  refine and_congr_right fun _ => ?_
  cases found : s.residentTitle l.title with
  | none =>
    simp only [Bool.false_eq_true, false_iff]
    rintro ⟨n, tt, place, own, -⟩
    rw [(resident tt).mpr ⟨n, place, own⟩] at found
    cases found
  | some tt =>
    obtain ⟨n, place, own⟩ := (resident tt).mp found
    simp [place, own]

/-- What an evaluation counts and charges (R54 to R62). -/
theorem State.walkLoan_eq (s : State) (l : Loan) (p : Patron) :
    s.walkLoan l p = Walk.counting (s.walkContext l p) ⟨l.overdue, l.accrued, p.balance, 0, 0, 0⟩
      (s.calendar.overdueDays l.due (l.charged + 1) (s.calendar.closeDay - l.charged)) := Walk.days_eq _ _ _ _

theorem State.walkLoan_figures (s : State) (l : Loan) (p : Patron) (m : Nat) :
    let rules := s.schedule.cls l.cls
    let pressed := rules.threshold ≠ 0 ∧
      ∃ n tt, s.findTitle l.title = some n ∧ s.titleAt n = some tt ∧ rules.threshold ≤ tt.waiting
    (pressed ∧ m = 2 ∨ ¬ pressed ∧ m = 1) →
    let charge := (rules.rate * (s.schedule.category p.category).factor * m + 50) / 100
    let counted := s.calendar.overdueDays l.due (l.charged + 1) (s.calendar.closeDay - l.charged)
    let charged := if 255 ≤ rules.grace then 0 else counted - (rules.grace - l.overdue)
    let fine := min (charged * charge) (rules.cap - l.accrued)
    let balance := max p.balance (min 999999 (p.balance + fine))
    s.walkLoan l p =
      ⟨if counted = 0 then l.overdue else min 255 (l.overdue + counted), l.accrued + fine, balance, charged, fine,
        balance - p.balance⟩ := by
  intro rules pressed multiplier
  have doubled : (if s.underPressure l then 2 else 1) = m := by
    have iff : s.underPressure l = true ↔ pressed := s.underPressure_iff l
    rcases multiplier with ⟨yes, rfl⟩ | ⟨no, rfl⟩
    · exact if_pos (iff.mpr yes)
    · exact if_neg fun under => no (iff.mp under)
  have context : s.walkContext l p = ⟨s.calendar, l.due, rules.grace, rules.cap,
      (rules.rate * (s.schedule.category p.category).factor * m + 50) / 100⟩ := by
    rw [← doubled]
    rfl
  rw [State.walkLoan_eq, context]
  simp [Walk.counting, WalkContext.charged, WalkContext.fine, addToBalance, Config.balanceCeiling, rules]

end Sys2Proof.Machine
end

section
/-! PROOF. A LOANS step in a memory without bit errors (R129, R132, R133, R145): what it passes over, and the evaluation of the
loan that it stops at. -/

namespace Sys2Proof.Machine

variable {s v : State} {n : Nat} {l : Loan} {p : Patron}

/-! ## The slots that lost their copy id -/

/-- A record without the slots of a list, told by what is in the list. -/
theorem State.forgetLoans_lookups (gone : List Nat) {lost : Nat → Bool} (of : ∀ k, k ∈ gone ↔ lost k = true) :
    (∀ k, Tbl.lookup (s.forgetLoans gone).loans k = if lost k then none else Tbl.lookup s.loans k) ∧
      ∀ k, Tbl.lookup (s.forgetLoans gone).patrons k = (Tbl.lookup s.patrons k).map (PatronRec.losing lost) := by
  have same : gone.contains = lost := funext fun k => Bool.eq_iff_iff.mpr (List.contains_iff_mem.trans (of k))
  refine ⟨fun k => (State.forgetLoans_loan gone k).trans (if_congr (of k) rfl rfl), fun k => ?_⟩
  rw [State.forgetLoans_patron]
  simp only [PatronRec.foldl_withoutLoan, same]

theorem State.forgetLoans_wf (wf : Tbl.wf s.loans = true) (gone : List Nat) : Tbl.wf (s.forgetLoans gone).loans = true :=
  List.foldlRecOn gone Tbl.release wf fun t wf n _ => Tbl.wf_release t n wf

theorem State.mem_lostLoans {ns : List Nat} {k : Nat} :
    k ∈ s.lostLoans ns ↔ k ∈ ns ∧ Tbl.lookup s.loans k = some (.damaged 0) := by simp [State.lostLoans]

/-- A slot from the cursor on that lost its copy id. -/
def State.forgottenFrom (s : State) (c k : Nat) : Bool := decide (c ≤ k) && decide (Tbl.lookup s.loans k = some (.damaged 0))

theorem State.mem_lost_keysFrom {c k : Nat} :
    (k ∈ s.loans.keysFrom c ∧ Tbl.lookup s.loans k = some (.damaged 0)) ↔ s.forgottenFrom c k = true := by
  simp only [State.forgottenFrom, Bool.and_eq_true, decide_eq_true_eq, Tbl.mem_keysFrom]
  exact ⟨fun h => ⟨h.1.1, h.2⟩, fun h => ⟨⟨h.1, _, Tbl.mem_of_lookup h.2⟩, h.2⟩⟩

/-! ## The end of the phase -/

theorem State.loansStepWork_none (clean : s.upsets = []) (wf : Tbl.wf s.loans = true)
    (absent : ∀ k, s.sweep.cursor ≤ k → s.loanAt k = none) :
    ∃ gone, (∀ k, k ∈ gone ↔ s.forgottenFrom s.sweep.cursor k = true) ∧
      s.loansStepWork = (s.forgetLoans gone).setSweep s.sweep.toHolds := by
  have passed := (State.nextLoan_clean clean (s.loans.keysFrom s.sweep.cursor) (s.loans.keysFrom_rise wf _).nodup
    fun k mem => absent k (Tbl.mem_keysFrom.mp mem).1).1
  refine ⟨_, fun k => State.mem_lostLoans.trans State.mem_lost_keysFrom, ?_⟩
  unfold State.loansStepWork
  rw [State.slotsFrom_clean clean]
  unfold Tbl.keysFrom at passed ⊢
  rw [passed]
  rfl

/-! ## The evaluation, with its charge reported -/

/-- What an evaluation leaves of a RESIDENT patron's loan, be it behind C or at C. -/
structure EvaluatesLoan (s v : State) (n : Nat) (l : Loan) (p : Patron) (w : Walk) (f : Figures) : Prop where
  walked : f.daysWalked = s.calendar.closeDay - l.charged
  added : f.balanceAdded = w.balanceAdded
  clean : v.upsets = []
  engine : v.engine = s.engine
  tables : v.tables = { s.tables with
    loans := Tbl.store s.loans n
      (.active { l with overdue := w.overdue, accrued := w.accrued, charged := s.calendar.closeDay })
    patrons := Tbl.store s.patrons l.patronSlot (.resident { p with balance := w.balance }) }

theorem State.afterWalk_tables (s : State) (n : Nat) (l : Loan) (p : Patron) :
    (s.afterWalk n l p).tables = { s.tables with
      loans := Tbl.store s.loans n (.active
        { l with overdue := (s.walkLoan l p).overdue, accrued := (s.walkLoan l p).accrued, charged := s.calendar.closeDay })
      patrons := Tbl.store s.patrons l.patronSlot (.resident { p with balance := (s.walkLoan l p).balance }) } :=
  (State.logCeiling_onlyLogs _ _ _ _).2.1

/-- The cents that the ceiling dropped are logged (R61). -/
theorem State.logCeiling_faults (s : State) (p : Patron) (l : Loan) (cents : Nat) :
    (cents = 0 → (s.logCeiling p l cents).faults = s.faults) ∧
      (cents ≠ 0 → (s.logCeiling p l cents).faults.has .balanceCeiling = true) := by
  unfold State.logCeiling
  refine ⟨fun none_ => by rw [if_pos none_], fun some_ => ?_⟩
  rw [if_neg some_]
  exact (State.logFault_has _ _ _ _ _).mpr (.inr rfl)

theorem State.writeWalk_upsets (clean : s.upsets = []) (w : Walk) : (s.writeWalk n l p w).upsets = [] := by
  unfold State.writeWalk
  rw [State.setLoan_clean clean, State.setPatron_clean (by exact clean)]
  exact clean

theorem State.evaluate_resident (clean : s.upsets = []) (loans : Tbl.wf s.loans = true) (patrons : Tbl.wf s.patrons = true)
    (loan : s.loanAt n = some l) (patron : s.patronAt l.patronSlot = some p) (known : l.charged ≤ s.calendar.closeDay) :
    ∃ v f, s.evaluate n = (v, f) ∧ EvaluatesLoan s v n l p (s.walkLoan l p) f := by
  rcases Nat.lt_or_eq_of_le known with behind | stands
  · exact ⟨_, _, State.evaluate_behind clean loan patron behind, rfl, rfl,
      (State.logCeiling_onlyLogs _ _ _ _).2.2.trans (State.writeWalk_upsets clean _), s.afterWalk_engine n l p,
      s.afterWalk_tables n l p⟩
  · have walk := State.walkLoan_none (s := s) (l := l) (Nat.le_of_eq stands.symm) p
    have still : s.evaluate n = (s, .zero) := State.evaluate_still clean fun k loan' _ => by
      obtain rfl : l = k := Option.some.inj (loan.symm.trans loan')
      exact Nat.le_of_eq stands.symm
    rw [walk]
    refine ⟨s, .zero, still, by rw [stands, Nat.sub_self]; rfl, rfl, clean, rfl, ?_⟩
    dsimp only
    rw [← stands, Tbl.store_same loans (State.loanAt_eq_some.mp loan),
      Tbl.store_same patrons (State.patronAt_eq_some.mp patron)]
    rfl

/-- The compare and the BALANCE of an evaluation that charged (R63, R123), for a step that counts that BALANCE in its need. -/
theorem State.reportCharge_reports (clean : s.upsets = []) (patrons : Tbl.wf s.patrons = true) (loan : s.loanAt n = some l)
    (patron : s.patronAt l.patronSlot = some p) (counted : s.balanceIsOptional = false) (room : s.hasRoom 1) (f : Figures) :
    (s.reportCharge n f).hasRoom 0 ∧
      (s.reportCharge n f).tables = { s.tables with
        patrons := Tbl.store s.patrons l.patronSlot (.resident (if 0 < f.balanceAdded then s.compares p else p)) } ∧
      (0 < f.balanceAdded → (s.compares p).balanceNotice ∈ (s.reportCharge n f).link.outbound) := by
  unfold State.reportCharge
  simp only [loan]
  split
  · rename_i charged
    have compared : s.blockCompare l.patronSlot = s.loaded l.patronSlot p := State.mapPatron_clean clean patron _
    rw [compared, State.postBalance_counted (s.loaded_patronAt _ p) ((State.balanceIsOptional_congr rfl).trans counted)]
    obtain ⟨posted, left⟩ := State.post_room (s := s.loaded l.patronSlot p) (State.hasRoom_congr rfl room)
      (s.compares p).balanceNotice
    exact ⟨left, State.post_tables _ _, fun _ => posted⟩
  · rename_i free
    rw [Tbl.store_same patrons (State.patronAt_eq_some.mp patron)]
    exact ⟨State.hasRoom_succ room, rfl, fun charged => absurd charged free⟩

/-! ## The loan that the step stops at -/

/-- The work of a LOANS step on the loan it stops at. -/
def State.worksLoan (s : State) (n : Nat) : State :=
  let v := ((s.evaluate n).1.reportCharge n (s.evaluate n).2).mapCurrent fun m => m.addLoan (s.evaluate n).2
  v.setSweep { v.sweep with cursor := n + 1 }

theorem State.loansStepWork_first (clean : s.upsets = []) (wf : Tbl.wf s.loans = true) (from_ : s.sweep.cursor ≤ n)
    (absent : ∀ m, s.sweep.cursor ≤ m → m < n → s.loanAt m = none) (here : s.loanAt n = some l) :
    ∃ gone, (∀ k, k ∈ gone ↔ (s.forgottenFrom s.sweep.cursor k && decide (k < n)) = true) ∧
      s.loansStepWork = (s.forgetLoans gone).worksLoan n := by
  obtain ⟨before, after, split, below⟩ := Tbl.keysFrom_split wf from_ (State.loanAt_eq_some.mp here)
  have rise := s.loans.keysFrom_rise wf s.sweep.cursor
  rw [split] at rise
  have passed := (State.nextLoan_clean clean before (rise.sublist (List.sublist_append_left _ _)).nodup fun m mem => by
    obtain ⟨lt, mem⟩ := (below m).mp mem
    exact absent m (Tbl.mem_keysFrom.mp mem).1 lt).2 n after l (fun mem => Nat.lt_irrefl n ((below n).mp mem).1) here
  rw [← split] at passed
  refine ⟨s.lostLoans before, fun k => ?_, ?_⟩
  · rw [State.mem_lostLoans, below, and_assoc, State.mem_lost_keysFrom, Bool.and_eq_true, decide_eq_true_eq, and_comm]
  · unfold State.loansStepWork
    rw [State.slotsFrom_clean clean]
    unfold Tbl.keysFrom at passed
    rw [passed]
    rfl

theorem State.forgetLoans_patronAt (gone : List Nat) {lost : Nat → Bool} (of : ∀ k, k ∈ gone ↔ lost k = true) (k : Nat) :
    (s.forgetLoans gone).patronAt k =
      (s.patronAt k).map fun p => { p with loans := p.loans.filter fun m => !lost m } := by
  unfold State.patronAt
  rw [(State.forgetLoans_lookups gone of).2]
  cases Tbl.lookup s.patrons k with
  | none => rfl
  | some r => cases r <;> rfl

theorem State.forgetLoans_loanAt (gone : List Nat) {lost : Nat → Bool} (of : ∀ k, k ∈ gone ↔ lost k = true)
    (here : s.loanAt n = some l) (kept : lost n = false) : (s.forgetLoans gone).loanAt n = some l := by
  rw [State.loanAt_eq_some, (State.forgetLoans_lookups gone of).1, kept]
  exact State.loanAt_eq_some.mp here

/-- A loan of no RESIDENT patron is passed over (R145). -/
theorem State.worksLoan_still (clean : s.upsets = []) (here : s.loanAt n = some l) (gone : s.patronAt l.patronSlot = none) :
    s.worksLoan n = s.setSweep { s.sweep with
      cursor := n + 1, current := { s.sweep.current with cents := min 4294967295 (s.sweep.current.cents + 0) } } := by
  have still : s.evaluate n = (s, .zero) := State.evaluate_still clean fun k loan resident => by
    obtain rfl : l = k := Option.some.inj (here.symm.trans loan)
    rw [gone] at resident
    cases resident
  unfold State.worksLoan
  rw [still]
  have silent : s.reportCharge n .zero = s := by
    unfold State.reportCharge
    simp only [here]
    exact if_neg (Nat.lt_irrefl 0)
  rw [silent]
  rfl

/-- The work on a RESIDENT patron's loan: loan and patron, summary and cursor, and the BALANCE of a charge. -/
theorem State.worksLoan_resident (clean : s.upsets = []) (loans : Tbl.wf s.loans = true) (patrons : Tbl.wf s.patrons = true)
    (here : s.loanAt n = some l) (patron : s.patronAt l.patronSlot = some p) (known : l.charged ≤ s.calendar.closeDay)
    (counted : s.balanceIsOptional = false) (room : s.hasRoom 1) :
    let w := s.walkLoan l p
    let after := { p with balance := w.balance }
    (s.worksLoan n).hasRoom 0 ∧
      (s.worksLoan n).tables = { s.tables with
        loans := Tbl.store s.loans n
          (.active { l with overdue := w.overdue, accrued := w.accrued, charged := s.calendar.closeDay })
        patrons := Tbl.store s.patrons l.patronSlot (.resident (if 0 < w.balanceAdded then s.compares after else after))
        sweep := { s.sweep with
          cursor := n + 1
          current := { s.sweep.current with
            evaluated := if 0 < s.calendar.closeDay - l.charged then min 65535 (s.sweep.current.evaluated + 1)
              else s.sweep.current.evaluated
            cents := min 4294967295 (s.sweep.current.cents + w.balanceAdded) } } } ∧
      (0 < w.balanceAdded → (s.compares after).balanceNotice ∈ (s.worksLoan n).link.outbound) := by
  intro w after
  obtain ⟨v, f, evaluated, walked, added, cleanAfter, engine, tables⟩ :=
    State.evaluate_resident clean loans patrons here patron known
  have storedLoans : v.loans = _ := congrArg Tables.loans tables
  have storedPatrons : v.patrons = _ := congrArg Tables.patrons tables
  have schedule : v.schedule = s.schedule := congrArg Tables.schedule tables
  have compares (q : Patron) : v.compares q = s.compares q := by
    unfold State.compares State.blockDue
    rw [schedule]
  have wf : Tbl.wf v.patrons = true := by
    rw [storedPatrons]
    exact Tbl.wf_store _ _ _ patrons
  obtain ⟨left, reports, posted⟩ := State.reportCharge_reports (s := v) (n := n)
    (l := { l with overdue := w.overdue, accrued := w.accrued, charged := s.calendar.closeDay }) (p := after) cleanAfter wf
    (State.loanAt_eq_some.mpr (by rw [storedLoans]; exact Tbl.lookup_store_same _ _ _))
    (State.patronAt_eq_some.mpr (by rw [storedPatrons]; exact Tbl.lookup_store_same _ _ _))
    ((State.balanceIsOptional_congr engine).trans counted) (State.hasRoom_congr engine room) f
  rw [added, compares] at reports posted
  rw [storedPatrons, tables] at reports
  dsimp only at reports
  rw [Tbl.store_store] at reports
  unfold State.worksLoan
  rw [evaluated]
  refine ⟨State.hasRoom_congr rfl left, ?_, posted⟩
  have sweep : (v.reportCharge n f).sweep = s.sweep := congrArg Tables.sweep reports
  have moved : ((v.reportCharge n f).mapCurrent fun m => m.addLoan f).sweep =
      { s.sweep with current := s.sweep.current.addLoan f } := by
    show { (v.reportCharge n f).sweep with current := (v.reportCharge n f).sweep.current.addLoan f } = _
    rw [sweep]
  have written : ∀ x : Sweep, (((v.reportCharge n f).mapCurrent fun m => m.addLoan f).setSweep x).tables =
      { (v.reportCharge n f).tables with sweep := x } := fun _ => rfl
  rw [written, moved, reports, ← walked, ← added]
  rfl

/-! ## The statement -/

/-- The end of a LOANS step whose work is w. -/
theorem Granted.loansStep_row {op : Op} {x : Crossing} {w : State} (h : Granted s op x) (kind : op.kind = .loansStep)
    (work : s.loansStepWork = w) (room : w.hasRoom 0) :
    ∃ t, exec (.loansStep x) s = .next t ∧ SweepStepEnds w t x.claims := by
  rw [← work] at room ⊢
  exact h.sweepStep_row (work := State.loansStepWork) kind room

theorem Granted.loansStep_counted {op : Op} {x : Crossing} (h : Granted s op x) (kind : op.kind = .loansStep) :
    s.balanceIsOptional = false := by
  unfold State.balanceIsOptional State.op?
  simp only [h.busy, kind]

/-- Settles O48: what the step passes over and stops at comes from `nextLoan_clean`, what an evaluation charges from the
closed form of the walk, and what it writes from the reads of a clean memory. -/
theorem loansStepEvaluatesTheNextLoan : Obligations.LoansStepEvaluatesTheNextLoan := by
  refine ⟨fun s op x h kind room => ⟨fun absent => ?_, fun n l from_ absent here => ⟨fun gone => ?_, ?_⟩⟩,
    State.walkLoan_figures, fun s n l clean here => ⟨fun still => ?_, fun p w patron behind walk => ?_⟩⟩
  · obtain ⟨wf, wfLoans, -⟩ := h.canon
    obtain ⟨lost, of, work⟩ := State.loansStepWork_none h.noErr wfLoans absent
    obtain ⟨loans, patrons⟩ := State.forgetLoans_lookups (s := s) lost of
    obtain ⟨t, row, ends⟩ := h.loansStep_row kind work ⟨op, h.busy, h.noWait, Nat.zero_le _⟩
    injection ends.tables with patrons' loans' titles pool calendar schedule sweep tags tagLine
    exact ⟨t, row, ⟨titles, pool, calendar, schedule, tags, tagLine⟩, by rw [loans']; exact loans,
      by rw [patrons']; exact patrons, sweep⟩
  · obtain ⟨wf, wfLoans, -⟩ := h.canon
    obtain ⟨lost, of, work⟩ := State.loansStepWork_first h.noErr wfLoans from_ absent here
    obtain ⟨loans, patrons⟩ := State.forgetLoans_lookups (s := s) lost of
    have here' := State.forgetLoans_loanAt lost of here (by simp)
    have gone' : (s.forgetLoans lost).patronAt l.patronSlot = none := by
      rw [State.forgetLoans_patronAt lost of, gone]
      rfl
    rw [State.worksLoan_still (s := s.forgetLoans lost) h.noErr here' gone'] at work
    obtain ⟨t, row, ends⟩ := h.loansStep_row kind work ⟨op, h.busy, h.noWait, Nat.zero_le _⟩
    injection ends.tables with patrons' loans' titles pool calendar schedule sweep tags tagLine
    exact ⟨t, row, ⟨titles, pool, calendar, schedule, tags, tagLine⟩, by rw [loans']; exact loans,
      by rw [patrons']; exact patrons, sweep⟩
  · rintro p w patron rfl known
    obtain ⟨wf, wfLoans, -⟩ := h.canon
    obtain ⟨lost, of, work⟩ := State.loansStepWork_first h.noErr wfLoans from_ absent here
    obtain ⟨loans, patrons⟩ := State.forgetLoans_lookups (s := s) lost of
    have here' := State.forgetLoans_loanAt lost of here (by simp)
    have patron' := State.forgetLoans_patronAt (s := s) lost of l.patronSlot
    rw [patron, Option.map_some] at patron'
    obtain ⟨left, tables, posted⟩ := State.worksLoan_resident (s := s.forgetLoans lost) h.noErr
      (State.forgetLoans_wf wfLoans lost)
      (Tbl.wf_mapSlots _ _ wf) here' patron' known ((State.balanceIsOptional_congr rfl).trans (h.loansStep_counted kind))
      ⟨op, h.busy, h.noWait, room⟩
    obtain ⟨t, row, ends⟩ := h.loansStep_row kind work left
    rw [← ends.tables] at tables
    injection tables with patrons' loans' titles pool calendar schedule sweep tags tagLine
    refine ⟨t, row, ⟨titles, pool, calendar, schedule, tags, tagLine⟩, ?_, fun k other => ?_, ⟨?_, fun charged => ?_⟩,
      fun k other => ?_, sweep⟩
    · rw [loans']
      exact Tbl.lookup_store_same _ _ _
    · rw [loans', Tbl.lookup_store_ne _ _ _ _ other]
      exact loans k
    · rw [State.patronAt_eq_some, patrons']
      exact Tbl.lookup_store_same _ _ _
    · exact ends.kept _ (posted charged) rfl
    · rw [patrons', Tbl.lookup_store_ne _ _ _ _ other]
      exact patrons k
  · refine State.evaluate_still clean fun k loan resident => ?_
    obtain rfl : l = k := Option.some.inj (here.symm.trans loan)
    exact still.resolve_left fun gone => by simp [gone] at resident
  · rw [walk]
    intro x dropped
    have evaluated : x = (s.afterWalk n l p, s.figures l (s.walkLoan l p)) := State.evaluate_behind clean here patron behind
    rw [evaluated]
    exact ⟨rfl, s.afterWalk_tables n l p, (State.logCeiling_faults _ p l _).1, (State.logCeiling_faults _ p l _).2⟩

end Sys2Proof.Machine
end

section
/-! PROOF. The change due on a title (R135 to R137), and at most so many of them (R138), in a memory without bit errors. -/

namespace Sys2Proof.Machine

variable {s : State} {n : Nat} {tt : Title} {i : QueueItem} {h : Hold}

/-! ## Which change is due -/

theorem State.entryWhere_none {p : Hold → Bool} (none_ : ∀ j ∈ tt.queue, ∀ g, s.holdAt j.slot = some g → p g = false) :
    s.entryWhere tt p = none := by
  have first : s.firstHold tt.queue p = none := by
    refine List.find?_eq_none.mpr fun j mem => ?_
    cases held : s.holdAt j.slot with
    | none => simp
    | some g => simp [none_ j mem g held]
  unfold State.entryWhere
  rw [first]
  rfl

theorem State.entryWhere_first {p : Hold → Bool} {before after : List QueueItem} (queue : tt.queue = before ++ i :: after)
    (held : s.holdAt i.slot = some h) (here : p h = true)
    (ahead : ∀ j ∈ before, ∀ g, s.holdAt j.slot = some g → p g = false) : s.entryWhere tt p = some (i, h) := by
  have first : s.firstHold tt.queue p = some i := by
    refine List.find?_eq_some_iff_append.mpr ⟨by simp [held, here], before, after, queue, fun j mem => ?_⟩
    cases heldJ : s.holdAt j.slot with
    | none => rfl
    | some g => simp [ahead j mem g heldJ]
  unfold State.entryWhere
  rw [first]
  simp [held]

theorem Hold.resumeDue_iff (today : Nat) (h : Hold) :
    h.resumeDue today = true ↔ ∃ day, h.state = .suspended day ∧ day ≤ today := by
  unfold Hold.resumeDue
  cases h.state <;> simp

theorem Hold.expiryDue_iff (closeDay : Nat) (h : Hold) :
    h.expiryDue closeDay = true ↔ ∃ deadline copy, h.state = .ready deadline copy ∧ deadline ≤ closeDay := by
  unfold Hold.expiryDue
  cases h.state <;> simp

/-- What is due, in the order resumption, expiry, removal. -/
theorem State.dueChange_cases (s : State) (tt : Title) :
    let resumes (h : Hold) := ∃ day, h.state = .suspended day ∧ day ≤ s.today
    let expires (h : Hold) := ∃ deadline copy, h.state = .ready deadline copy ∧ deadline ≤ s.calendar.closeDay
    ((∀ j ∈ tt.queue, ∃ g, s.holdAt j.slot = some g ∧ ¬ resumes g ∧ ¬ expires g) → s.dueChange tt = none) ∧
     ∀ before i after, tt.queue = before ++ i :: after →
      (∀ h, s.holdAt i.slot = some h → resumes h → (∀ j ∈ before, ∀ g, s.holdAt j.slot = some g → ¬ resumes g) →
        s.dueChange tt = some (.resume i h)) ∧
      (∀ h, s.holdAt i.slot = some h → expires h → (∀ j ∈ before, ∀ g, s.holdAt j.slot = some g → ¬ expires g) →
        (∀ j ∈ tt.queue, ∀ g, s.holdAt j.slot = some g → ¬ resumes g) → s.dueChange tt = some (.expire i h)) ∧
      (s.holdAt i.slot = none → (∀ j ∈ before, s.holdAt j.slot ≠ none) →
        (∀ j ∈ tt.queue, ∀ g, s.holdAt j.slot = some g → ¬ resumes g ∧ ¬ expires g) →
        s.dueChange tt = some (.remove i)) := by
  intro resumes expires
  have resume (g : Hold) : g.resumeDue s.today = false ↔ ¬ resumes g :=
    Bool.eq_false_iff.trans (not_congr (g.resumeDue_iff s.today))
  have expire (g : Hold) : g.expiryDue s.calendar.closeDay = false ↔ ¬ expires g :=
    Bool.eq_false_iff.trans (not_congr (g.expiryDue_iff s.calendar.closeDay))
  have noResume (none_ : ∀ j ∈ tt.queue, ∀ g, s.holdAt j.slot = some g → ¬ resumes g) :
      s.entryWhere tt (Hold.resumeDue s.today) = none :=
    State.entryWhere_none fun j mem g held => (resume g).mpr (none_ j mem g held)
  have noExpiry (none_ : ∀ j ∈ tt.queue, ∀ g, s.holdAt j.slot = some g → ¬ expires g) :
      s.entryWhere tt (Hold.expiryDue s.calendar.closeDay) = none :=
    State.entryWhere_none fun j mem g held => (expire g).mpr (none_ j mem g held)
  unfold State.dueChange
  refine ⟨fun idle => ?_, fun before i after queue => ⟨fun h held due ahead => ?_, fun h held due ahead first => ?_,
    fun lost ahead idle => ?_⟩⟩
  · have same {j : QueueItem} {g : Hold} (mem : j ∈ tt.queue) (held : s.holdAt j.slot = some g) :
        ¬ resumes g ∧ ¬ expires g := by
      obtain ⟨g', held', none_⟩ := idle j mem
      rwa [Option.some.inj (held.symm.trans held')]
    have readable : (tt.queue.find? fun j => (s.holdAt j.slot).isNone) = none := by
      refine List.find?_eq_none.mpr fun j mem => ?_
      obtain ⟨g, held, -⟩ := idle j mem
      simp [held]
    rw [noResume fun j mem g held => (same mem held).1, noExpiry fun j mem g held => (same mem held).2, readable]
    rfl
  · rw [State.entryWhere_first queue held ((h.resumeDue_iff s.today).mpr due) fun j mem g heldJ =>
      (resume g).mpr (ahead j mem g heldJ)]
  · rw [noResume first, State.entryWhere_first queue held ((h.expiryDue_iff s.calendar.closeDay).mpr due) fun j mem g heldJ =>
      (expire g).mpr (ahead j mem g heldJ)]
  · have found : (tt.queue.find? fun j => (s.holdAt j.slot).isNone) = some i :=
      List.find?_eq_some_iff_append.mpr ⟨by simp [lost], before, after, queue, fun j mem => by
        simpa [Option.isSome_iff_ne_none] using ahead j mem⟩
    rw [noResume fun j mem g held => (idle j mem g held).1, noExpiry fun j mem g held => (idle j mem g held).2, found]
    rfl

/-! ## One change after the other -/

theorem State.makeChanges_eq (clean : s.upsets = []) (resident : s.titleAt n = some tt) (k : Nat) :
    State.makeChanges n k s =
      match k, s.dueChange tt with
      | k + 1, some c => State.makeChanges n k (s.makeChange n tt.id c)
      | _, _ => s := by
  cases k with
  | zero => rfl
  | succ k =>
    rw [State.makeChanges, State.readQueueOf_clean clean]
    simp only [resident]
    cases s.dueChange tt <;> rfl

end Sys2Proof.Machine
end

section
/-! PROOF. One change on a title (R94, R102, R111, R135 to R137): the tables it writes, and the notices it posts against the
reservation of the step. -/

namespace Sys2Proof.Machine

variable {s v w : State} {n title : Nat} {tt left : Title} {i : QueueItem} {h : Hold} {op : Op}
  {ns ms : List Notice} {j k : Nat}

/-! ## Tables -/

theorem State.resumed_tables (clean : s.upsets = []) (e : NamedEntry) (tt : Title) :
    (s.resumed e tt).tables = { s.tables with
      pool := Tbl.store s.pool e.item.slot (.entry { e.hold with state := .waiting })
      titles := Tbl.store s.titles e.tslot (.resident { tt with waiting := tt.waiting + 1 }) } := by
  unfold State.resumed
  rw [State.changeEntry_tables, State.setPool_clean (by exact clean)]
  rfl

theorem State.resumed_upsets (clean : s.upsets = []) (e : NamedEntry) (tt : Title) : (s.resumed e tt).upsets = [] := by
  unfold State.resumed
  exact State.changeEntry_upsets (by exact clean) e .waiting

theorem State.resumeEntry_tables (clean : s.upsets = []) (resident : s.titleAt n = some tt) (title : Nat) (i : QueueItem)
    (h : Hold) :
    (s.resumeEntry ⟨n, title, i, h⟩).tables = { s.tables with
      pool := Tbl.store s.pool i.slot
        (.entry { h with state := if 0 < tt.shelf then .ready s.pickupDeadline none else .waiting })
      titles := Tbl.store s.titles n (.resident
        (if 0 < tt.shelf then { tt with shelf := tt.shelf - 1, ready := tt.ready + 1 }
         else { tt with waiting := tt.waiting + 1 })) } := by
  have waits := State.resumed_tables clean ⟨n, title, i, h⟩ tt
  have writes := State.resumed_writes clean ⟨n, title, i, h⟩ tt
  rw [State.resumeEntry_eq clean resident]
  split
  · rw [State.trapFromShelf_tables (State.resumed_upsets clean _ _) writes.title, waits,
      State.pickupDeadline_congr writes.calendar writes.schedule]
    have pool : (s.resumed ⟨n, title, i, h⟩ tt).pool = _ := congrArg Tables.pool waits
    have titles : (s.resumed ⟨n, title, i, h⟩ tt).titles = _ := congrArg Tables.titles waits
    rw [titles, pool]
    simp only [Tbl.store_store, Nat.add_sub_cancel]
  · exact waits

/-! ## Notices -/

/-- From s to v these notices have gone to the end of the outbound queue and at most k entries of an operation's reservation
have been used for them; no bit error stands. -/
structure Spends (op : Op) (s v : State) (ns : List Notice) (k : Nat) : Prop where
  outbound : v.link.outbound = s.link.outbound ++ ns
  clean : v.upsets = []
  left : ∃ o, v.engine = .busy o ∧ o.waiting = [] ∧ op.reservation ≤ o.reservation + k

theorem Spends.le (made : Spends op s v ns j) (le : j ≤ k) : Spends op s v ns k := by
  obtain ⟨outbound, clean, o, busy, quiet, left⟩ := made
  exact ⟨outbound, clean, o, busy, quiet, by omega⟩

/-- Notices, and then more of them against what the first ones left of the reservation. -/
theorem Spends.followed {o : Op} (made : Spends op s v ns j) (busy : v.engine = .busy o) (next : Spends o v w ms k) :
    Spends op s w (ns ++ ms) (j + k) := by
  obtain ⟨outbound, -, o', busy', -, left⟩ := made
  obtain rfl : o = o' := Engine.busy.inj (busy.symm.trans busy')
  obtain ⟨outbound', clean, o', busy', quiet', left'⟩ := next
  exact ⟨by rw [outbound', outbound, List.append_assoc], clean, o', busy', quiet', by omega⟩

theorem Spends.mapCurrent (made : Spends op s v ns k) (f : Summary → Summary) : Spends op s (v.mapCurrent f) ns k :=
  ⟨made.outbound, made.clean, made.left⟩

theorem Spends.room (made : Spends op s v ns k) {m : Nat} (enough : m + k ≤ op.reservation) : v.hasRoom m := by
  obtain ⟨o, busy, quiet, left⟩ := made.left
  exact ⟨o, busy, quiet, by omega⟩

theorem Spends.of_post {m : Notice} (clean : v.upsets = []) (link : v.link = s.link) (busy : v.engine = .busy op)
    (quiet : op.waiting = []) (room : 1 ≤ op.reservation) (alone : ∀ m', m.sameSubject m' = false) :
    Spends op s (v.post m) [m] 1 := by
  rw [State.post_reserved busy quiet room alone]
  exact ⟨congrArg (fun l : Link => l.outbound ++ [m]) link, clean, _, rfl, quiet, by dsimp only; omega⟩

theorem State.trap_spends (clean : s.upsets = []) (resident : s.titleAt n = some tt) (busy : s.engine = .busy op)
    (quiet : op.waiting = []) (room : 1 ≤ op.reservation) (title : Nat) (x : QueueItem × Hold) (copy ret : Option Nat) :
    Spends op s (s.trap n title x copy ret) [.trapped title x.2.patron x.2.branch s.pickupDeadline copy ret] 1 := by
  rw [State.trap_clean clean resident busy quiet room]
  exact ⟨rfl, clean, _, rfl, quiet, by dsimp only; omega⟩

theorem State.trapFromShelf_spends (clean : s.upsets = []) (resident : s.titleAt n = some tt) (busy : s.engine = .busy op)
    (quiet : op.waiting = []) (room : 1 ≤ op.reservation) (title : Nat) (x : QueueItem × Hold) :
    Spends op s (s.trapFromShelf n title x) [.trapped title x.2.patron x.2.branch s.pickupDeadline none none] 1 := by
  have posted := State.trap_spends (s := s.withTitles (Tbl.store s.titles n (.resident { tt with shelf := tt.shelf - 1 })))
    clean (State.titleAt_eq_some.mpr (Tbl.lookup_store_same _ _ _)) busy quiet room title x none none
  unfold State.trapFromShelf
  rw [State.mapTitle_clean clean resident]
  exact ⟨posted.outbound, posted.clean, posted.left⟩

theorem State.shelve_spends (clean : s.upsets = []) (resident : s.titleAt n = some tt) (busy : s.engine = .busy op)
    (quiet : op.waiting = []) (room : 1 ≤ op.reservation) (copy ret : Option Nat) :
    ∃ logged : List Notice, (∀ m ∈ logged, ∃ f k, m = .fault f k) ∧ (tt.shelf < 255 → logged = []) ∧
      Spends op s (s.shelve n tt copy ret) (logged ++ [.copyReleased tt.id copy ret tt.shelfAfter]) 1 := by
  obtain ⟨logged, faults, none_, e⟩ := State.shelve_clean clean resident busy quiet room copy ret
  refine ⟨logged, faults, none_, ?_⟩
  rw [e]
  exact ⟨List.append_assoc _ _ _, clean, _, rfl, quiet, by dsimp only; omega⟩

/-- A removal posts its HOLD_CHANGE (R111). -/
theorem State.removeEntry_spends (clean : s.upsets = []) (resident : s.titleAt n = some tt) (busy : s.engine = .busy op)
    (quiet : op.waiting = []) (room : 1 ≤ op.reservation) (title : Nat) (i : QueueItem) (reason : HoldChange) :
    Spends op s (s.removeEntry n title i reason) [.holdChange title i.patron reason 0] 1 := by
  rw [State.removeEntry_removed clean resident]
  exact Spends.of_post (v := s.removed n title i tt) clean rfl busy quiet room fun _ => rfl

/-- The position that a resumed entry's HOLD_CHANGE carries is the one it has in the queue (R88). -/
theorem State.resumed_spends (clean : s.upsets = []) (busy : s.engine = .busy op) (quiet : op.waiting = [])
    (room : 1 ≤ op.reservation) (title : Nat) (i : QueueItem) (h : Hold) :
    Spends op s (s.resumed ⟨n, title, i, h⟩ tt) [.holdChange title i.patron .waiting (s.position tt i.slot)] 1 := by
  unfold State.resumed State.changeEntry
  dsimp only
  generalize written : s.withTitles (Tbl.store s.titles n (.resident { tt with waiting := tt.waiting + 1 })) = u
  have cleanU : u.upsets = [] := by rw [← written]; exact clean
  rw [State.setPool_clean cleanU]
  have place : ({ u with pool := Tbl.store u.pool i.slot (.entry { h with state := .waiting }) } : State).changePosition n
      i.slot .waiting = s.position tt i.slot := by
    have here : ({ u with pool := Tbl.store u.pool i.slot (.entry { h with state := .waiting }) } : State).titleAt n =
        some { tt with waiting := tt.waiting + 1 } := by
      rw [← written]
      exact State.titleAt_eq_some.mpr (Tbl.lookup_store_same _ _ _)
    unfold State.changePosition
    simp only [here, Option.map_some, Option.getD_some]
    refine State.position_congr rfl fun j other => ?_
    rw [← written]
    exact Tbl.lookup_store_ne _ _ _ _ other
  rw [place]
  exact Spends.of_post cleanU (by rw [← written]; rfl) (by rw [← written]; exact busy) quiet room fun _ => rfl

/-- A resumption posts HOLD_CHANGE, and TRAPPED where the shelf has a copy (R102). -/
theorem State.resumeEntry_spends (clean : s.upsets = []) (resident : s.titleAt n = some tt) (busy : s.engine = .busy op)
    (quiet : op.waiting = []) (room : 2 ≤ op.reservation) (title : Nat) (i : QueueItem) (h : Hold) :
    Spends op s (s.resumeEntry ⟨n, title, i, h⟩)
      (.holdChange title i.patron .waiting (s.position tt i.slot) ::
        if 0 < tt.shelf then [.trapped title h.patron h.branch s.pickupDeadline none none] else []) 2 := by
  have change := State.resumed_spends (n := n) (tt := tt) clean busy quiet (by omega) title i h
  have writes := State.resumed_writes clean ⟨n, title, i, h⟩ tt
  rw [State.resumeEntry_eq clean resident]
  split
  · obtain ⟨o, busy', quiet', left⟩ := change.left
    rw [← State.pickupDeadline_congr writes.calendar writes.schedule]
    exact change.followed busy' (State.trapFromShelf_spends change.clean writes.title busy' quiet' (by omega) title
      (i, { h with state := .waiting }))
  · exact change.le (by omega)

/-- The copy of an expired entry goes on to the first WAITING entry, or to the shelf (R94, R136). -/
theorem State.offerCopy_spends (clean : s.upsets = []) (resident : s.titleAt n = some tt) (busy : s.engine = .busy op)
    (quiet : op.waiting = []) (room : 1 ≤ op.reservation) (copy ret : Option Nat) :
    (∀ x, s.firstWaiting tt = some x →
      Spends op s (s.offerCopy n copy ret).1 [.trapped tt.id x.2.patron x.2.branch s.pickupDeadline copy ret] 1) ∧
      (s.firstWaiting tt = none →
        ∃ logged : List Notice, (∀ m ∈ logged, ∃ f k, m = .fault f k) ∧ (tt.shelf < 255 → logged = []) ∧
          Spends op s (s.offerCopy n copy ret).1 (logged ++ [.copyReleased tt.id copy ret tt.shelfAfter]) 1) := by
  refine ⟨fun x first => ?_, fun none_ => ?_⟩
  · rw [State.offerCopy_traps clean resident first]
    exact State.trap_spends clean resident busy quiet room tt.id x copy ret
  · rw [State.offerCopy_shelves clean resident none_]
    exact State.shelve_spends clean resident busy quiet room copy ret

end Sys2Proof.Machine
end

section
/-! PROOF. A HOLDS step on a title (R134 to R139), in a memory without bit errors. -/

namespace Sys2Proof.Machine

variable {s v : State} {n : Nat} {tt left : Title} {i : QueueItem} {h : Hold} {op : Op}

/-! ## One change -/

theorem State.mapCurrent_tables (s : State) (f : Summary → Summary) :
    (s.mapCurrent f).tables = { s.tables with sweep := { s.sweep with current := f s.sweep.current } } := rfl

def Summary.countResumed (m : Summary) : Summary := { m with resumed := min 65535 (m.resumed + 1) }

def Summary.countExpired (m : Summary) : Summary := { m with expired := min 65535 (m.expired + 1) }

theorem State.makeChange_resume (s : State) (n title : Nat) (i : QueueItem) (h : Hold) :
    s.makeChange n title (.resume i h) = (s.resumeEntry ⟨n, title, i, h⟩).mapCurrent Summary.countResumed := rfl

theorem State.makeChange_expire (s : State) (n title : Nat) (i : QueueItem) (h : Hold) :
    s.makeChange n title (.expire i h) =
      ((s.removeEntry n title i .expired).offerSetAside n h).mapCurrent Summary.countExpired := rfl

theorem State.offerSetAside_ready {deadline : Nat} {copy : Option Nat} (ready : h.state = .ready deadline copy) (s : State)
    (n : Nat) : s.offerSetAside n h = (s.offerCopy n copy (some h.branch)).1 := by
  unfold State.offerSetAside
  simp only [ready]

theorem State.offerSetAside_other (other : h.isReady = false) (s : State) (n : Nat) : s.offerSetAside n h = s := by
  unfold State.offerSetAside
  unfold Hold.isReady at other
  cases state : h.state with
  | ready deadline copy => simp [state] at other
  | _ => rfl

/-- The offer of an expired entry's copy posts at most one notice besides a FAULT, and leaves the title RESIDENT. -/
theorem State.offerSetAside_spends (clean : s.upsets = []) (resident : s.titleAt n = some tt) (busy : s.engine = .busy op)
    (quiet : op.waiting = []) (room : 1 ≤ op.reservation) (h : Hold) :
    (∃ ns, Spends op s (s.offerSetAside n h) ns 1) ∧ ∃ left, (s.offerSetAside n h).titleAt n = some left := by
  cases state : h.state with
  | ready deadline copy =>
    rw [State.offerSetAside_ready state]
    obtain ⟨traps, shelves⟩ := State.offerCopy_spends clean resident busy quiet room copy (some h.branch)
    obtain ⟨after, titles⟩ := State.offeredTitles_resident resident
    have offered := congrArg Tables.titles (State.offerCopy_tables clean resident copy (some h.branch))
    refine ⟨?_, after, State.titleAt_eq_some.mpr ((congrArg (Tbl.lookup · n) offered).trans titles)⟩
    cases first : s.firstWaiting tt with
    | some x => exact ⟨_, traps x first⟩
    | none =>
      obtain ⟨logged, -, -, spends⟩ := shelves first
      exact ⟨_, spends⟩
  | _ =>
    rw [State.offerSetAside_other (by simp [Hold.isReady, state])]
    exact ⟨⟨[], (List.append_nil _).symm, clean, op, busy, quiet, by omega⟩, tt, resident⟩

/-- A change posts at most two notices besides a FAULT, and leaves the title RESIDENT. -/
theorem State.makeChange_spends (clean : s.upsets = []) (resident : s.titleAt n = some tt) (busy : s.engine = .busy op)
    (quiet : op.waiting = []) (room : 2 ≤ op.reservation) (title : Nat) (c : Change) :
    (∃ ns, Spends op s (s.makeChange n title c) ns 2) ∧ ∃ left, (s.makeChange n title c).titleAt n = some left := by
  have removed (i : QueueItem) (reason : HoldChange) :=
    State.removeEntry_spends clean resident busy quiet (by omega) title i reason
  have remains (i : QueueItem) (reason : HoldChange) := State.removeEntry_titleAt clean resident title i reason
  cases c with
  | resume i h =>
    have titles : (s.resumeEntry ⟨n, title, i, h⟩).titles = _ :=
      congrArg Tables.titles (State.resumeEntry_tables clean resident title i h)
    rw [State.makeChange_resume]
    exact ⟨⟨_, (State.resumeEntry_spends clean resident busy quiet room title i h).mapCurrent _⟩, _,
      State.titleAt_eq_some.mpr ((congrArg (Tbl.lookup · n) titles).trans (Tbl.lookup_store_same _ _ _))⟩
  | expire i h =>
    have gone := removed i .expired
    obtain ⟨o, busy', quiet', left⟩ := gone.left
    obtain ⟨⟨ns, offers⟩, after, there⟩ :=
      State.offerSetAside_spends gone.clean (remains i .expired) busy' quiet' (by omega) h
    rw [State.makeChange_expire]
    exact ⟨⟨_, (gone.followed busy' offers).mapCurrent _⟩, after, there⟩
  | remove i => exact ⟨⟨_, (removed i .lost).le (by omega)⟩, _, remains i .lost⟩

/-- So many changes find room for their notices, and leave the title RESIDENT. -/
theorem State.makeChanges_keeps {m : Nat} (k : Nat) (clean : s.upsets = []) (resident : s.titleAt n = some tt)
    (room : s.hasRoom (2 * k + m)) :
    (State.makeChanges n k s).upsets = [] ∧ (∃ left, (State.makeChanges n k s).titleAt n = some left) ∧
      (State.makeChanges n k s).hasRoom m := by
  induction k generalizing s tt with
  | zero => exact ⟨clean, ⟨tt, resident⟩, by simpa [State.makeChanges] using room⟩
  | succ k ih =>
    rw [State.makeChanges_eq clean resident]
    cases s.dueChange tt with
    | none =>
      obtain ⟨op, busy, quiet, enough⟩ := room
      exact ⟨clean, ⟨tt, resident⟩, op, busy, quiet, by omega⟩
    | some c =>
      obtain ⟨op, busy, quiet, enough⟩ := room
      obtain ⟨⟨ns, spends⟩, left, there⟩ := State.makeChange_spends clean resident busy quiet (by omega) tt.id c
      exact ih spends.clean there (spends.room (by omega))

/-! ## The end of the step -/

theorem State.freeTitle_clean (clean : s.upsets = []) (n : Nat) :
    s.freeTitle n = { s with titles := Tbl.release s.titles n } := by
  simp only [State.freeTitle, clean, passWhere, List.filterMap_nil]

theorem State.mayRelease_iff (s : State) (tt : Title) :
    s.mayRelease tt = true ↔ tt.queue = [] ∧ ∀ q ∈ s.questions, ¬ (q.kind = .titleFetch ∧ q.subject = tt.id) := by
  unfold State.mayRelease
  rw [Bool.and_eq_true, List.isEmpty_iff, Bool.not_eq_true', List.any_eq_false]
  simp only [Bool.and_eq_true, decide_eq_true_eq, beq_iff_eq]

/-- The title is finished: released or kept, the cursor past it (R138, R139). -/
theorem State.finishTitle_tables (clean : s.upsets = []) (n : Nat) (tt : Title) :
    (s.finishTitle n tt).tables =
      if s.mayRelease tt then { s.tables with
        titles := Tbl.release s.titles n
        sweep := { s.sweep with
          cursor := n + 1, phase := .nextTitle
          current := { s.sweep.current with released := min 65535 (s.sweep.current.released + 1) } } }
      else { s.tables with sweep := { s.sweep with cursor := n + 1, phase := .nextTitle } } := by
  unfold State.finishTitle
  simp only [State.scanTags_clean clean, ite_self]
  split
  · rw [State.freeTitle_clean clean]
    rfl
  · rfl

/-- The end of a step on a title posts nothing. -/
theorem State.finishTitle_queue (clean : s.upsets = []) (n : Nat) (tt : Title) : SameQueue s (s.finishTitle n tt) := by
  unfold State.finishTitle
  simp only [State.scanTags_clean clean, ite_self]
  split <;> exact ⟨rfl, rfl⟩

/-- What a step on a title makes of v, the state after its changes. -/
structure LeavesTitle (v w : State) (n : Nat) (left : Title) : Prop where
  queue : SameQueue v w
  stays : ∀ c, v.dueChange left = some c → w.tables = { v.tables with sweep := { v.sweep with cursor := n, phase := c.phase } }
  ends : v.dueChange left = none → w.tables = (v.finishTitle n left).tables

theorem State.workTitle_leaves (clean : (State.makeChanges n 4 s).upsets = [])
    (there : (State.makeChanges n 4 s).titleAt n = some left) :
    LeavesTitle (State.makeChanges n 4 s) (s.workTitle n) n left := by
  unfold State.workTitle
  rw [State.readQueueOf_clean clean]
  simp only [there]
  cases due : (State.makeChanges n 4 s).dueChange left with
  | some c =>
    refine ⟨⟨rfl, rfl⟩, fun c' other => ?_, fun none_ => nomatch none_.symm.trans due⟩
    obtain rfl : c = c' := Option.some.inj (due.symm.trans other)
    rfl
  | none => exact ⟨State.finishTitle_queue clean n left, fun c some_ => (nomatch some_.symm.trans due), fun _ => rfl⟩

/-- A granted HOLDS step on a title. -/
theorem Granted.holdsStep_row {x : Crossing} (g : Granted s op x) (kind : op.kind = .holdsStep) (room : 8 ≤ op.reservation)
    (from_ : s.sweep.cursor ≤ n) (absent : ∀ m, s.sweep.cursor ≤ m → m < n → s.titleAt m = none)
    (resident : s.titleAt n = some tt) :
    ∃ t w left, exec (.holdsStep x) s = .next t ∧ (State.makeChanges n 4 s).upsets = [] ∧
      (State.makeChanges n 4 s).titleAt n = some left ∧ LeavesTitle (State.makeChanges n 4 s) w n left ∧
      SweepStepEnds w t x.claims := by
  obtain ⟨-, -, wf, -⟩ := g.canon
  obtain ⟨clean, ⟨left, there⟩, enough⟩ := State.makeChanges_keeps (m := 0) 4 g.noErr resident ⟨op, g.busy, g.noWait, room⟩
  have leaves := State.workTitle_leaves clean there
  have work := State.holdsStepWork_first g.noErr wf from_ absent resident
  obtain ⟨t, row, ends⟩ := g.sweepStep_row (work := State.holdsStepWork) kind
    (by rw [work]; exact State.hasRoom_congr leaves.queue.engine enough)
  rw [work] at ends
  exact ⟨t, s.workTitle n, left, row, clean, there, leaves, ends⟩

/-- Settles O49: the step is `workTitle` on the first RESIDENT title, four changes at most are one after another the first one
due, and each posts its notices against two reserved entries. -/
theorem holdsStepWorksTheNextTitle : Obligations.HoldsStepWorksTheNextTitle := by
  refine ⟨fun s op x n tt g kind room from_ absent resident => ?_, fun s n tt clean resident =>
    ⟨State.makeChanges_eq clean resident, s.dueChange_cases tt, fun i h held => ?_, fun i h deadline copy ready => ?_,
      fun i => ⟨rfl, ?_⟩, fun op busy quiet room => ⟨fun before i after h queue distinct held => ?_,
        fun i h day copy left ready => ?_, fun i => ?_⟩⟩⟩
  · obtain ⟨t, w, left, row, clean, there, leaves, ends⟩ := g.holdsStep_row kind room from_ absent resident
    refine ⟨t, left, row, there, fun m mem other => ends.kept m (by rwa [leaves.queue.link]) ?_, fun unclaimed => ?_,
      fun c due => ends.tables.trans (leaves.stays c due), fun none_ => ?_⟩
    · cases m with
      | laneState l life reason gen roll => exact absurd rfl (other l life reason gen roll)
      | _ => rfl
    · rw [ends.only unclaimed, leaves.queue.link]
    · have tables := ends.tables.trans (leaves.ends none_)
      rw [State.finishTitle_tables clean] at tables
      have may := (State.makeChanges n 4 s).mayRelease_iff left
      exact ⟨fun gone => tables.trans (if_pos (may.mpr gone)), fun kept => tables.trans (if_neg fun yes => kept (may.mp yes))⟩
  · have made := State.resumeEntry_tables clean resident tt.id i h
    have sweep : (s.resumeEntry ⟨n, tt.id, i, h⟩).sweep = s.sweep := congrArg Tables.sweep made
    dsimp only
    rw [State.makeChange_resume, State.mapCurrent_tables, made, sweep]
    rfl
  · have removed := State.removeEntry_tables clean resident tt.id i .expired
    have made := State.offerCopy_tables (State.removeEntry_upsets clean resident tt.id i .expired)
      (State.removeEntry_titleAt clean resident tt.id i .expired) copy (some h.branch)
    have sweep : ((s.removeEntry n tt.id i .expired).offerCopy n copy (some h.branch)).1.sweep = s.sweep :=
      (congrArg Tables.sweep made).trans (congrArg Tables.sweep removed)
    dsimp only
    rw [State.makeChange_expire, State.offerSetAside_ready ready, State.mapCurrent_tables, sweep]
    rfl
  · exact congrArg Tables.sweep (State.removeEntry_tables clean resident tt.id i .lost)
  · have made := (State.resumeEntry_spends clean resident busy quiet room tt.id i h).mapCurrent Summary.countResumed
    rw [State.position_eq queue distinct] at made
    exact ⟨made.outbound, made.clean, made.left⟩
  · intro w there
    obtain rfl := Option.some.inj ((State.removeEntry_titleAt clean resident tt.id i .expired).symm.trans there)
    have gone := State.removeEntry_spends clean resident busy quiet (by omega) tt.id i .expired
    have deadlines := State.removeEntry_pickupDeadline clean resident tt.id i .expired
    have change : s.makeChange n tt.id (.expire i h) = _ := s.makeChange_expire n tt.id i h
    rw [State.offerSetAside_ready ready] at change
    obtain ⟨o, busy', quiet', left⟩ := gone.left
    obtain ⟨traps, shelves⟩ := State.offerCopy_spends gone.clean there busy' quiet' (by omega) copy (some h.branch)
    dsimp only
    rw [change]
    refine ⟨fun j g first => ?_, fun none_ => ?_⟩
    · have made := (gone.followed busy' (traps (j, g) first)).mapCurrent Summary.countExpired
      rw [deadlines] at made
      exact ⟨made.outbound, made.clean, made.left⟩
    · obtain ⟨logged, faults, unlogged, offers⟩ := shelves none_
      have made := (gone.followed busy' offers).mapCurrent Summary.countExpired
      exact ⟨logged, faults, unlogged, made.outbound, made.clean, made.left⟩
  · have made := (State.removeEntry_spends clean resident busy quiet (by omega) tt.id i .lost).le (k := 2) (by omega)
    exact ⟨made.outbound, made.clean, made.left⟩

end Sys2Proof.Machine
end

section
/-! PROOF. The tags and the TAGS line through writes and checked reads: only a read of a map entry or of a tag record changes
them, and it keeps the line equal to the waiting tags (R148, R155, R186). -/

namespace Sys2Proof.Machine

/-- The tags and the TAGS line. -/
def State.tagPart (s : State) : Vector Tag 32 × List Nat := (s.tags, s.tagLine)

/-- The line holds exactly the waiting numbers, each once. -/
def Lined (p : Vector Tag 32 × List Nat) : Prop :=
  p.2.Nodup ∧ (∀ n ∈ p.2, n < 32) ∧ ∀ n : Fin 32, n.val ∈ p.2 ↔ (p.1.get n).waits = true

theorem State.lineAgrees_iff {s : State} : s.lineAgrees ↔ Lined s.tagPart := Iff.rfl

theorem State.tagPart_of_tables {s t : State} (h : t.tables = s.tables) : t.tagPart = s.tagPart :=
  congrArg (fun x : Tables => (x.tags, x.tagLine)) h

theorem State.foldl_tagPart {α : Type} {f : State → α → State} (step : ∀ t a, (f t a).tagPart = t.tagPart) (xs : List α)
    (s : State) : (xs.foldl f s).tagPart = s.tagPart := by
  induction xs generalizing s with
  | nil => rfl
  | cons x xs ih => exact (ih _).trans (step s x)

theorem State.foldl_lined {α : Type} {f : State → α → State} (step : ∀ t a, Lined t.tagPart → Lined (f t a).tagPart)
    (xs : List α) {s : State} (h : Lined s.tagPart) : Lined (xs.foldl f s).tagPart := by
  induction xs generalizing s with
  | nil => exact h
  | cons x xs ih => exact ih (step s x h)

variable (s : State)

/-! ## Writes, posts and faults -/

@[simp] theorem State.setPatron_tagPart (n : Nat) (r : PatronRec) : (s.setPatron n r).tagPart = s.tagPart := rfl
@[simp] theorem State.freePatron_tagPart (n : Nat) : (s.freePatron n).tagPart = s.tagPart := rfl
@[simp] theorem State.putPatrons_tagPart (t : Tbl PatronRec) : (s.putPatrons t).tagPart = s.tagPart := rfl
@[simp] theorem State.setLoan_tagPart (n : Nat) (r : LoanRec) : (s.setLoan n r).tagPart = s.tagPart := rfl
@[simp] theorem State.freeLoan_tagPart (n : Nat) : (s.freeLoan n).tagPart = s.tagPart := rfl
@[simp] theorem State.setTitle_tagPart (n : Nat) (r : TitleRec) : (s.setTitle n r).tagPart = s.tagPart := rfl
@[simp] theorem State.freeTitle_tagPart (n : Nat) : (s.freeTitle n).tagPart = s.tagPart := rfl
@[simp] theorem State.putTitles_tagPart (t : Tbl TitleRec) : (s.putTitles t).tagPart = s.tagPart := rfl
@[simp] theorem State.setPool_tagPart (n : Nat) (r : PoolRec) : (s.setPool n r).tagPart = s.tagPart := rfl
@[simp] theorem State.freePool_tagPart (n : Nat) : (s.freePool n).tagPart = s.tagPart := rfl
@[simp] theorem State.putPool_tagPart (t : Tbl PoolRec) : (s.putPool t).tagPart = s.tagPart := rfl
@[simp] theorem State.forgetEntry_tagPart (n : Nat) : (s.forgetEntry n).tagPart = s.tagPart := rfl
@[simp] theorem State.setLane_tagPart (l : Lane) (u : LaneUnit) : (s.setLane l u).tagPart = s.tagPart := rfl
@[simp] theorem State.setSweep_tagPart (w : Sweep) : (s.setSweep w).tagPart = s.tagPart := rfl
@[simp] theorem State.mapCurrent_tagPart (f : Summary → Summary) : (s.mapCurrent f).tagPart = s.tagPart := rfl
@[simp] theorem State.mapOp_tagPart (f : Op → Op) : (s.mapOp f).tagPart = s.tagPart := rfl

@[simp] theorem State.mapPatron_tagPart (n : Nat) (f : Patron → Patron) : (s.mapPatron n f).tagPart = s.tagPart := by
  unfold State.mapPatron
  split <;> rfl

@[simp] theorem State.mapTitle_tagPart (n : Nat) (f : Title → Title) : (s.mapTitle n f).tagPart = s.tagPart := by
  unfold State.mapTitle
  split <;> rfl

@[simp] theorem State.touchDay_tagPart (n : Nat) : (s.touchDay n).tagPart = s.tagPart := by
  unfold State.touchDay
  split <;> rfl

@[simp] theorem State.post_tagPart (n : Notice) : (s.post n).tagPart = s.tagPart := State.tagPart_of_tables (s.post_tables n)

@[simp] theorem State.postBalance_tagPart (n : Nat) : (s.postBalance n).tagPart = s.tagPart :=
  State.tagPart_of_tables (s.postBalance_tables n)

@[simp] theorem State.logFault_tagPart (c : FaultClass) (src : Source) (ctx : Context) :
    (s.logFault c src ctx).tagPart = s.tagPart := State.tagPart_of_tables (s.logFault_tables c src ctx)

@[simp] theorem State.logDamage_tagPart (r : RecordId) : (s.logDamage r).tagPart = s.tagPart := by
  unfold State.logDamage State.logMemory
  split <;> simp

@[simp] theorem State.hand_tagPart (o : Option Origin) (n : StationNotice) : (s.hand o n).tagPart = s.tagPart := by
  cases o <;> rfl

/-! ## Writes of a tag (R147, R152, R155) -/

variable {s}

/-- A tag written that waits as before, and the line left. -/
theorem Lined.setTag (h : Lined s.tagPart) {n : Fin 32} {x : Tag} (same : x.waits = (s.tags.get n).waits) :
    Lined (s.setTag n x).tagPart := by
  obtain ⟨once, below, waiting⟩ : s.lineAgrees := h
  obtain ⟨own, others⟩ := vector_get_set s.tags n x
  refine ⟨once, below, fun k => (waiting k).trans ?_⟩
  by_cases e : k = n
  · rw [e, ← same]
    exact (congrArg (fun y : Tag => y.waits = true) own).symm.to_iff
  · exact (congrArg (fun y : Tag => y.waits = true) (others k e)).symm.to_iff

/-- A tag that comes to wait, at the end of the line. -/
theorem Lined.toLineEnd (h : Lined s.tagPart) {n : Fin 32} {x : Tag} (waits : x.waits = true) :
    Lined ((s.setTag n x).toLineEnd n.val).tagPart := by
  obtain ⟨once, below, waiting⟩ : s.lineAgrees := h
  obtain ⟨own, others⟩ := vector_get_set s.tags n x
  have left (k : Nat) : k ∈ s.tagLine.filter (· != n.val) ++ [n.val] ↔ k ∈ s.tagLine ∧ k ≠ n.val ∨ k = n.val := by simp
  refine ⟨?_, fun k mem => ?_, fun k => (left k.val).trans ?_⟩
  · exact (once.filter _).append (List.nodup_singleton _) (by simp)
  · rcases (left k).mp mem with ⟨mem, -⟩ | e
    · exact below k mem
    · exact e ▸ n.isLt
  · show _ ↔ ((s.tags.set n x n.isLt).get k).waits = true
    by_cases e : k = n
    · simp [e, own, waits]
    · rw [others k e, ← waiting k]
      have apart : k.val ≠ n.val := fun same => e (Fin.ext same)
      simp [apart]

/-- A tag that waits no more, taken out of the line. -/
theorem Lined.retireTag (h : Lined s.tagPart) (n : Nat) : Lined (s.retireTag n).tagPart := by
  by_cases lt : n < 32
  · obtain ⟨once, below, waiting⟩ : s.lineAgrees := h
    obtain ⟨own, others, line⟩ := s.retireTag_tags ⟨n, lt⟩
    unfold State.tagPart Lined
    rw [line]
    refine ⟨once.filter _, fun k mem => below k (List.mem_of_mem_filter mem), fun k => ?_⟩
    by_cases e : k = ⟨n, lt⟩
    · rw [e, own]
      simp [Tag.waits, Tag.retired]
    · have apart : k.val ≠ n := fun same => e (Fin.ext same)
      rw [others k e, ← waiting k]
      simp [apart]
  · unfold State.retireTag
    rwa [dif_neg lt]

theorem State.freeTag_free {n : Fin 32} (found : s.freeTag = some n) : (s.tags.get n).state = .free :=
  of_decide_eq_true (List.find?_some found :)

/-- The allocation of a FREE number. -/
theorem Lined.allocateTag (h : Lined s.tagPart) {n : Fin 32} (free : (s.tags.get n).state = .free) (kind : TagKind)
    (subject reserve : Nat) (o : Option Origin) (k : Option Parked) :
    Lined (s.allocateTag n kind subject reserve o k).tagPart :=
  h.setTag (by simp [Tag.waits, free])

/-! ## Checked reads (R185, R186) -/

/-- The tables whose reads change tags: the map and the tag records. -/
abbrev OfTags (t : Table) : Prop := t = .tag ∨ t = .tagMap

@[simp] theorem State.check_tagPart (s : State) (r : RecordId) : (s.check r).2.tagPart = s.tagPart := by
  unfold State.check
  dsimp only
  split
  · rfl
  · exact State.logFault_tagPart _ _ _ _
  · rfl

section Reader

variable {read : Reader} (reads : ∀ r t, ¬ OfTags r.table → (read r t).tagPart = t.tagPart) {r : RecordId}
include reads

theorem State.scanBy_tagPart (s : State) {t : Table} (other : ¬ OfTags t) :
    (State.scanBy read t s).tagPart = s.tagPart :=
  State.foldl_tagPart (fun _ _ => reads _ _ other) _ _

theorem State.recountBy_tagPart (s : State) (n : Nat) : (State.recountBy read n s).tagPart = s.tagPart := by
  unfold State.recountBy
  split
  · exact (State.mapTitle_tagPart _ _ _).trans (State.foldl_tagPart (fun _ _ => reads _ _ (by simp)) _ _)
  · rfl

theorem State.markDamaged_tagPart (s : State) (other : ¬ OfTags r.table) :
    (State.markDamaged read r s).tagPart = s.tagPart := by
  unfold State.markDamaged
  dsimp only
  split
  case h_5 e => exact absurd (.inl e) other
  all_goals repeat' split
  all_goals simp [State.scanBy_tagPart reads, State.recountBy_tagPart reads]

theorem State.recoverPlace_tagPart (s : State) (other : ¬ OfTags r.table) :
    (State.recoverPlace read r s).tagPart = s.tagPart := by
  have forgotten (u : State) : (u.forgetId r).tagPart = u.tagPart := by
    unfold State.forgetId
    split <;> rfl
  have others (u : State) : (State.scanOthers read r u).tagPart = u.tagPart := by
    refine State.scanBy_tagPart (fun q t e => ?_) u other
    split
    · rfl
    · exact reads q t e
  unfold State.recoverPlace
  dsimp only
  split
  case h_4 e => exact absurd (.inr e) other
  all_goals repeat' split
  all_goals simp [State.scanBy_tagPart reads, others, forgotten]

theorem State.lost_tagPart (s : State) (other : ¬ OfTags r.table) : (State.lost read r s).tagPart = s.tagPart := by
  have both (u : State) (p q : RecordId) (e : ¬ OfTags q.table) :
      (u.bothLost read p q).tagPart = u.tagPart := by simp [State.bothLost, State.recoverPlace_tagPart reads u e]
  obtain ⟨table, slot⟩ := r
  unfold State.lost State.placeLost State.recordLost
  dsimp only
  cases table <;> simp only [besideTable, indexTable] <;> repeat' split
  all_goals simp_all [State.recoverPlace_tagPart reads, State.markDamaged_tagPart reads]

end Reader

/-- A read of any table but the map's and the tags' own leaves the tags and the line. -/
theorem State.readBy_tagPart (fuel : Nat) (r : RecordId) (s : State) (other : ¬ OfTags r.table) :
    (State.readBy fuel r s).tagPart = s.tagPart := by
  induction fuel generalizing r s with
  | zero => rfl
  | succ fuel ih =>
    unfold State.readBy
    dsimp only
    split
    · rfl
    · split
      · exact (State.lost_tagPart (fun r t e => ih r t e) _ other).trans (s.check_tagPart r)
      · exact s.check_tagPart r

@[simp] theorem State.readRecord_tagPart (s : State) (r : RecordId) (other : ¬ OfTags r.table) :
    (s.readRecord r).tagPart = s.tagPart := State.readBy_tagPart _ r s other

theorem Lined.markDamaged (h : Lined s.tagPart) (read : Reader) (n : Nat) :
    Lined (s.markDamaged read ⟨.tag, n⟩).tagPart := by
  unfold State.markDamaged
  dsimp only
  repeat' split
  · exact h.toLineEnd (n := ⟨n, ‹_›⟩) rfl
  · exact h.setTag rfl
  · exact h

theorem Lined.recoverPlace (h : Lined s.tagPart) (read : Reader) (n : Nat) :
    Lined (s.recoverPlace read ⟨.tagMap, n⟩).tagPart := by
  unfold State.recoverPlace
  dsimp only
  split
  · exact h.toLineEnd (n := ⟨n, ‹_›⟩) rfl
  · exact h

/-- An uncorrectable error in a map entry or in a tag record. -/
theorem Lined.lost (h : Lined s.tagPart) (read : Reader) {r : RecordId} (own : OfTags r.table) :
    Lined (s.lost read r).tagPart := by
  have placed {u : State} (h : Lined u.tagPart) (n : Nat) := h.recoverPlace read n
  have marked {u : State} (h : Lined u.tagPart) (n : Nat) := h.markDamaged read n
  obtain ⟨table, n⟩ := r
  unfold State.lost State.placeLost State.recordLost State.bothLost
  cases table <;> simp only [OfTags, reduceCtorEq, or_self] at own <;> simp only [besideTable, indexTable] <;>
    repeat' split
  all_goals simp [h, placed, marked]

/-- Every read keeps the line equal to the waiting tags. -/
@[simp] theorem Lined.readRecord (h : Lined s.tagPart) (r : RecordId) : Lined (s.readRecord r).tagPart := by
  by_cases own : OfTags r.table
  · unfold State.readRecord State.readBy
    dsimp only
    have checked : Lined (s.check r).2.tagPart := by rwa [State.check_tagPart]
    repeat' split
    · exact h
    · exact checked.lost _ own
    · exact checked
  · rwa [State.readRecord_tagPart s r own]

variable (s)

@[simp] theorem State.readPatron_tagPart (n : Nat) : (s.readPatron n).tagPart = s.tagPart := s.readRecord_tagPart _ (by simp)
@[simp] theorem State.readLoan_tagPart (n : Nat) : (s.readLoan n).tagPart = s.tagPart := s.readRecord_tagPart _ (by simp)
@[simp] theorem State.readTitle_tagPart (n : Nat) : (s.readTitle n).tagPart = s.tagPart := s.readRecord_tagPart _ (by simp)
@[simp] theorem State.readPool_tagPart (n : Nat) : (s.readPool n).tagPart = s.tagPart := s.readRecord_tagPart _ (by simp)

@[simp] theorem State.scanTable_tagPart {t : Table} (other : ¬ OfTags t) : (s.scanTable t).tagPart = s.tagPart :=
  State.scanBy_tagPart (fun r u => u.readRecord_tagPart r) s other

@[simp] theorem State.searchFrom_tagPart {t : Table} (other : ¬ OfTags t) (start : Nat)
    (found : State → Option Nat) : (s.searchFrom t start found).tagPart = s.tagPart := by
  refine State.foldl_tagPart (fun u n => ?_) _ _
  split <;> simp [other]

@[simp] theorem State.searchPlaces_tagPart {t : Table} (other : ¬ OfTags t) (found : State → Option Nat) :
    (s.searchPlaces t found).tagPart = s.tagPart := s.searchFrom_tagPart other 0 found

@[simp] theorem State.lookUpPatron_tagPart (id : Nat) : (s.lookUpPatron id).tagPart = s.tagPart := by
  unfold State.lookUpPatron
  dsimp only
  split <;> simp

@[simp] theorem State.lookUpCopy_tagPart (id : Nat) : (s.lookUpCopy id).tagPart = s.tagPart := by
  unfold State.lookUpCopy
  dsimp only
  split <;> simp

@[simp] theorem State.lookUpTitle_tagPart (id : Nat) : (s.lookUpTitle id).tagPart = s.tagPart := by
  unfold State.lookUpTitle
  dsimp only
  split <;> simp

@[simp] theorem State.readFreePatron_tagPart : s.readFreePatron.tagPart = s.tagPart := s.searchPlaces_tagPart (by simp) _
@[simp] theorem State.readFreeLoan_tagPart : s.readFreeLoan.tagPart = s.tagPart := s.searchPlaces_tagPart (by simp) _
@[simp] theorem State.readFreeTitle_tagPart : s.readFreeTitle.tagPart = s.tagPart := s.searchPlaces_tagPart (by simp) _
@[simp] theorem State.readFreePool_tagPart : s.readFreePool.tagPart = s.tagPart := s.searchPlaces_tagPart (by simp) _

@[simp] theorem State.readQueue_tagPart (q : List QueueItem) : (s.readQueue q).tagPart = s.tagPart :=
  State.foldl_tagPart (f := fun u (i : QueueItem) => u.readPool i.slot) (fun u i => u.readPool_tagPart i.slot) q s

@[simp] theorem State.readQueueOf_tagPart (n : Nat) : (s.readQueueOf n).tagPart = s.tagPart := by
  unfold State.readQueueOf
  split <;> simp

@[simp] theorem State.readQueueById_tagPart (title : Nat) : (s.readQueueById title).tagPart = s.tagPart := by
  unfold State.readQueueById
  split <;> simp

@[simp] theorem State.readTitleQueue_tagPart (title : Nat) : (s.readTitleQueue title).tagPart = s.tagPart := by
  simp [State.readTitleQueue]

@[simp] theorem State.listSearch_tagPart (n : Nat) : (s.listSearch n).tagPart = s.tagPart := by simp [State.listSearch]

/-! ## Reads of the tags -/

variable {s}

@[simp] theorem Lined.readTag (h : Lined s.tagPart) (n : Nat) : Lined (s.readTag n).tagPart := (h.readRecord _).readRecord _

@[simp] theorem Lined.scanTable (h : Lined s.tagPart) (t : Table) : Lined (s.scanTable t).tagPart :=
  State.foldl_lined (fun _ _ h => h.readRecord _) _ h

@[simp] theorem Lined.scanTags (h : Lined s.tagPart) : Lined s.scanTags.tagPart := (h.scanTable _).scanTable _

theorem Lined.searchFrom (h : Lined s.tagPart) (t : Table) (start : Nat) (found : State → Option Nat) :
    Lined (s.searchFrom t start found).tagPart := by
  refine State.foldl_lined (fun u n h => ?_) _ h
  split <;> simp [h]

@[simp] theorem Lined.readFreeTag (h : Lined s.tagPart) : Lined s.readFreeTag.tagPart := by
  have from_ (fuel : Nat) : ∀ start t, Lined t.tagPart → Lined (State.readFreeTagFrom fuel start t).tagPart := by
    induction fuel with
    | zero => exact fun _ _ h => h
    | succ fuel ih =>
      intro start t h
      have searched := h.searchFrom .tagMap start fun s => s.freeTag.map Fin.val
      unfold State.readFreeTagFrom
      dsimp only
      repeat' split
      · exact searched
      · exact searched.readRecord _
      · exact ih _ _ (searched.readRecord _)
  exact from_ _ _ s h

@[simp] theorem Lined.readForSlot (h : Lined s.tagPart) : Lined s.readForSlot.tagPart := by
  unfold State.readForSlot
  dsimp only
  repeat' split
  all_goals simp [h]

@[simp] theorem Lined.readTagField (h : Lined s.tagPart) (x : TagField) : Lined (s.readTagField x).tagPart := by
  unfold State.readTagField
  split <;> simp [h]

@[simp] theorem Lined.readTagId (h : Lined s.tagPart) (x : TagId) : Lined (s.readTagId x).tagPart := by
  unfold State.readTagId
  split <;> simp [h]

end Sys2Proof.Machine
end

section
/-! PROOF. The tags and the TAGS line through the work of the engine's operations. Most of it leaves them; what allocates,
reads or retires a tag keeps the line equal to the waiting tags. -/

namespace Sys2Proof.Machine

variable (s : State)

/-! ## Serving a patron (R9, R16, R19) -/

@[simp] theorem State.evaluate_tagPart (n : Nat) : (s.evaluate n).1.tagPart = s.tagPart := by
  unfold State.evaluate State.logCeiling State.writeWalk
  dsimp only
  repeat' split
  all_goals simp

@[simp] theorem State.blockCompare_tagPart (n : Nat) : (s.blockCompare n).tagPart = s.tagPart := s.mapPatron_tagPart n _

@[simp] theorem State.catchUp_tagPart (n : Nat) : (s.catchUp n).tagPart = s.tagPart := by
  have evaluated (loans : List Nat) : (s.evaluateAll loans).tagPart = s.tagPart :=
    State.foldl_tagPart (fun u n => u.evaluate_tagPart n) loans s
  unfold State.catchUp
  dsimp only
  repeat' split
  all_goals simp [evaluated]

@[simp] theorem Lined.fetchOnMiss {s : State} (h : Lined s.tagPart) (id : Nat) : Lined (s.fetchOnMiss id).1.tagPart := by
  unfold State.fetchOnMiss
  dsimp only
  repeat' split
  case h_4 found => simpa using h.readFreeTag.readForSlot.allocateTag (State.freeTag_free found) _ _ _ _ _
  all_goals simp [h]

theorem Lined.servePatron {s : State} (h : Lined s.tagPart) {body : Nat → Patron → State → Served}
    (keeps : ∀ n p u, Lined u.tagPart → Lined (body n p u).1.tagPart) (id width : Nat) (lost : Patron → Answer) :
    Lined (s.servePatron id width lost body).1.tagPart := by
  unfold State.servePatron
  dsimp only
  repeat' split
  all_goals simp [h, keeps]

theorem State.namePatron_tagPart {body : Nat → Patron → State → Confirmed} (keeps : ∀ n p u, (body n p u).1.tagPart = u.tagPart)
    (id : Nat) : (s.namePatron id body).1.tagPart = s.tagPart := by
  unfold State.namePatron
  dsimp only
  repeat' split
  all_goals simp [keeps]

@[simp] theorem State.takeOff_tagPart (slot amount : Nat) : (s.takeOff slot amount).tagPart = s.tagPart := by
  simp [State.takeOff]

end Sys2Proof.Machine
end

section
/-! PROOF. The work of the requests, the messages and the tag expiries leaves the Sweep Unit and the close day, but for a
DAY_CLOSE. -/

namespace Sys2Proof.Machine

variable (s : State)

/-! ## Hold queues -/

@[simp] theorem State.trap_tagPart (n title : Nat) (x : QueueItem × Hold) (copy ret : Option Nat) :
    (s.trap n title x copy ret).tagPart = s.tagPart := by simp [State.trap]

@[simp] theorem State.offerCopy_tagPart (n : Nat) (copy ret : Option Nat) : (s.offerCopy n copy ret).1.tagPart = s.tagPart := by
  unfold State.offerCopy State.shelve State.logCountClamp
  dsimp only
  repeat' split
  all_goals simp

@[simp] theorem State.trapFromShelf_tagPart (n title : Nat) (x : QueueItem × Hold) :
    (s.trapFromShelf n title x).tagPart = s.tagPart := by simp [State.trapFromShelf]

@[simp] theorem State.drainRead_tagPart (n : Nat) : (s.drainRead n).tagPart = s.tagPart := by
  have steps (k : Nat) : ∀ u, (State.drainSteps n k u).tagPart = u.tagPart := by
    induction k with
    | zero => exact fun _ => rfl
    | succ k ih =>
      intro u
      unfold State.drainSteps
      repeat' split
      all_goals simp [ih]
  unfold State.drainRead
  split
  · exact steps _ s
  · rfl

@[simp] theorem State.drain_tagPart (n : Nat) : (s.drain n).tagPart = s.tagPart := by simp [State.drain]

@[simp] theorem State.removeEntry_tagPart (n title : Nat) (i : QueueItem) (reason : HoldChange) :
    (s.removeEntry n title i reason).tagPart = s.tagPart := by
  have dropped (u : State) (patron : Nat) : (u.dropFromHolds patron title).tagPart = u.tagPart := by
    unfold State.dropFromHolds
    split <;> simp
  simp [State.removeEntry, dropped]

@[simp] theorem State.checkPatron_tagPart (p : Patron) (title : Nat) : (s.checkPatron p title).1.tagPart = s.tagPart := by
  have read : (p.loans.foldl State.readLoan s).tagPart = s.tagPart := State.foldl_tagPart State.readLoan_tagPart _ s
  unfold State.checkPatron
  dsimp only
  repeat' split
  all_goals simp [read]

@[simp] theorem State.placeOn_tagPart (pslot patron tslot branch : Nat) (until_ : Option Nat) :
    (s.placeOn pslot patron tslot branch until_).1.tagPart = s.tagPart := by
  have read : (s.readForEntry tslot).tagPart = s.tagPart := by
    unfold State.readForEntry
    dsimp only
    repeat' split
    all_goals simp
  have posted (u : State) (title position : Nat) (st : HoldState) :
      (u.postPlaced title patron branch position st).tagPart = u.tagPart := by
    unfold State.postPlaced
    dsimp only
    split <;> simp
  unfold State.placeOn State.makeEntry
  dsimp only
  repeat' split
  all_goals simp [read, posted]

@[simp] theorem State.nameEntry_tagPart (p : Patron) (title : Nat) : (s.nameEntry p title).1.tagPart = s.tagPart := by
  unfold State.nameEntry
  dsimp only
  repeat' split
  all_goals simp

@[simp] theorem State.cancelEntry_tagPart (e : NamedEntry) : (s.cancelEntry e).tagPart = s.tagPart := by
  unfold State.cancelEntry State.offerSetAside
  split <;> simp

@[simp] theorem State.changeEntry_tagPart (e : NamedEntry) (st : HoldState) : (s.changeEntry e st).tagPart = s.tagPart := by
  simp [State.changeEntry]

@[simp] theorem State.resumeEntry_tagPart (e : NamedEntry) : (s.resumeEntry e).tagPart = s.tagPart := by
  unfold State.resumeEntry
  dsimp only
  repeat' split
  all_goals simp

/-! ## Lane requests -/

@[simp] theorem State.renewOne_tagPart (pslot : Nat) (loans : List Nat) (n : Nat) :
    (s.renewOne pslot loans n).1.tagPart = s.tagPart := by
  have checked (u : State) (patron : Nat) (l : Loan) : (u.renewChecked patron n l).1.tagPart = u.tagPart := by
    unfold State.renewChecked State.renewTo
    dsimp only
    repeat' split
    all_goals simp
  unfold State.renewOne
  dsimp only
  repeat' split
  all_goals simp [checked]

theorem State.renewEach_tagPart (pslot : Nat) (loans ns : List Nat) : (State.renewEach pslot loans ns s).1.tagPart = s.tagPart := by
  induction ns generalizing s with
  | nil => rfl
  | cons n ns ih => exact (ih _).trans (s.renewOne_tagPart pslot loans n)

@[simp] theorem State.raiseParked_tagPart (o : Origin) : (s.raiseParked o).tagPart = s.tagPart := by
  unfold State.raiseParked
  dsimp only
  split <;> rfl

theorem Lined.parkPlacement {s : State} (h : Lined s.tagPart) (o : Origin) (patron title branch : Nat)
    (until_ : Option Nat) : Lined (s.parkPlacement o patron title branch until_).1.tagPart := by
  unfold State.parkPlacement
  dsimp only
  repeat' split
  case h_3 n free _ _ _ _ _ =>
    have tags : s.readFreeTag.readFreeTitle.tags = s.readFreeTag.tags := congrArg Prod.fst (State.readFreeTitle_tagPart _)
    have read : Lined s.readFreeTag.readFreeTitle.tagPart := by simpa using h.readFreeTag
    simpa using read.allocateTag (n := n) (by rw [tags]; exact State.freeTag_free free) _ _ _ _ _
  all_goals simp [h]

theorem Lined.reserveCard {s : State} (h : Lined s.tagPart) (o : Origin) {n : Fin 32} (free : s.freeTag = some n)
    (slot : Nat) (p : Patron) (reserve cardRef : Nat) : Lined (s.reserveCard o n slot p reserve cardRef).tagPart := by
  have tags : (s.mapPatron slot fun p => { p with pending := p.pending + reserve }).tags = s.tags :=
    congrArg Prod.fst (s.mapPatron_tagPart _ _)
  have reserved : Lined (s.mapPatron slot fun p => { p with pending := p.pending + reserve }).tagPart := by simpa using h
  simpa [State.reserveCard] using reserved.allocateTag (n := n) (by rw [tags]; exact State.freeTag_free free) _ _ _ _ _

theorem ReqCode.work_lined (code : ReqCode) (op : Op) {s : State} (h : Lined s.tagPart) :
    Lined (code.work op s).1.tagPart := by
  cases code with
  | account =>
    refine h.servePatron (fun n p u h => ?_) _ _ _
    rwa [show _ = u.tagPart from
      (State.foldl_tagPart State.readTitleQueue_tagPart _ _).trans (State.foldl_tagPart State.readLoan_tagPart _ _)]
  | renew =>
    refine h.servePatron (fun n p u h => ?_) _ _ _
    dsimp only
    split <;> simp [h]
  | renewAll =>
    refine h.servePatron (fun n p u h => ?_) _ _ _
    dsimp only
    split
    · exact h
    · simpa [State.renewEach_tagPart] using h
  | placeHold =>
    refine h.servePatron (fun n p u h => ?_) _ _ _
    have checked : Lined (u.checkPatron p (op.field 1)).1.tagPart := by simpa using h
    split <;> rename_i e <;> rw [e] at checked
    · exact checked
    · rename_i v
      have found : Lined (v.lookUpTitle (op.field 1)).tagPart := by simpa using checked
      dsimp only
      split
      · exact found.parkPlacement _ _ _ _ _
      · exact found
      · exact found
      · rename_i tslot _ _
        have placed until_ : Lined ((v.lookUpTitle (op.field 1)).placeOn n p.id tslot (op.field 2) until_).1.tagPart := by
          simpa using found
        split <;> rename_i e <;> have placed := e ▸ placed _ <;> exact placed
  | cancelHold =>
    refine h.servePatron (fun n p u h => ?_) _ _ _
    have named : Lined (u.nameEntry p (op.field 1)).1.tagPart := by simpa using h
    split <;> rename_i e <;> rw [e] at named
    · exact named
    · simpa using named
  | suspendHold =>
    refine h.servePatron (fun n p u h => ?_) _ _ _
    have named : Lined (u.nameEntry p (op.field 1)).1.tagPart := by simpa using h
    split <;> rename_i e <;> rw [e] at named
    · exact named
    · unfold State.suspendEntry
      repeat' split
      all_goals simpa using named
  | resumeHold =>
    refine h.servePatron (fun n p u h => ?_) _ _ _
    have named : Lined (u.nameEntry p (op.field 1)).1.tagPart := by simpa using h
    split <;> rename_i e <;> rw [e] at named
    · exact named
    · split
      all_goals simpa using named
  | payCash =>
    refine h.servePatron (fun n p u h => ?_) _ _ _
    repeat' split
    all_goals simp [h]
  | payCard =>
    refine h.servePatron (fun n p u h => ?_) _ _ _
    dsimp only
    repeat' split
    case h_2 free =>
      dsimp only
      exact h.readFreeTag.reserveCard _ free _ _ _ _
    all_goals simp [h]
  | detail => exact h
  | poll =>
    show Lined (State.pollWork op s).1.tagPart
    unfold State.pollWork
    split <;> exact h

/-! ## LOAN_OPEN and RETURN -/

theorem State.loanOpenWork_tagPart (m : Message) : (State.loanOpenWork m s).1.tagPart = s.tagPart := by
  have slots (u : State) (p : Patron) (copy : Nat) (isRestore : Bool) :
      (u.loanSlot p copy isRestore).1.tagPart = u.tagPart := by
    unfold State.loanSlot
    dsimp only
    repeat' split
    all_goals simp
  have opened (u : State) (n pslot : Nat) (overwrites : Bool) (l : Loan) :
      (u.openLoan n pslot overwrites l).tagPart = u.tagPart := by
    unfold State.openLoan
    dsimp only
    split <;> simp
  have lowered (u : State) (n : Nat) (x : Title) : (u.lowerShelf n x).tagPart = u.tagPart := by
    unfold State.lowerShelf State.logCountClamp
    split <;> simp
  have out (u : State) (title : Nat) : (u.checkOut title).tagPart = u.tagPart := by
    unfold State.checkOut
    split
    · exact lowered u _ _
    · rfl
  have picked (u : State) (patron title copy : Nat) : (u.pickUp patron title copy).tagPart = u.tagPart := by
    unfold State.pickUp State.logMismatch
    dsimp only
    repeat' split
    all_goals simp [lowered]
  unfold State.loanOpenWork
  split
  · rename_i copy title patron cls due pickup restore
    split
    · refine s.namePatron_tagPart (fun n p u => ?_) _
      have found := (slots (u.lookUpCopy copy) p copy restore.isSome).trans (u.lookUpCopy_tagPart copy)
      dsimp only
      split <;> rename_i e <;> rw [e] at found
      · exact found
      · dsimp only
        split
        · exact (out _ _).trans ((State.lookUpTitle_tagPart _ _).trans ((opened _ _ _ _ _).trans found))
        · exact (picked _ _ _ _).trans ((State.lookUpTitle_tagPart _ _).trans ((opened _ _ _ _ _).trans found))
    · rfl
  · rfl

theorem State.endLoan_tagPart (copy : Nat) : (s.endLoan copy).1.tagPart = s.tagPart := by
  have owner (u : State) (n : Nat) : (u.readOwner n).tagPart = u.tagPart := by
    unfold State.readOwner
    repeat' split
    all_goals simp
  unfold State.endLoan State.endActive
  dsimp only
  repeat' split
  all_goals simp [owner]

theorem State.returnWork_tagPart (m : Message) : (State.returnWork m s).1.tagPart = s.tagPart := by
  have offered (u : State) (copy title branch : Nat) : (u.offerReturned copy title branch).1.tagPart = u.tagPart := by
    unfold State.offerReturned
    dsimp only
    split <;> simp
  unfold State.returnWork
  split
  · split
    · rfl
    · exact (offered _ _ _ _).trans (s.endLoan_tagPart _)
  · rfl

/-! ## PATRON_LOAD -/

@[simp] theorem State.newResident_tagPart (slot id category balance : Nat) :
    (s.newResident slot id category balance).1.tagPart = s.tagPart := by
  unfold State.newResident
  dsimp only
  split <;> simp

@[simp] theorem Lined.satisfyTag {s : State} (h : Lined s.tagPart) (tag : TagId) : Lined (s.satisfyTag tag).tagPart := by
  unfold State.satisfyTag
  dsimp only
  repeat' split
  all_goals simp [h, h.retireTag]

@[simp] theorem Lined.restorePatron {s : State} (h : Lined s.tagPart) (slot id category balance : Nat) :
    Lined (s.restorePatron slot id category balance).1.tagPart := by simp [State.restorePatron, h]

theorem Lined.loadPatron {s : State} (h : Lined s.tagPart) (id found category balance : Nat) (isMatch : Bool) :
    Lined (s.loadPatron id found category balance isMatch).1.tagPart := by
  have caught (u : State) : (u.caughtUp id).tagPart = u.tagPart := by
    unfold State.caughtUp
    repeat' split
    all_goals simp
  have changed (u : State) (slot : Nat) : (u.changeCategory slot category).1.tagPart = u.tagPart := by
    unfold State.changeCategory
    dsimp only
    split <;> simp
  have present {u : State} (h : Lined u.tagPart) : Lined (u.patronFound id category balance).1.tagPart := by
    unfold State.patronFound
    dsimp only
    repeat' split
    all_goals simp [h, changed]
  have absent {u : State} (h : Lined u.tagPart) : Lined (u.patronNotFound id isMatch).1.tagPart := by
    unfold State.patronNotFound
    repeat' split
    all_goals simp [h]
  unfold State.loadPatron
  dsimp only
  split <;> simp [h, present, absent, caught]

theorem Lined.patronLoadWork {s : State} (h : Lined s.tagPart) (m : Message) :
    Lined (State.patronLoadWork m s).1.tagPart := by
  unfold State.patronLoadWork State.logStaleReply
  dsimp only
  repeat' split
  case h_2 => exact ((h.readTagField _).retireTag _).loadPatron _ _ _ _ _
  all_goals simp [h, Lined.loadPatron, State.badMessage]

/-! ## TITLE_LOAD -/

@[simp] theorem State.restoreTitle_tagPart (n title shelf : Nat) : (s.restoreTitle n title shelf).tagPart = s.tagPart := by
  have owner (u : State) (i : QueueItem) : (u.checkOwner n title i).tagPart = u.tagPart := by
    unfold State.checkOwner
    dsimp only
    repeat' split
    all_goals simp
  have lists (u : State) (k : Nat) : (u.checkHoldList n title k).tagPart = u.tagPart := by
    unfold State.checkHoldList
    repeat' split
    all_goals simp
  have pools (u : State) : u.freeDamagedPool.tagPart = u.tagPart := by
    unfold State.freeDamagedPool
    split <;> simp
  simp [State.restoreTitle, pools, State.foldl_tagPart lists, State.foldl_tagPart owner]

@[simp] theorem Lined.titleFound {s : State} (h : Lined s.tagPart) (title shelf : Nat) :
    Lined (s.titleFound title shelf).1.tagPart := by
  unfold State.titleFound State.newTitle
  dsimp only
  repeat' split
  all_goals simp [h]

@[simp] theorem State.completeParked_tagPart (k : Parked) (title n : Nat) : (s.completeParked k title n).1.tagPart = s.tagPart := by
  unfold State.completeParked
  dsimp only
  split
  · simp
  · rename_i pslot _
    split
    · have touched := (State.touchDay_tagPart _ pslot).trans (s.lookUpPatron_tagPart k.patron)
      split
      · exact touched
      · rename_i p _
        have checked := (State.checkPatron_tagPart _ p title).trans touched
        split <;> rename_i e <;> rw [e] at checked
        · exact checked
        · have placed := (State.placeOn_tagPart _ pslot p.id n k.branch k.until_).trans checked
          split <;> rename_i e <;> rw [e] at placed <;> exact placed
    · simp
    · simp

@[simp] theorem State.handHoldResult_tagPart (q : Question) (number : Nat) (o : NoticeOutcome) :
    (s.handHoldResult q number o).tagPart = s.tagPart := by
  unfold State.handHoldResult
  split <;> simp

theorem Lined.loadTitle {s : State} (h : Lined s.tagPart) (title found shelf : Nat) (qs : List (Question × Nat)) :
    Lined (s.loadTitle title found shelf qs).1.tagPart := by
  have notFound : Lined (s.titleNotFound title).1.tagPart := by
    unfold State.titleNotFound
    split <;> simp [h]
  have completes (slot : Option Nat) (u : State) (q : Question × Nat) :
      (u.completeQuestion title slot q.1 q.2).tagPart = u.tagPart := by
    unfold State.completeQuestion
    split <;> simp
  unfold State.loadTitle
  split
  · simpa [State.foldl_tagPart fun (u : State) (q : Question × Nat) => u.handHoldResult_tagPart q.1 q.2 _] using notFound
  · simpa [State.foldl_tagPart (completes _)] using h.titleFound title (min shelf 255)

theorem Lined.titleLoadWork {s : State} (h : Lined s.tagPart) (m : Message) :
    Lined (State.titleLoadWork m s).1.tagPart := by
  have fetch {u : State} (h : Lined u.tagPart) (title : Nat) : Lined (u.readFetchTag title).tagPart := by
    unfold State.readFetchTag
    split <;> simp [h]
  unfold State.titleLoadWork State.logStaleReply
  dsimp only
  repeat' split
  case h_2 tag _ _ _ _ _ _ _ _ =>
    have retired := (h.readTagField tag).retireTag tag.number
    exact (fetch (by simpa using retired) _).loadTitle _ _ _ _
  all_goals simp [h, Lined.loadTitle, State.badMessage, fetch]

/-! ## AUTH_RESULT and the other messages -/

@[simp] theorem State.handCardResult_tagPart (q : Question) (number amount : Nat) (o : NoticeOutcome) :
    (s.handCardResult q number amount o).tagPart = s.tagPart := s.hand_tagPart _ _

theorem Lined.authResultWork {s : State} (h : Lined s.tagPart) (m : Message) :
    Lined (State.authResultWork m s).1.tagPart := by
  have applied (u : State) (slot : Nat) (q : Question) (number amount : Nat) (clamped : Bool) :
      (u.applyAuth slot q number amount clamped).1.tagPart = u.tagPart := by
    unfold State.applyAuth
    dsimp only
    split <;> simp
  have matched (u : State) (q : Question) (number amount : Nat) : (u.authMatched q number amount).1.tagPart = u.tagPart := by
    unfold State.authMatched State.authLost
    dsimp only
    repeat' split
    all_goals simp [applied]
  unfold State.authResultWork State.logStaleReply
  dsimp only
  repeat' split
  all_goals simp [h, matched, Lined.retireTag, State.badMessage]

theorem State.dayCloseWork_tagPart (m : Message) : (State.dayCloseWork m s).1.tagPart = s.tagPart := by
  unfold State.dayCloseWork
  dsimp only
  repeat' split
  all_goals rfl

theorem State.calendarWork_tagPart (m : Message) : (State.calendarWork m s).1.tagPart = s.tagPart := by
  unfold State.calendarWork
  dsimp only
  repeat' split
  all_goals rfl

theorem State.scheduleWork_tagPart (m : Message) : (State.scheduleWork m s).1.tagPart = s.tagPart := by
  unfold State.scheduleWork
  dsimp only
  repeat' split
  all_goals rfl

theorem State.waiveWork_tagPart (m : Message) : (State.waiveWork m s).1.tagPart = s.tagPart := by
  unfold State.waiveWork
  split
  · refine s.namePatron_tagPart (fun n p u => ?_) _
    dsimp only
    repeat' split
    all_goals simp
  · rfl

theorem State.holdPlaceWork_tagPart (m : Message) : (State.holdPlaceWork m s).1.tagPart = s.tagPart := by
  unfold State.holdPlaceWork
  split
  · rename_i patron title branch until_
    split
    · rfl
    · refine s.namePatron_tagPart (fun n p u => ?_) _
      have checked := u.checkPatron_tagPart p title
      split <;> rename_i e <;> rw [e] at checked
      · exact checked
      · rename_i v
        have found := (v.lookUpTitle_tagPart title).trans checked
        dsimp only
        split
        · exact found
        · exact found
        · exact found
        · rename_i tslot _ _
          have placed := (State.placeOn_tagPart _ n p.id tslot branch until_).trans found
          split <;> rename_i e <;> rw [e] at placed <;> exact placed
  · rfl

theorem State.holdCancelWork_tagPart (m : Message) : (State.holdCancelWork m s).1.tagPart = s.tagPart := by
  unfold State.holdCancelWork
  split
  · rename_i patron title
    refine s.namePatron_tagPart (fun n p u => ?_) _
    have named := u.nameEntry_tagPart p title
    split <;> rename_i e <;> rw [e] at named
    · exact named
    · exact (State.cancelEntry_tagPart _ _).trans named
  · rfl

theorem State.laneControlWork_tagPart {act : State → Lane → State × Status} (acts : ∀ u l, (act u l).1.tagPart = u.tagPart)
    (action : Nat) (m : Message) : (State.laneControlWork action act m s).1.tagPart = s.tagPart := by
  unfold State.laneControlWork
  split
  · split
    · exact acts _ _
    · rfl
  · rfl

theorem State.controlLane_tagPart (l : Lane) (u : LaneUnit) : (s.controlLane l u).tagPart = s.tagPart :=
  State.tagPart_of_tables ((State.announceByOp_tables _ l).trans rfl)

theorem State.enableLane_tagPart (l : Lane) : (s.enableLane l).1.tagPart = s.tagPart := by
  unfold State.enableLane
  dsimp only
  split <;> simp [State.controlLane_tagPart]

theorem State.disableLane_tagPart (l : Lane) : (s.disableLane l).1.tagPart = s.tagPart := by
  have answered (u : State) : (u.answerHeldCall l).tagPart = u.tagPart := State.tagPart_of_tables (u.answerHeldCall_tables l)
  unfold State.disableLane
  dsimp only
  repeat' split
  all_goals simp [State.controlLane_tagPart, answered]

theorem State.abortLane_tagPart (l : Lane) : (s.abortLane l).1.tagPart = s.tagPart := by
  unfold State.abortLane
  split <;> simp [State.controlLane_tagPart]

/-! ## TAG_EXPIRY -/

theorem State.expireQuestion_tagPart (q : Question) (tag : TagId) : (s.expireQuestion q tag).tagPart = s.tagPart := by
  unfold State.expireQuestion State.endPatronFetch State.endTitleFetch State.endCardAuth
  dsimp only
  repeat' split
  all_goals simp

theorem Lined.expireDamaged {s : State} (h : Lined s.tagPart) (t : Tag) (n : Nat) :
    Lined (s.expireDamaged t n).tagPart := by
  have settles (u : State) (n : Nat) : (u.settlePending n).tagPart = u.tagPart := by
    unfold State.settlePending
    repeat' split
    all_goals simp
  have recounts (u : State) (l : Lane) : (u.recountParked l).tagPart = u.tagPart := by
    unfold State.recountParked
    dsimp only
    split <;> rfl
  refine Lined.retireTag ?_ n
  simp [State.freeFetchesOf, State.foldl_tagPart settles, State.foldl_tagPart recounts, h]

theorem Lined.expiryWork {s : State} (h : Lined s.tagPart) (n : Nat) : Lined (State.expiryWork n s).tagPart := by
  unfold State.expiryWork
  dsimp only
  repeat' split
  all_goals simp [h, Lined.expireDamaged, State.expireQuestion_tagPart, Lined.retireTag]

/-! ## The sweep's steps (R131 to R140) -/

theorem State.loansStepWork_tagPart : s.loansStepWork.tagPart = s.tagPart := by
  have next (ns : List Nat) (u : State) : (State.nextLoan ns u).1.tagPart = u.tagPart := by
    induction ns generalizing u with
    | nil => rfl
    | cons n ns ih =>
      unfold State.nextLoan
      dsimp only
      repeat' split
      all_goals simp [ih]
  have reported (u : State) (n : Nat) (f : Figures) : (u.reportCharge n f).tagPart = u.tagPart := by
    unfold State.reportCharge
    repeat' split
    all_goals simp
  have searched := next (s.slotsFrom .copyIndex (s.loans.map Prod.fst) s.sweep.cursor) s
  unfold State.loansStepWork
  split <;> rename_i e <;> rw [e] at searched
  all_goals simpa [reported] using searched

@[simp] theorem State.makeChanges_tagPart (n k : Nat) : (State.makeChanges n k s).tagPart = s.tagPart := by
  have changed (u : State) (title : Nat) (c : Change) : (u.makeChange n title c).tagPart = u.tagPart := by
    have offered (u : State) (x : Hold) : (u.offerSetAside n x).tagPart = u.tagPart := by
      unfold State.offerSetAside
      split <;> simp
    unfold State.makeChange
    split <;> simp [offered]
  induction k generalizing s with
  | zero => rfl
  | succ k ih =>
    unfold State.makeChanges
    dsimp only
    repeat' split
    all_goals simp [changed, ih]

theorem Lined.workTitle {s : State} (h : Lined s.tagPart) (n : Nat) : Lined (s.workTitle n).tagPart := by
  have finished {u : State} (h : Lined u.tagPart) (x : Title) : Lined (u.finishTitle n x).tagPart := by
    unfold State.finishTitle
    dsimp only
    repeat' split
    all_goals simp [h]
  unfold State.workTitle
  dsimp only
  repeat' split
  all_goals simp [h, finished]

theorem State.closeSweep_tagPart : s.closeSweep.tagPart = s.tagPart := by
  have read : s.readToClose.tagPart = s.tagPart := by
    unfold State.readToClose
    dsimp only
    split <;> simp
  simpa [State.closeSweep, State.closePatrons] using read

theorem Lined.holdsStepWork {s : State} (h : Lined s.tagPart) : Lined s.holdsStepWork.tagPart := by
  have next (ns : List Nat) (u : State) : (State.nextTitle ns u).1.tagPart = u.tagPart := by
    induction ns generalizing u with
    | nil => rfl
    | cons n ns ih =>
      unfold State.nextTitle
      dsimp only
      repeat' split
      all_goals simp [ih]
  have searched := next (s.slotsFrom .titleIndex (s.titles.map Prod.fst) s.sweep.cursor) s
  rw [← searched] at h
  unfold State.holdsStepWork
  split <;> rename_i e <;> rw [e] at h
  · rwa [State.closeSweep_tagPart]
  · exact h.workTitle _

/-- The scrubber's read (R187). -/
theorem Lined.scrubOne {s : State} (h : Lined s.tagPart) (r : RecordId) : Lined (s.scrubOne r).tagPart := by
  unfold State.scrubOne
  split <;> simp [h]

end Sys2Proof.Machine
end

section
/-! PROOF. Every step keeps the TAGS line equal to the waiting tags (R148, R152, R155). -/

namespace Sys2Proof.Machine

variable {s t : State}

/-! ## The rows of the operations -/

/-- A row performs a work that keeps the line equal to the waiting tags. -/
def KeepsLine (row : Crossing → Instr) : Prop :=
  ∃ mine work, (∀ op u, Lined u.tagPart → Lined (work op u).tagPart) ∧
    ∀ x s, exec (row x) s = State.command (State.perform mine work x) s

theorem KeepsLine.message {row : Crossing → Instr} {mine : OpKind → Bool} {work : Message → State → Confirmed}
    (works : ∀ m u, Lined u.tagPart → Lined (work m u).1.tagPart)
    (e : ∀ x s, exec (row x) s = State.message mine work x s) : KeepsLine row := by
  refine ⟨mine, _, fun op u h => ?_, e⟩
  split
  · simpa [State.confirm] using works _ u h
  · exact h

/-- A message that leaves the tags and the line. -/
theorem KeepsLine.same {row : Crossing → Instr} {mine : OpKind → Bool} {work : Message → State → Confirmed}
    (works : ∀ m u, (work m u).1.tagPart = u.tagPart) (e : ∀ x s, exec (row x) s = State.message mine work x s) :
    KeepsLine row := .message (fun m u h => by rwa [works m u]) e

theorem Message.keepsLine (m : Message) : KeepsLine m.command := by
  cases m with
  | loanOpen => exact .same (fun m u => u.loanOpenWork_tagPart m) fun _ _ => rfl
  | returnCopy => exact .same (fun m u => u.returnWork_tagPart m) fun _ _ => rfl
  | patronLoad => exact .message (fun m _ h => h.patronLoadWork m) fun _ _ => rfl
  | titleLoad => exact .message (fun m _ h => h.titleLoadWork m) fun _ _ => rfl
  | authResult => exact .message (fun m _ h => h.authResultWork m) fun _ _ => rfl
  | dayClose => exact .same (fun m u => u.dayCloseWork_tagPart m) fun _ _ => rfl
  | calendar => exact .same (fun m u => u.calendarWork_tagPart m) fun _ _ => rfl
  | schedule => exact .same (fun m u => u.scheduleWork_tagPart m) fun _ _ => rfl
  | waive => exact .same (fun m u => u.waiveWork_tagPart m) fun _ _ => rfl
  | holdPlace => exact .same (fun m u => u.holdPlaceWork_tagPart m) fun _ _ => rfl
  | holdCancel => exact .same (fun m u => u.holdCancelWork_tagPart m) fun _ _ => rfl
  | laneControl lane action =>
    match action with
    | 0 => exact .same (fun m u => u.laneControlWork_tagPart State.enableLane_tagPart 0 m) fun _ _ => rfl
    | 1 => exact .same (fun m u => u.laneControlWork_tagPart State.disableLane_tagPart 1 m) fun _ _ => rfl
    | _ + 2 => exact .same (fun m u => u.laneControlWork_tagPart State.abortLane_tagPart 2 m) fun _ _ => rfl
  | statusRead => exact .message (fun _ _ h => h.scanTable _) fun _ _ => rfl
  | faultRead => exact .same (fun _ _ => rfl) fun _ _ => rfl
  | faultClear => exact .same (fun _ _ => rfl) fun _ _ => rfl
  | restart => exact .same (fun _ _ => rfl) fun _ _ => rfl

theorem OpKind.keepsLine (k : OpKind) : KeepsLine k.command := by
  cases k with
  | request code fields =>
    exact ⟨_, fun op s => State.answer (code.work op s), fun op _ h => code.work_lined op h, code.exec_command⟩
  | message kind m => exact m.keepsLine
  | loansStep => exact ⟨_, _, fun _ u h => by rwa [u.loansStepWork_tagPart], fun _ _ => rfl⟩
  | holdsStep => exact ⟨_, _, fun _ _ h => h.holdsStepWork, fun _ _ => rfl⟩
  | tagExpiry n =>
    refine ⟨_, _, fun op u h => ?_, fun _ _ => rfl⟩
    split
    · exact h.expiryWork _
    · exact h

namespace State.lineAgrees

theorem of_tables (h : s.lineAgrees) (tables : t.tables = s.tables) : t.lineAgrees :=
  State.lineAgrees_iff.mpr (by rw [State.tagPart_of_tables tables]; exact State.lineAgrees_iff.mp h)

/-! ## A due reset, taken before the command (R11) -/

/-- After a warm reset every number is FREE, and the line empty. -/
theorem takeDueReset (h : s.lineAgrees) : s.takeDueReset.lineAgrees := by
  unfold State.takeDueReset
  split
  · rw [State.warmReset_eq]
    refine of_tables (s := s.cleared) ⟨.nil, nofun, fun n => ⟨nofun, fun waits => ?_⟩⟩ (State.search_tables _)
    have free : (s.cleared.tags.get n).waits = false := congrArg Tag.waits (Vector.getElem_map Tag.retired n.isLt)
    exact absurd (free.symm.trans waits) nofun
  · exact h

end State.lineAgrees

theorem State.takeDueReset_settled (s : State) : s.takeDueReset.settled := by
  unfold State.takeDueReset
  split
  · rw [State.warmReset_eq, State.cleared_search_frame]
    rfl
  · rename_i h
    exact (Bool.not_eq_true _).mp h

theorem State.command_takeDueReset (f : State → State) (s : State) :
    State.command f s.takeDueReset = State.command f s := by
  have again : s.takeDueReset.takeDueReset = s.takeDueReset := if_neg (by rw [s.takeDueReset_settled]; exact nofun)
  unfold State.command
  rw [again]

namespace State.lineAgrees

/-! ## The commands -/

theorem command {f : State → State} (keeps : ∀ u, u.lineAgrees → (f u).lineAgrees) (h : s.lineAgrees)
    (e : State.command f s = .next t) : t.lineAgrees := by
  cases e
  exact of_tables (keeps _ h.takeDueReset) rfl

theorem operation (h : s.lineAgrees) (k : OpKind) (x : Crossing) (e : exec (k.command x) s = .next t) : t.lineAgrees := by
  obtain ⟨mine, work, works, exec_eq⟩ := k.keepsLine
  rw [exec_eq] at e
  refine command (fun u h => ?_) h e
  unfold State.perform
  split
  · split
    · exact of_tables (works _ { u with upsets := u.upsets ++ x.flips } h) (State.complete_tables _ _)
    · exact h
  · exact h

/-- A deadline makes its OUTSTANDING number wait, at the end of the line (R148). -/
theorem passDeadline (h : s.lineAgrees) (n : Fin 32) : (s.passDeadline n).lineAgrees := by
  unfold State.passDeadline
  dsimp only
  split
  · rename_i out
    obtain ⟨once, below, waiting⟩ := h
    have fresh : n.val ∉ s.tagLine := fun mem => by simpa [Tag.waits, out] using (waiting n).mp mem
    have same : s.tagLine ++ [n.val] = s.tagLine.filter (· != n.val) ++ [n.val] := by
      rw [List.filter_eq_self.mpr fun k mem => by simpa using fun e : k = n.val => fresh (e ▸ mem)]
    rw [same]
    exact Lined.toLineEnd (s := s) ⟨once, below, waiting⟩ (x := { s.tags.get n with state := .due }) rfl
  · exact h

theorem passDeadlines (h : s.lineAgrees) (ns : List (Fin 32)) : (ns.foldl State.passDeadline s).lineAgrees := by
  induction ns generalizing s with
  | nil => exact h
  | cons n ns ih => exact ih (h.passDeadline n)

theorem scrubRead (h : s.lineAgrees) (flips : List Flip) : (s.scrubRead flips).lineAgrees := by
  unfold State.scrubRead
  split
  · exact of_tables (Lined.scrubOne (s := { s with upsets := s.upsets ++ flips }) h _) (State.search_tables _)
  · exact h

/-- A command of the link or of the arbiter, which changes no table. -/
theorem sameTables {f : State → State} (h : s.lineAgrees) (same : ∀ u, (f u).tables = u.tables)
    (e : State.command f s = .next t) : t.lineAgrees :=
  command (fun u h => of_tables h (same u)) h e

theorem ofLane (h : s.lineAgrees) {c : Instr} (ofLane : Instr.ofLane c = true) (e : exec c s = .next t) : t.lineAgrees := by
  obtain ⟨f, works, exec_eq | exec_eq⟩ := Instr.ofLane.works ofLane <;> rw [exec_eq] at e
  · exact h.sameTables (fun u => (works u).tables) e
  · exact h.sameTables (fun u => (State.search_tables _).trans (works u).tables) e

/-- A command that a due reset goes before. -/
theorem afterReset (h : s.lineAgrees) {g : State → Host.Outcome State Fault Refusal} (takes : g s.takeDueReset = g s)
    (tables : ∀ {u v}, u.settled → g u = .next v → v.tables = u.tables) (e : g s = .next t) : t.lineAgrees :=
  of_tables h.takeDueReset (tables s.takeDueReset_settled (takes.trans e))

/-- Every command keeps the line equal to the waiting tags. -/
theorem exec (h : s.lineAgrees) (c : Instr) (e : exec c s = .next t) : t.lineAgrees := by
  cases c with
  | powerOn =>
    cases e
    obtain ⟨-, -, -, reset, -⟩ := resetMeetsTheInvariants
    exact of_tables reset rfl
  | resetLineAsserted => exact h.sameTables (fun u => u.assertReset_tables) e
  | warmReset => exact h.sameTables (fun _ => rfl) e
  | linkUp => exact h.afterReset (by unfold execLinkUp; exact State.command_takeDueReset _ s) execLinkUp_tables e
  | linkDown => exact h.afterReset (by unfold execLinkDown; exact State.command_takeDueReset _ s) execLinkDown_tables e
  | inboundFrame =>
    exact h.afterReset (by unfold execInboundFrame; exact State.command_takeDueReset _ s) execInboundFrame_tables e
  | markerConfirm => exact h.sameTables (fun u => (State.search_tables _).trans u.confirmMarker_tables) e
  | overrunConfirm => exact h.sameTables (fun u => (State.search_tables _).trans u.confirmOverrun_tables) e
  | sideListMove => exact h.sameTables (fun u => (State.search_tables _).trans u.moveSideList_tables) e
  | entrySent =>
    exact h.afterReset (by unfold execEntrySent; exact State.command_takeDueReset _ s) execEntrySent_tables e
  | owedFaultPost => exact h.sameTables (fun u => u.postOwedFault_tables) e
  | owedLaneStatePost l => exact h.sameTables (fun u => u.postOwedLaneState_tables l) e
  | waitingRoomPost cs => exact h.sameTables (fun u => u.postWaiting_tables cs) e
  | account x => exact h.operation (.request .account []) x e
  | renew x => exact h.operation (.request .renew []) x e
  | renewAll x => exact h.operation (.request .renewAll []) x e
  | placeHold x => exact h.operation (.request .placeHold []) x e
  | cancelHold x => exact h.operation (.request .cancelHold []) x e
  | suspendHold x => exact h.operation (.request .suspendHold []) x e
  | resumeHold x => exact h.operation (.request .resumeHold []) x e
  | payCash x => exact h.operation (.request .payCash []) x e
  | payCard x => exact h.operation (.request .payCard []) x e
  | detail x => exact h.operation (.request .detail []) x e
  | poll x => exact h.operation (.request .poll []) x e
  | loanOpen x => exact h.operation (.message 1 (.loanOpen 0 0 0 0 0 0 none)) x e
  | returnCopy x => exact h.operation (.message 2 (.returnCopy 0 0 0)) x e
  | patronLoad x => exact h.operation (.message 3 (.patronLoad ⟨false, 0, 0⟩ 0 0 0 0)) x e
  | titleLoad x => exact h.operation (.message 4 (.titleLoad ⟨false, 0, 0⟩ 0 0 0)) x e
  | authResult x => exact h.operation (.message 5 (.authResult ⟨false, 0, 0⟩ 0)) x e
  | dayClose x => exact h.operation (.message 6 (.dayClose 0)) x e
  | calendar x => exact h.operation (.message 7 (.calendar 0 0 [])) x e
  | schedule x => exact h.operation (.message 8 (.schedule 0 0 [])) x e
  | waive x => exact h.operation (.message 9 (.waive 0 0)) x e
  | holdPlace x => exact h.operation (.message 10 (.holdPlace 0 0 0 none)) x e
  | holdCancel x => exact h.operation (.message 11 (.holdCancel 0 0)) x e
  | laneControlEnable x => exact h.operation (.message 12 (.laneControl 0 0)) x e
  | laneControlDisable x => exact h.operation (.message 12 (.laneControl 0 1)) x e
  | laneControlAbort x => exact h.operation (.message 12 (.laneControl 0 2)) x e
  | statusRead x => exact h.operation (.message 13 .statusRead) x e
  | faultRead x => exact h.operation (.message 14 .faultRead) x e
  | faultClear x => exact h.operation (.message 15 .faultClear) x e
  | restart x => exact h.operation (.message 16 .restart) x e
  | loansStep x => exact h.operation .loansStep x e
  | holdsStep x => exact h.operation .holdsStep x e
  | tagExpiry x => exact h.operation (.tagExpiry 0) x e
  | tagDeadline ns => exact command (fun _ h => of_tables (h.passDeadlines _) (State.search_tables _)) h e
  | scrubRead flips => exact command (fun _ h => h.scrubRead flips) h e
  | carrierPresent | carrierLost | settleTimerExpiry | identifyTimerExpiry | roll | replyTimerExpiry | call | req | field
  | accept | stop | halt | acceptOffer | defer | wordCheckFailure => exact h.ofLane rfl e

end State.lineAgrees

/-- Settles O7: by the commands. A tag comes to wait only at a deadline or in a read that loses it, and then joins the end of
the line; it stops waiting only where it is retired, which takes it out; and an allocation takes a FREE number. -/
theorem stepKeepsTagsLine : Obligations.StepKeepsTagsLine := by
  intro s t h e
  unfold step at e
  split at e
  · cases e
    exact h
  · rename_i c rest _
    exact State.lineAgrees.exec (s := { s with pending := rest }) h c e

end Sys2Proof.Machine
end

section
/-! PROOF. The deadlines of a TAG_DEADLINE: the OUTSTANDING numbers named become DUE and join the line in order of number
(R148). -/

namespace Sys2Proof.Machine

/-- The numbers of a list that are OUTSTANDING, in order of number. -/
def State.passing (s : State) (ns : List (Fin 32)) : List (Fin 32) :=
  (List.finRange 32).filter fun n => decide (n ∈ ns ∧ (s.tags.get n).state = .outstanding)

theorem State.mem_passing {s : State} {ns : List (Fin 32)} {n : Fin 32} :
    n ∈ s.passing ns ↔ n ∈ ns ∧ (s.tags.get n).state = .outstanding := by simp [State.passing]

theorem State.passing_sortedLT (s : State) (ns : List (Fin 32)) : (s.passing ns).SortedLT :=
  ((List.sortedLT_finRange 32).pairwise.filter _).sortedLT

/-- What the deadlines of the numbers ns do: those OUTSTANDING are DUE, and stand at the end of the line. -/
structure Passed (s : State) (ns : List (Fin 32)) (t : State) : Prop where
  tags : ∀ n, t.tags.get n =
    if n ∈ ns ∧ (s.tags.get n).state = .outstanding then { s.tags.get n with state := .due } else s.tags.get n
  line : t.tagLine = s.tagLine ++ (s.passing ns).map Fin.val
  frame : t.tables = ({ s with tags := t.tags, tagLine := t.tagLine } : State).tables

theorem State.passDeadline_out {s : State} {n : Fin 32} (out : (s.tags.get n).state = .outstanding) :
    s.passDeadline n = { s.setTag n { s.tags.get n with state := .due } with tagLine := s.tagLine ++ [n.val] } := by
  unfold State.passDeadline
  simp only [out]

theorem State.passDeadline_other {s : State} {n : Fin 32} (other : (s.tags.get n).state ≠ .outstanding) :
    s.passDeadline n = s := by
  unfold State.passDeadline
  dsimp only
  split
  · contradiction
  · rfl

/-- A number that is not OUTSTANDING adds nothing. -/
theorem State.passing_cons_other {s : State} {n : Fin 32} (other : (s.tags.get n).state ≠ .outstanding)
    (ns : List (Fin 32)) : s.passing (n :: ns) = s.passing ns := by
  refine (s.passing_sortedLT _).eq_of_mem_iff (s.passing_sortedLT _) fun k => ?_
  rw [State.mem_passing, State.mem_passing, List.mem_cons]
  refine and_congr_left fun out => or_iff_right fun e => ?_
  exact other (e ▸ out)

/-- The lowest number joins the line first. -/
theorem State.passing_cons_out {s : State} {n : Fin 32} (out : (s.tags.get n).state = .outstanding) {ns : List (Fin 32)}
    (lowest : ∀ k ∈ ns, n ≤ k) : s.passing (n :: ns) = n :: (s.passDeadline n).passing ns := by
  obtain ⟨own, others⟩ := vector_get_set s.tags n { s.tags.get n with state := .due }
  have after (k : Fin 32) : k ∈ (s.passDeadline n).passing ns ↔
      k ≠ n ∧ k ∈ ns ∧ (s.tags.get k).state = .outstanding := by
    rw [State.mem_passing, State.passDeadline_out out]
    show k ∈ ns ∧ ((s.tags.set n _ n.isLt).get k).state = .outstanding ↔ _
    by_cases e : k = n
    · simp [e, own]
    · simp [e, others k e]
  refine (s.passing_sortedLT _).eq_of_mem_iff (List.Pairwise.sortedLT (.cons (fun k mem => ?_) ?_)) fun k => ?_
  · obtain ⟨other, mem, -⟩ := (after k).mp mem
    exact lt_of_le_of_ne (lowest k mem) other.symm
  · exact (State.passing_sortedLT _ _).pairwise
  · rw [State.mem_passing, List.mem_cons, List.mem_cons, after]
    by_cases e : k = n
    · simp [e, out]
    · simp [e]

/-- The deadlines of sorted numbers, each of which may be named more than once. -/
theorem Passed.fold {ns : List (Fin 32)} (sorted : ns.Pairwise (· ≤ ·)) (s : State) :
    Passed s ns (ns.foldl State.passDeadline s) := by
  induction sorted generalizing s with
  | nil => exact ⟨fun n => by simp, by simp [State.passing], rfl⟩
  | @cons n ns lowest _ ih =>
    obtain ⟨tags, line, frame⟩ := ih (s.passDeadline n)
    rw [List.foldl_cons]
    by_cases out : (s.tags.get n).state = .outstanding
    · have made := State.passDeadline_out out
      obtain ⟨own, others⟩ := vector_get_set s.tags n { s.tags.get n with state := .due }
      refine ⟨fun k => ?_, ?_, ?_⟩
      · rw [tags k, made]
        show (if k ∈ ns ∧ ((s.tags.set n _ n.isLt).get k).state = .outstanding then
          { (s.tags.set n _ n.isLt).get k with state := .due } else (s.tags.set n _ n.isLt).get k) = _
        by_cases e : k = n
        · simp [e, own, out]
        · simp [e, others k e]
      · rw [line, State.passing_cons_out out lowest, made]
        simp
      · rw [frame, made]
        rfl
    · rw [State.passDeadline_other out] at tags line frame ⊢
      refine ⟨fun k => (tags k).trans (if_congr ?_ rfl rfl), ?_, frame⟩
      · rw [← State.mem_passing, ← State.mem_passing, State.passing_cons_other out]
      · rw [line, State.passing_cons_other out]

/-- Settles O51: by induction on the sorted numbers, the lowest of which joins the line before the others. -/
theorem deadlinesMakeTagsDueInOrderOfNumber : Obligations.DeadlinesMakeTagsDueInOrderOfNumber := by
  intro s numbers settled
  obtain ⟨tags, line, frame⟩ := Passed.fold (List.pairwise_insertionSort (· ≤ ·) numbers) s
  have members (n : Fin 32) : n ∈ numbers.insertionSort (· ≤ ·) ↔ n ∈ numbers := List.mem_insertionSort _
  have same : s.passing (numbers.insertionSort (· ≤ ·)) = s.passing numbers := by simp only [State.passing, members]
  simp only [members] at tags
  rw [same] at line
  have tables := (State.search_tables ((numbers.insertionSort (· ≤ ·)).foldl State.passDeadline s)).trans frame
  obtain ⟨patrons, loans, titles, pool, calendar, schedule, sweep, tags', line'⟩ := State.tables_eq_iff.mp tables
  have run := State.command_eq s (fun s => ((numbers.insertionSort (· ≤ ·)).foldl State.passDeadline s).search) settled
  refine ⟨_, run, fun n => ?_, line'.trans line, patrons, loans, titles, pool, calendar, schedule, sweep⟩
  exact (congrArg (fun v : Vector Tag 32 => v.get n) tags').trans (tags n)

end Sys2Proof.Machine
end

section
/-! PROOF. The station notice that an operation hands last, at its completion (R10, R153), and the row of a TAG_EXPIRY. -/

namespace Sys2Proof.Machine

variable {s t u v w y : State} {op : Op} {x : Crossing} {o : Option Origin} {notice : StationNotice}

/-! ## Notices handed one after another -/

/-- The attachment of every lane is the same. -/
def SameAttachment (s t : State) : Prop := ∀ l, (t.lane l).life = (s.lane l).life ∧ (t.lane l).gen = (s.lane l).gen

theorem SameStacks.attachment (h : SameStacks s t) : SameAttachment s t := fun l => ⟨h.life l, h.gen l⟩

theorem SameAttachment.trans (h : SameAttachment s t) (h' : SameAttachment t v) : SameAttachment s v :=
  fun l => ⟨(h' l).1.trans (h l).1, (h' l).2.trans (h l).2⟩

theorem SameAttachment.setLane {l : Lane} {x : LaneUnit} (life : x.life = (s.lane l).life) (gen : x.gen = (s.lane l).gen) :
    SameAttachment s (s.setLane l x) := by
  intro k
  by_cases here : k = l
  · subst here
    rw [State.lane_setLane]
    exact ⟨life, gen⟩
  · rw [State.lane_setLane_ne _ _ here]
    exact ⟨rfl, rfl⟩

theorem State.handNotice_attachment (s : State) (o : Origin) (n : StationNotice) : SameAttachment s (s.handNotice o n) := by
  unfold State.handNotice
  dsimp only
  split
  · have stacked : SameAttachment s (s.setLane o.lane ((s.lane o.lane).mapStation o.station fun x => x.stackNotice n)) :=
      .setLane rfl rfl
    exact stacked.trans ((SameStacks.refl _).useIdleLine o.lane).attachment
  · exact (SameStacks.refl s).attachment

theorem State.handNotices_attachment (ns : List (Origin × StationNotice)) (s : State) :
    SameAttachment s (s.handNotices ns) := by
  induction ns generalizing s with
  | nil => exact (SameStacks.refl s).attachment
  | cons n ns ih => exact (s.handNotice_attachment n.1 n.2).trans (ih _)

theorem SameAttachment.standsFor (h : SameAttachment s t) (o : Origin) : t.standsFor o ↔ s.standsFor o := by
  obtain ⟨life, gen⟩ := h o.lane
  unfold State.standsFor LaneUnit.isAttached
  rw [life, gen]

/-- The last notice that an operation hands is on its station's stack afterwards. -/
theorem State.finishOp_stacksLast {o : Origin} {before : List (Origin × StationNotice)} (s : State)
    (last : op.handed = before ++ [(o, notice)]) (runs : op.resetOwed = false) (claims : List Claim)
    (stands : s.standsFor o) : notice ∈ ((s.finishOp op claims).stationAt o).stack := by
  generalize hv : ((s.leaveQueue op).routeAnswer op).handNotices before = v
  have attached : SameAttachment s v := by
    rw [← hv]
    exact (((SameStacks.refl s).leaveQueue op).routeAnswer op).attachment.trans (State.handNotices_attachment before _)
  have handed : ((s.leaveQueue op).routeAnswer op).handNotices op.handed = v.handNotice o notice := by
    rw [last, ← hv]
    exact List.foldl_append
  have stacked := (SameStacks.refl v).stacks_handNotice o notice
  unfold State.finishOp
  dsimp only
  rw [runs, if_neg Bool.false_ne_true, handed]
  have freed : SameStacks (v.handNotice o notice) { v.handNotice o notice with engine := .free } := .of_lanes rfl
  obtain ⟨there, -⟩ := stacked.of_after (freed.claimAll claims).search
  rw [(there ((attached.standsFor o).mpr stands)).1]
  simp

/-! ## The row (R151) -/

theorem Granted.expiry_row {n : Fin 32} (h : Granted s op x) (kind : op.kind = .tagExpiry n.val) :
    exec (.tagExpiry x) s = .next ((State.expiryWork n.val s).complete x.claims).startSending := by
  show execTagExpiry x s = _
  unfold execTagExpiry
  rw [State.command_perform h.noReset h.busy (by rw [kind]; rfl), h.crossed]
  simp only [kind]

/-- An operation with one station notice more. -/
def Op.handing (op : Op) (o : Option Origin) (n : StationNotice) : Op :=
  { op with handed := op.handed ++ (o.map fun o => (o, n)).toList }

theorem State.hand_busy (busy : y.engine = .busy op) (o : Option Origin) (n : StationNotice) :
    (y.hand o n).engine = .busy (op.handing o n) := by
  cases o with
  | none =>
    have same : op.handing none n = op := by simp [Op.handing]
    rwa [same]
  | some o => exact State.mapOp_busy busy _

theorem State.hand_frame (y : State) (o : Option Origin) (n : StationNotice) :
    (y.hand o n).tables = y.tables ∧ (y.hand o n).link = y.link ∧ (y.hand o n).lanes = y.lanes := by
  cases o <;> exact ⟨rfl, rfl, rfl⟩

/-- t is what the completion of a question's expiry leaves of y, the state before its station notice. -/
structure ExpiryEnds (s y t : State) (op : Op) (o : Option Origin) (notice : StationNotice) : Prop where
  tables : t.tables = y.tables
  kept : ∀ n ∈ y.link.outbound, n.isLaneState = false → n ∈ t.link.outbound
  answers : ∀ o', o = some o' → op.resetOwed = false →
    (s.standsFor o' → notice ∈ (t.stationAt o').stack) ∧ (op.handed = [] → Stacks s t o' notice)

/-- An expiry whose posts have all found room. -/
theorem Granted.expiry_ends {n : Fin 32} (h : Granted s op x) (kind : op.kind = .tagExpiry n.val)
    (works : Works (fun _ _ => False) s y) (room : y.hasRoom 0) (made : State.expiryWork n.val s = y.hand o notice) :
    ∃ t, exec (.tagExpiry x) s = .next t ∧ ExpiryEnds s y t op o notice := by
  obtain ⟨tables, link, lanes⟩ := y.hand_frame o notice
  obtain ⟨left, busy, quiet, -⟩ := room
  obtain ⟨done, busy', granted⟩ := (works.plain (K := Adjusts)).carries.op op h.busy
  obtain rfl : left = done := Engine.busy.inj (busy.symm.trans busy')
  obtain ⟨done, busy', handed⟩ := works.handed h.busy
  obtain rfl : left = done := Engine.busy.inj (busy.symm.trans busy')
  have same : SameStacks s (y.hand o notice) := works.sameStacks.trans (.of_lanes lanes)
  have busyDone := State.hand_busy busy o notice
  have e := h.expiry_row kind
  rw [made, State.complete_done busyDone quiet] at e
  refine ⟨_, e, (State.finishOp_tables _ _ _).trans tables, fun n mem notLane => ?_, fun o' origin owed => ⟨fun stands => ?_,
    fun silent => ?_⟩⟩
  · exact State.finishOp_mem _ _ _ (by rwa [link]) notLane
  · subst origin
    have last : (left.handing (some o') notice).handed = left.handed ++ [(o', notice)] := rfl
    have stands' := (same.attachment.standsFor o').mpr stands
    exact State.finishOp_stacksLast (y.hand (some o') notice) last (granted.resetOwed.trans owed) x.claims stands'
  · subst origin
    have one : (left.handing (some o') notice).handed = [(o', notice)] := by simp [Op.handing, handed, silent]
    have stacked := State.finishOp_stacks (y.hand (some o') notice) one (granted.resetOwed.trans owed) x.claims
    exact Stacks.of_before same (stacked.of_after (.of_lanes rfl))

end Sys2Proof.Machine
end

section
/-! PROOF. The expiry of a number whose question is out: the record that waits for the answer, and the station notice (R23, R107,
R119, R151 to R153). -/

namespace Sys2Proof.Machine

variable {s t v y : State} {op : Op} {x : Crossing} {n : Fin 32} {q : Question} {id k : Nat} {tag : TagId} {p : Patron}

/-! ## The tables that an expiry leaves -/

/-- The number is retired, and no table but the patrons' and the titles' has changed otherwise. -/
def EndsTag (s t : State) (n : Fin 32) : Prop :=
  t.tags.get n = (s.tags.get n).retired ∧ (∀ k, k ≠ n → t.tags.get k = s.tags.get k) ∧
    t.tagLine = s.tagLine.filter (· != n.val) ∧ t.loans = s.loans ∧ t.pool = s.pool ∧ t.calendar = s.calendar ∧
    t.schedule = s.schedule ∧ t.sweep = s.sweep

/-- From u to t no table has changed but the patrons' and the titles'. -/
def SameButRecords (u t : State) : Prop := { t.tables with patrons := u.patrons, titles := u.titles } = u.tables

theorem SameButRecords.trans (h : SameButRecords s t) (h' : SameButRecords t v) : SameButRecords s v := by
  unfold SameButRecords at h h' ⊢
  have frame := congrArg (fun y : Tables => { y with patrons := s.patrons, titles := s.titles }) h'
  exact (show _ = _ from frame).trans h

theorem SameButRecords.of_tables (tables : t.tables = s.tables) : SameButRecords s t := by
  unfold SameButRecords
  rw [tables]
  rfl

theorem SameButRecords.endsTag (h : SameButRecords (s.retireTag n.val) t) : EndsTag s t n := by
  have frame := h
  simp only [SameButRecords, State.tables, Tables.mk.injEq] at frame
  obtain ⟨-, loans, -, pool, calendar, schedule, sweep, tags, tagLine⟩ := frame
  obtain ⟨own, others, line⟩ := s.retireTag_tags n
  have made : s.retireTag n.val =
      { s.setTag n (s.tags.get n).retired with tagLine := s.tagLine.filter (· != n.val) } := dif_pos n.isLt
  unfold EndsTag
  rw [tags, tagLine, loans, pool, calendar, schedule, sweep]
  refine ⟨own, others, line, ?_⟩
  rw [made]
  exact ⟨rfl, rfl, rfl, rfl, rfl⟩

/-! ## The work -/

theorem Tag.asked_state {a : Tag} (asked : a.asked = some q) : a.state ≠ .damaged := by
  unfold Tag.asked Tag.isOut at asked
  intro damaged
  simp [damaged] at asked

theorem State.expiryWork_question (clean : s.upsets = []) (asked : (s.tags.get n).asked = some q) :
    State.expiryWork n.val s = (s.retireTag n.val).expireQuestion q ⟨n.val, (s.tags.get n).gen⟩ := by
  have out := Tag.asked_state asked
  unfold State.expiryWork
  rw [dif_pos n.isLt, State.readTag_clean clean]
  dsimp only
  split
  · rename_i damaged
    exact absurd damaged out
  · rw [asked]

/-! ## A FETCHING patron (R23) -/

/-- What the expiry of a patron fetch does to the record that holds its tag. -/
structure EndsPatronFetch (u t : State) (id : Nat) (tag : TagId) : Prop where
  titles : t.titles = u.titles
  frees : ∀ k fetched day, u.findPatron id = some k → Tbl.lookup u.patrons k = some (.fetching fetched day tag) →
    Tbl.lookup t.patrons k = none ∧ ∀ j, j ≠ k → Tbl.lookup t.patrons j = Tbl.lookup u.patrons j
  keeps : (∀ k fetched day, u.findPatron id = some k → Tbl.lookup u.patrons k ≠ some (.fetching fetched day tag)) →
    t.patrons = u.patrons

theorem State.endPatronFetch_cases (clean : v.upsets = []) (id : Nat) (tag : TagId) :
    (∃ k fetched day, v.findPatron id = some k ∧ Tbl.lookup v.patrons k = some (.fetching fetched day tag) ∧
      v.endPatronFetch id tag = v.freePatron k) ∨
    (∀ k fetched day, v.findPatron id = some k → Tbl.lookup v.patrons k ≠ some (.fetching fetched day tag)) ∧
      v.endPatronFetch id tag = v := by
  unfold State.endPatronFetch
  simp only [State.lookUpPatron_clean clean]
  split
  · rename_i absent
    exact .inr ⟨fun k _ _ found => by simp [absent] at found, rfl⟩
  · rename_i k found
    split
    · rename_i fetched day held here
      split
      · rename_i same
        exact .inl ⟨k, fetched, day, found, same ▸ here, rfl⟩
      · rename_i other
        refine .inr ⟨fun j _ _ found' here' => other ?_, rfl⟩
        cases found.symm.trans found'
        cases here.symm.trans here'
        rfl
    · rename_i none_
      refine .inr ⟨fun j fetched day found' here' => ?_, rfl⟩
      cases found.symm.trans found'
      exact none_ _ _ _ here'

theorem State.endPatronFetch_spec (clean : v.upsets = []) (id : Nat) (tag : TagId) :
    (v.endPatronFetch id tag).engine = v.engine ∧ SameButRecords v (v.endPatronFetch id tag) ∧
      EndsPatronFetch v (v.endPatronFetch id tag) id tag := by
  rcases State.endPatronFetch_cases clean id tag with ⟨k, fetched, day, found, here, made⟩ | ⟨none_, made⟩ <;> rw [made]
  · refine ⟨rfl, rfl, rfl, fun j _ _ found' _ => ?_, fun none_ => absurd here (none_ k fetched day found)⟩
    cases found.symm.trans found'
    exact ⟨Tbl.lookup_release_same _ _, fun j other => Tbl.lookup_release_ne _ _ _ other⟩
  · exact ⟨rfl, rfl, rfl, fun k fetched day found here => absurd here (none_ k fetched day found), fun _ => rfl⟩

theorem EndsPatronFetch.of_frame (h : EndsPatronFetch v y id tag) (only : OnlyTags s v) (tables : t.tables = y.tables) :
    EndsPatronFetch s t id tag := by
  obtain ⟨titles, frees, keeps⟩ := h
  obtain ⟨patrons, -, titles', -⟩ := State.tables_eq_iff.mp tables
  have titles'' : v.titles = s.titles := (congrArg State.titles only.same :)
  simp only [only.findPatron, only.patrons, ← patrons] at frees keeps
  exact ⟨titles'.trans (titles.trans titles''), frees, keeps⟩

/-- The expiry of a patron fetch. -/
theorem Granted.expires_patronFetch (h : Granted s op x) (kind : op.kind = .tagExpiry n.val)
    (asked : (s.tags.get n).asked = some q) (fetch : q.kind = .patronFetch) :
    ∃ t, exec (.tagExpiry x) s = .next t ∧ EndsTag s t n ∧
      EndsPatronFetch s t q.subject ⟨n.val, (s.tags.get n).gen⟩ := by
  have only := OnlyTags.retireTag h.noErr n.val
  have works : Works (fun _ _ => False) s _ :=
    (Works.refl.retireTag n.val).endPatronFetch q.subject ⟨n.val, (s.tags.get n).gen⟩
  obtain ⟨engine, frame, fetched⟩ := State.endPatronFetch_spec only.clean q.subject ⟨n.val, (s.tags.get n).gen⟩
  have room : s.hasRoom 0 := ⟨op, h.busy, h.noWait, Nat.zero_le _⟩
  have work := State.expiryWork_question h.noErr asked
  unfold State.expireQuestion at work
  rw [fetch] at work
  obtain ⟨t, next, ends⟩ := h.expiry_ends (o := none) (notice := ⟨.cardResult, 0, 0, .ok, 0, false⟩) kind works
    (State.hasRoom_congr (engine.trans only.engine) room) work
  exact ⟨t, next, (frame.trans (.of_tables ends.tables)).endsTag, fetched.of_frame only ends.tables⟩

/-! ## A FETCHING title (R107) -/

/-- What the expiry of a title fetch does to the record that holds its tag. -/
structure EndsTitleFetch (u t : State) (id : Nat) (tag : TagId) : Prop where
  patrons : t.patrons = u.patrons
  frees : ∀ k fetched, u.findTitle id = some k → Tbl.lookup u.titles k = some (.fetching fetched tag) →
    Tbl.lookup t.titles k = none ∧ ∀ j, j ≠ k → Tbl.lookup t.titles j = Tbl.lookup u.titles j
  keeps : (∀ k fetched, u.findTitle id = some k → Tbl.lookup u.titles k ≠ some (.fetching fetched tag)) →
    t.titles = u.titles

theorem State.titlePlace_fetching_iff {held : TagId} :
    v.titlePlace id = .fetching k held ↔
      v.findTitle id = some k ∧ ∃ fetched, Tbl.lookup v.titles k = some (.fetching fetched held) := by
  constructor
  · intro place
    unfold State.titlePlace at place
    split at place
    · cases place
    · rename_i found
      split at place <;> rename_i here <;> cases place
      exact ⟨found, _, here⟩
  · rintro ⟨found, fetched, here⟩
    exact State.titlePlace_fetching found here

theorem State.endTitleFetch_cases (clean : v.upsets = []) (id : Nat) (tag : TagId) :
    (∃ k fetched, v.findTitle id = some k ∧ Tbl.lookup v.titles k = some (.fetching fetched tag) ∧
      v.endTitleFetch id tag = v.freeTitle k) ∨
    (∀ k fetched, v.findTitle id = some k → Tbl.lookup v.titles k ≠ some (.fetching fetched tag)) ∧
      v.endTitleFetch id tag = v := by
  unfold State.endTitleFetch
  simp only [State.lookUpTitle_clean clean]
  split
  · rename_i k held place
    obtain ⟨found, fetched, here⟩ := State.titlePlace_fetching_iff.mp place
    split
    · rename_i same
      exact .inl ⟨k, fetched, found, same ▸ here, rfl⟩
    · rename_i other
      refine .inr ⟨fun j _ found' here' => other ?_, rfl⟩
      cases found.symm.trans found'
      cases here.symm.trans here'
      rfl
  · rename_i none_
    exact .inr ⟨fun k fetched found here => none_ _ _ (State.titlePlace_fetching found here), rfl⟩

theorem State.endTitleFetch_spec (clean : v.upsets = []) (id : Nat) (tag : TagId) :
    (v.endTitleFetch id tag).engine = v.engine ∧ SameButRecords v (v.endTitleFetch id tag) ∧
      EndsTitleFetch v (v.endTitleFetch id tag) id tag := by
  rcases State.endTitleFetch_cases clean id tag with ⟨k, fetched, found, here, made⟩ | ⟨none_, made⟩ <;> rw [made]
  · refine ⟨rfl, rfl, rfl, fun j _ found' _ => ?_, fun none_ => absurd here (none_ k fetched found)⟩
    cases found.symm.trans found'
    exact ⟨Tbl.lookup_release_same _ _, fun j other => Tbl.lookup_release_ne _ _ _ other⟩
  · exact ⟨rfl, rfl, rfl, fun k fetched found here => absurd here (none_ k fetched found), fun _ => rfl⟩

theorem EndsTitleFetch.of_frame (h : EndsTitleFetch v y id tag) (only : OnlyTags s v) (tables : t.tables = y.tables) :
    EndsTitleFetch s t id tag := by
  obtain ⟨patrons, frees, keeps⟩ := h
  obtain ⟨patrons', -, titles, -⟩ := State.tables_eq_iff.mp tables
  have same : v.titles = s.titles := (congrArg State.titles only.same :)
  simp only [State.findTitle_of_table same, same, ← titles] at frees keeps
  exact ⟨patrons'.trans (patrons.trans only.patrons), frees, keeps⟩

/-- A HOLD_RESULT as a notice handed to the origin of the parked placement. -/
theorem State.handHoldResult_eq_hand (y : State) (q : Question) (number : Nat) (outcome : NoticeOutcome) :
    ∃ o notice, y.handHoldResult q number outcome = y.hand o notice ∧ ∀ o' k, q.origin = some o' → q.parked = some k →
      o = some o' ∧ notice = ⟨.holdResult, k.patron, q.subject, outcome, number, false⟩ := by
  unfold State.handHoldResult
  split
  · rename_i k parked
    exact ⟨q.origin, _, rfl, fun o' k' origin parked' => ⟨origin, by rw [Option.some.inj (parked.symm.trans parked')]⟩⟩
  · rename_i parked
    exact ⟨none, ⟨.holdResult, 0, q.subject, outcome, number, false⟩, rfl, fun o' k' _ parked' => by simp [parked] at parked'⟩

/-- The expiry of a title fetch. -/
theorem Granted.expires_titleFetch (h : Granted s op x) (kind : op.kind = .tagExpiry n.val)
    (asked : (s.tags.get n).asked = some q) (fetch : q.kind = .titleFetch) :
    ∃ t, exec (.tagExpiry x) s = .next t ∧ EndsTag s t n ∧
      EndsTitleFetch s t q.subject ⟨n.val, (s.tags.get n).gen⟩ ∧
      ∀ o k, q.origin = some o → q.parked = some k → op.resetOwed = false →
        let notice : StationNotice := ⟨.holdResult, k.patron, q.subject, .timedOut, n.val, false⟩
        (s.standsFor o → notice ∈ (t.stationAt o).stack) ∧ (op.handed = [] → Stacks s t o notice) := by
  have only := OnlyTags.retireTag h.noErr n.val
  have works : Works (fun _ _ => False) s _ :=
    (Works.refl.retireTag n.val).endTitleFetch q.subject ⟨n.val, (s.tags.get n).gen⟩
  obtain ⟨engine, frame, fetched⟩ := State.endTitleFetch_spec only.clean q.subject ⟨n.val, (s.tags.get n).gen⟩
  have room : s.hasRoom 0 := ⟨op, h.busy, h.noWait, Nat.zero_le _⟩
  have work := State.expiryWork_question h.noErr asked
  unfold State.expireQuestion at work
  rw [fetch] at work
  obtain ⟨o, notice, made, handed⟩ := State.handHoldResult_eq_hand
    ((s.retireTag n.val).endTitleFetch q.subject ⟨n.val, (s.tags.get n).gen⟩) q n.val .timedOut
  obtain ⟨t, next, ends⟩ := h.expiry_ends kind works (State.hasRoom_congr (engine.trans only.engine) room) (work.trans made)
  refine ⟨t, next, (frame.trans (.of_tables ends.tables)).endsTag, fetched.of_frame only ends.tables,
    fun o' k origin parked owed => ?_⟩
  obtain ⟨from_, rfl⟩ := handed o' k origin parked
  exact ends.answers o' from_ owed

/-! ## A card payment (R119) -/

/-- What the expiry of a card payment does to the record of its subject; its BALANCE stands in the queue of y. -/
structure EndsCardAuth (u t y : State) (q : Question) : Prop where
  titles : t.titles = u.titles
  releases : ∀ k p, u.findPatron q.subject = some k → u.patronAt k = some p →
    t.patronAt k = some { p with pending := p.pending - q.reserve } ∧
      (∀ j, j ≠ k → Tbl.lookup t.patrons j = Tbl.lookup u.patrons j) ∧
      .balance p.id p.balance (p.pending - q.reserve) p.blocked ∈ y.link.outbound
  keeps : (∀ k, u.findPatron q.subject = some k → u.patronAt k = none) → t.patrons = u.patrons

/-- The record with a reserve out of its pending credit (R119). -/
def Patron.released (p : Patron) (reserve : Nat) : Patron := { p with pending := p.pending - reserve }

theorem State.endCardAuth_resident (clean : v.upsets = []) (counted : v.balanceIsOptional = false)
    (found : v.findPatron q.subject = some k) (own : v.patronAt k = some p) :
    v.endCardAuth q = ({ v with patrons := Tbl.store v.patrons k (.resident (p.released q.reserve)) } : State).post
      (p.released q.reserve).balanceNotice := by
  unfold State.endCardAuth
  simp only [State.lookUpPatron_clean clean, found, own, State.mapPatron_clean clean own]
  refine State.postBalance_counted (State.patronAt_eq_some.mpr ?_) counted
  exact Tbl.lookup_store_same _ _ _

theorem State.endCardAuth_other (clean : v.upsets = [])
    (none_ : ∀ k, v.findPatron q.subject = some k → v.patronAt k = none) : v.endCardAuth q = v := by
  unfold State.endCardAuth
  simp only [State.lookUpPatron_clean clean]
  split
  · rfl
  · rename_i k found
    rw [none_ k found]

theorem State.endCardAuth_spec (clean : v.upsets = []) (counted : v.balanceIsOptional = false) (room : v.hasRoom 1)
    (q : Question) :
    (v.endCardAuth q).hasRoom 0 ∧ SameButRecords v (v.endCardAuth q) ∧ EndsCardAuth v (v.endCardAuth q) (v.endCardAuth q) q := by
  by_cases resident : ∃ k p, v.findPatron q.subject = some k ∧ v.patronAt k = some p
  · obtain ⟨k, p, found, own⟩ := resident
    rw [State.endCardAuth_resident clean counted found own]
    obtain ⟨c, hc⟩ : ∃ c, c = ({ v with patrons := Tbl.store v.patrons k (.resident (p.released q.reserve)) } : State) := ⟨_, rfl⟩
    rw [← hc]
    obtain ⟨posted, left⟩ := State.post_room (k := 0) (State.hasRoom_congr (t := c) (by rw [hc]) room)
      (p.released q.reserve).balanceNotice
    have tables := c.post_tables (p.released q.reserve).balanceNotice
    have patrons : (c.post (p.released q.reserve).balanceNotice).patrons = c.patrons := congrArg Tables.patrons tables
    have frame : SameButRecords v c ∧ c.titles = v.titles ∧
        c.patrons = Tbl.store v.patrons k (.resident (p.released q.reserve)) := by
      rw [hc]
      exact ⟨rfl, rfl, rfl⟩
    obtain ⟨frame, titles, stored⟩ := frame
    refine ⟨left, frame.trans (.of_tables tables), (congrArg Tables.titles tables).trans titles, fun j p' found' own' => ?_,
      fun none_ => absurd own (by simp [none_ k found])⟩
    cases found.symm.trans found'
    cases own.symm.trans own'
    rw [State.patronAt_eq_some, patrons, stored]
    exact ⟨Tbl.lookup_store_same _ _ _, fun j other => Tbl.lookup_store_ne _ _ _ _ other, posted⟩
  · have none_ (k : Nat) (found : v.findPatron q.subject = some k) : v.patronAt k = none :=
      Option.eq_none_iff_forall_ne_some.mpr fun p own => resident ⟨k, p, found, own⟩
    rw [State.endCardAuth_other clean none_]
    refine ⟨?_, rfl, rfl, fun k p found own => absurd ⟨k, p, found, own⟩ resident, fun _ => rfl⟩
    obtain ⟨op, busy, quiet, -⟩ := room
    exact ⟨op, busy, quiet, Nat.zero_le _⟩

theorem EndsCardAuth.of_frame (h : EndsCardAuth v y y q) (only : OnlyTags s v) (tables : t.tables = y.tables) :
    EndsCardAuth s t y q := by
  obtain ⟨titles, releases, keeps⟩ := h
  obtain ⟨patrons, -, titles', -⟩ := State.tables_eq_iff.mp tables
  have titles'' : v.titles = s.titles := (congrArg State.titles only.same :)
  simp only [only.findPatron, State.patronAt_of_table only.patrons, only.patrons, ← patrons,
    ← State.patronAt_of_table patrons] at releases keeps
  exact ⟨titles'.trans (titles.trans titles''), releases, keeps⟩

/-- The expiry of a card payment. -/
theorem Granted.expires_cardAuth (h : Granted s op x) (kind : op.kind = .tagExpiry n.val) (room : 1 ≤ op.reservation)
    (asked : (s.tags.get n).asked = some q) (card : q.kind = .cardAuth) :
    ∃ t y, exec (.tagExpiry x) s = .next t ∧ EndsTag s t n ∧ EndsCardAuth s t y q ∧
      (∀ m ∈ y.link.outbound, m.isLaneState = false → m ∈ t.link.outbound) ∧
      ∀ o, q.origin = some o → op.resetOwed = false →
        let notice : StationNotice := ⟨.cardResult, q.subject, 0, .timedOut, n.val, false⟩
        (s.standsFor o → notice ∈ (t.stationAt o).stack) ∧ (op.handed = [] → Stacks s t o notice) := by
  have only := OnlyTags.retireTag h.noErr n.val
  have works : Works (fun _ _ => False) s _ := (Works.refl.retireTag n.val).endCardAuth q
  have counted : (s.retireTag n.val).balanceIsOptional = false :=
    (State.balanceIsOptional_congr only.engine).trans (by simp [State.balanceIsOptional, State.op?, h.busy, kind])
  obtain ⟨left, frame, ended⟩ := State.endCardAuth_spec only.clean counted
    (State.hasRoom_congr only.engine ⟨op, h.busy, h.noWait, room⟩) q
  have work := State.expiryWork_question h.noErr asked
  unfold State.expireQuestion at work
  rw [card] at work
  obtain ⟨t, next, ends⟩ := h.expiry_ends kind works left work
  exact ⟨t, _, next, (frame.trans (.of_tables ends.tables)).endsTag, ended.of_frame only ends.tables, ends.kept, ends.answers⟩

end Sys2Proof.Machine
end

section
/-! PROOF. The expiry of a DAMAGED number: the FETCHING records of its tag, the pending credits and the parked counts (R155). -/

namespace Sys2Proof.Machine

variable {s t u v w : State} {op : Op} {x : Crossing} {n : Fin 32} {p : Patron} {k : Nat} {l : Lane}

/-! ## The FETCHING records of the tag (R155 item 1) -/

/-- A patron record that the expiry of a damaged tag leaves. -/
def PatronRec.outlives (a : Tag) (n : Nat) : PatronRec → Bool
  | .fetching _ _ held => !a.isOf n held
  | _ => true

/-- A title record that the expiry of a damaged tag leaves. -/
def TitleRec.outlives (a : Tag) (n : Nat) : TitleRec → Bool
  | .fetching _ held => !a.isOf n held
  | _ => true

theorem Tag.isOf_iff {a : Tag} {n : Nat} {held : TagId} :
    a.isOf n held = true ↔ held.number = n ∧ (a.mapLost = true ∨ held.gen = a.gen) := by simp [Tag.isOf]

theorem State.freeFetchesOf_patrons (v : State) (a : Tag) (n : Nat) :
    (v.freeFetchesOf a n).patrons = v.patrons.filter fun e => e.2.outlives a n := rfl

theorem State.freeFetchesOf_titles (v : State) (a : Tag) (n : Nat) :
    (v.freeFetchesOf a n).titles = v.titles.filter fun e => e.2.outlives a n := rfl

theorem State.freeFetchesOf_frame (v : State) (a : Tag) (n : Nat) : SameButRecords v (v.freeFetchesOf a n) := rfl

theorem State.freeFetchesOf_works (v : State) (a : Tag) (n : Nat) : Works (fun _ _ => False) v (v.freeFetchesOf a n) :=
  (Works.refl.putPatrons _).putTitles _

/-- A table whose records are filtered by what they hold. -/
theorem Tbl.lookup_filterValues {α : Type} {tbl : Tbl α} (wf : Tbl.wf tbl = true) (keep : α → Bool) (k : Nat) :
    Tbl.lookup (tbl.filter fun e => keep e.2) k = (Tbl.lookup tbl k).filter keep := by
  ext v
  rw [Tbl.lookup_eq_some_iff (Tbl.wf_filter _ _ wf), List.mem_filter, ← Tbl.lookup_eq_some_iff wf, Option.filter_eq_some_iff]

/-! ## The pending credits (R155 item 2) -/

theorem State.reserves_of_tags (tags : t.tags = s.tags) : t.reserves = s.reserves := by
  funext patron
  unfold State.reserves State.questions
  rw [tags]

/-- A record with its pending credit at the sum of its reserves. -/
def PatronRec.settles (reserves : Nat → Nat) : PatronRec → PatronRec
  | .resident p => .resident { p with pending := reserves p.id }
  | r => r

theorem PatronRec.settles_settles (reserves : Nat → Nat) (r : PatronRec) :
    (r.settles reserves).settles reserves = r.settles reserves := by cases r <;> rfl

/-- From u to t no table has changed but the patrons'. -/
def SameButPatrons (u t : State) : Prop := { t.tables with patrons := u.patrons } = u.tables

theorem SameButPatrons.trans (h : SameButPatrons s t) (h' : SameButPatrons t v) : SameButPatrons s v := by
  unfold SameButPatrons at h h' ⊢
  have frame := congrArg (fun y : Tables => { y with patrons := s.patrons }) h'
  exact (show _ = _ from frame).trans h

theorem SameButPatrons.rest (h : SameButPatrons u t) : t.titles = u.titles ∧ t.tags = u.tags := by
  simp only [SameButPatrons, State.tables, Tables.mk.injEq] at h
  obtain ⟨-, -, titles, -, -, -, -, tags, -⟩ := h
  exact ⟨titles, tags⟩

theorem SameButPatrons.records (h : SameButPatrons u t) : SameButRecords u t := by
  obtain ⟨titles, -⟩ := h.rest
  unfold SameButRecords
  rw [← titles]
  exact h

/-- A slot whose pending credit is the sum of its reserves. -/
def State.isSettled (v : State) (k : Nat) : Prop := ∀ p, v.patronAt k = some p → p.pending = v.reserves p.id

theorem State.settlePending_settled (settled : v.isSettled k) : v.settlePending k = v := by
  unfold State.settlePending
  split
  · rename_i p own
    exact if_pos (settled p own)
  · rfl

theorem State.settlePending_differs (own : v.patronAt k = some p) (differs : p.pending ≠ v.reserves p.id) :
    v.settlePending k = (v.setPatron k (.resident { p with pending := v.reserves p.id })).postBalance k := by
  unfold State.settlePending
  rw [own]
  exact if_neg differs

theorem State.settlePending_cases (v : State) (k : Nat) :
    v.isSettled k ∨ ∃ p, v.patronAt k = some p ∧ p.pending ≠ v.reserves p.id := by
  by_cases settled : v.isSettled k
  · exact .inl settled
  · unfold State.isSettled at settled
    push Not at settled
    exact .inr settled

theorem State.settlePending_frame (v : State) (k : Nat) : SameButPatrons v (v.settlePending k) := by
  rcases v.settlePending_cases k with settled | ⟨p, own, differs⟩
  · rw [State.settlePending_settled settled]
    rfl
  · rw [State.settlePending_differs own differs]
    unfold SameButPatrons
    rw [State.postBalance_tables]
    rfl

theorem State.isSettled.settles (settled : v.isSettled k) :
    (Tbl.lookup v.patrons k).map (PatronRec.settles v.reserves) = Tbl.lookup v.patrons k := by
  cases here : Tbl.lookup v.patrons k with
  | none => rfl
  | some r =>
    cases r with
    | resident p =>
      have same : { p with pending := v.reserves p.id } = p := by rw [← settled p (State.patronAt_eq_some.mpr here)]
      simp [PatronRec.settles, same]
    | fetching | unknown | damaged => rfl

theorem State.settlePending_lookup (v : State) (n k : Nat) :
    Tbl.lookup (v.settlePending n).patrons k =
      if k = n then (Tbl.lookup v.patrons k).map (PatronRec.settles v.reserves) else Tbl.lookup v.patrons k := by
  rcases v.settlePending_cases n with settled | ⟨p, own, differs⟩
  · rw [State.settlePending_settled settled]
    split
    · rename_i here
      rw [here, settled.settles]
    · rfl
  · have stored : (v.settlePending n).patrons =
        Tbl.store v.patrons n (.resident { p with pending := v.reserves p.id }) := by
      rw [State.settlePending_differs own differs]
      exact congrArg Tables.patrons (State.postBalance_tables _ _)
    rw [stored]
    split
    · rename_i here
      rw [here, State.patronAt_eq_some.mp own]
      exact Tbl.lookup_store_same _ _ _
    · rename_i other
      exact Tbl.lookup_store_ne _ _ _ _ other

theorem State.settleAll_frame (ks : List Nat) (v : State) : SameButPatrons v (ks.foldl State.settlePending v) := by
  induction ks generalizing v with
  | nil => rfl
  | cons n ks ih => exact (v.settlePending_frame n).trans (ih _)

theorem State.settleAll_lookup (ks : List Nat) (v : State) (k : Nat) :
    Tbl.lookup (ks.foldl State.settlePending v).patrons k =
      if k ∈ ks then (Tbl.lookup v.patrons k).map (PatronRec.settles v.reserves) else Tbl.lookup v.patrons k := by
  induction ks generalizing v with
  | nil => simp
  | cons n ks ih =>
    obtain ⟨-, tags⟩ := (v.settlePending_frame n).rest
    rw [List.foldl_cons, ih, State.reserves_of_tags tags, State.settlePending_lookup]
    by_cases here : k = n
    · subst here
      by_cases mem : k ∈ ks <;> cases Tbl.lookup v.patrons k <;> simp [mem, PatronRec.settles_settles]
    · simp [here]

/-- Every slot of the table settled. -/
theorem State.settleAll_all (v : State) (k : Nat) :
    Tbl.lookup ((v.patrons.map Prod.fst).foldl State.settlePending v).patrons k =
      (Tbl.lookup v.patrons k).map (PatronRec.settles v.reserves) := by
  rw [State.settleAll_lookup]
  split
  · rfl
  · rename_i absent
    cases here : Tbl.lookup v.patrons k with
    | none => rfl
    | some r => exact absurd (List.mem_map_of_mem (Tbl.mem_of_lookup here)) absent

theorem State.settlePending_isSettled (v : State) (n j : Nat) (settled : j ≠ n → v.isSettled j) :
    (v.settlePending n).isSettled j := by
  obtain ⟨-, tags⟩ := (v.settlePending_frame n).rest
  intro p own
  rw [State.reserves_of_tags tags]
  rw [State.patronAt_eq_some, State.settlePending_lookup] at own
  split at own
  · obtain ⟨r, -, made⟩ := Option.map_eq_some_iff.mp own
    cases r <;> cases made
    rfl
  · rename_i other
    exact settled other p (State.patronAt_eq_some.mpr own)

/-- With one slot only that differs, the settlement of all of them is its own. -/
theorem State.settleAll_single {ks : List Nat} (mem : k ∈ ks) (v : State) (others : ∀ j, j ≠ k → v.isSettled j) :
    ks.foldl State.settlePending v = v.settlePending k := by
  induction ks generalizing v with
  | nil => simp at mem
  | cons n ks ih =>
    rw [List.foldl_cons]
    by_cases here : n = k
    · subst here
      have settled (j : Nat) : (v.settlePending n).isSettled j := v.settlePending_isSettled n j (others j)
      have rest (ks : List Nat) : ks.foldl State.settlePending (v.settlePending n) = v.settlePending n := by
        induction ks with
        | nil => rfl
        | cons j ks ih => rwa [List.foldl_cons, State.settlePending_settled (settled j)]
      exact rest ks
    · rw [State.settlePending_settled (others n here)]
      exact ih (List.mem_of_ne_of_mem (Ne.symm here) mem) v others

/-! ## The parked counts (R155 item 3) -/

theorem State.parkedAt_of_tags (tags : t.tags = s.tags) : t.parkedAt = s.parkedAt := by
  funext o
  unfold State.parkedAt State.questions
  rw [tags]

theorem LaneUnit.foldl_parked (f : Station → Nat → Nat) (sts : List Station) (y : LaneUnit) :
    let z := sts.foldl (fun y st => y.mapStation st fun x => { x with parked := f st y.gen }) y
    z.life = y.life ∧ z.gen = y.gen ∧
      ∀ st, (z.stations.get st).parked = if st ∈ sts then f st y.gen else (y.stations.get st).parked := by
  induction sts generalizing y with
  | nil => exact ⟨rfl, rfl, fun _ => rfl⟩
  | cons k sts ih =>
    obtain ⟨life, gen, parked⟩ := ih (y.mapStation k fun x => { x with parked := f k y.gen })
    refine ⟨life, gen, fun st => (parked st).trans ?_⟩
    rw [LaneUnit.get_mapStation]
    by_cases here : st = k
    · subst here
      simp [LaneUnit.mapStation]
    · simp [here, LaneUnit.mapStation]

/-- The parked counts of a lane's stations are the questions still out from them. -/
def State.countsParked (v : State) (l : Lane) : Prop :=
  ∀ st, ((v.lane l).stations.get st).parked = v.parkedAt ⟨l, st, (v.lane l).gen⟩

/-- From u to t nothing has changed but the lanes, and those keep their attachment. -/
structure Recounts (u t : State) : Prop where
  attachment : SameAttachment u t
  frame : { t with lanes := u.lanes } = u

theorem Recounts.tags (h : Recounts u t) : t.tags = u.tags := (congrArg State.tags h.frame :)

theorem State.recountParked_recounts (v : State) (l : Lane) : Recounts v (v.recountParked l) := by
  unfold State.recountParked
  dsimp only
  split
  · obtain ⟨life, gen, -⟩ := LaneUnit.foldl_parked (fun st gen => v.parkedAt ⟨l, st, gen⟩) (List.finRange 4) (v.lane l)
    exact ⟨.setLane life gen, rfl⟩
  · exact ⟨fun _ => ⟨rfl, rfl⟩, rfl⟩

theorem State.recountParked_counts (v : State) (l : Lane) (attached : (v.lane l).isAttached = true) :
    (v.recountParked l).countsParked l := by
  obtain ⟨-, gen, parked⟩ := LaneUnit.foldl_parked (fun st gen => v.parkedAt ⟨l, st, gen⟩) (List.finRange 4) (v.lane l)
  intro st
  rw [State.parkedAt_of_tags (v.recountParked_recounts l).tags]
  unfold State.recountParked
  dsimp only
  rw [if_pos attached, State.lane_setLane, gen, parked, if_pos (List.mem_finRange st)]

theorem State.recountParked_other (v : State) {l k : Lane} (other : k ≠ l) : (v.recountParked l).lane k = v.lane k := by
  unfold State.recountParked
  dsimp only
  split
  · exact State.lane_setLane_ne _ _ other
  · rfl

theorem State.recountAll_recounts (ls : List Lane) (v : State) : Recounts v (ls.foldl State.recountParked v) := by
  induction ls generalizing v with
  | nil => exact ⟨fun _ => ⟨rfl, rfl⟩, rfl⟩
  | cons l ls ih =>
    obtain ⟨attachment, frame⟩ := v.recountParked_recounts l
    obtain ⟨attachment', frame'⟩ := ih (v.recountParked l)
    exact ⟨attachment.trans attachment', (congrArg (fun y : State => { y with lanes := v.lanes }) frame' :).trans frame⟩

theorem State.recountAll_counts (ls : List Lane) (v : State) (attached : (v.lane l).isAttached = true)
    (counts : l ∈ ls ∨ v.countsParked l) : (ls.foldl State.recountParked v).countsParked l := by
  induction ls generalizing v with
  | nil => simpa using counts
  | cons k ls ih =>
    obtain ⟨attachment, frame⟩ := v.recountParked_recounts k
    have attached' : ((v.recountParked k).lane l).isAttached = true := by
      unfold LaneUnit.isAttached at attached ⊢
      rwa [(attachment l).1]
    refine ih _ attached' ?_
    by_cases here : l = k
    · subst here
      exact .inr (v.recountParked_counts l attached)
    · refine counts.imp (List.mem_of_ne_of_mem here) fun counts st => ?_
      rw [v.recountParked_other here, State.parkedAt_of_tags (v.recountParked_recounts k).tags]
      exact counts st

end Sys2Proof.Machine
end

section
/-! PROOF. The expiry of a number, whether its question is out or it is DAMAGED (R151, R155). -/

namespace Sys2Proof.Machine

variable {s t u v w : State} {op : Op} {x : Crossing} {n : Fin 32} {p : Patron} {k : Nat}

theorem SameButRecords.tags (h : SameButRecords u t) : t.tags = u.tags := by
  simp only [SameButRecords, State.tables, Tables.mk.injEq] at h
  obtain ⟨-, -, -, -, -, -, -, tags, -⟩ := h
  exact tags

theorem EndsTag.of_before (h : EndsTag u t n) (same : SameButRecords s u) : EndsTag s t n := by
  simp only [SameButRecords, State.tables, Tables.mk.injEq] at same
  obtain ⟨-, loans, -, pool, calendar, schedule, sweep, tags, tagLine⟩ := same
  unfold EndsTag at h ⊢
  rwa [loans, pool, calendar, schedule, sweep, tags, tagLine] at h

theorem State.retireTag_frame (v : State) (n : Nat) :
    (v.retireTag n).engine = v.engine ∧ (v.retireTag n).link = v.link ∧ (v.retireTag n).lanes = v.lanes ∧
      (v.retireTag n).patrons = v.patrons ∧ (v.retireTag n).titles = v.titles := by
  unfold State.retireTag
  split <;> exact ⟨rfl, rfl, rfl, rfl, rfl⟩

/-- The tables with the pending credits settled, before the parked counts. -/
def State.settledFor (s : State) (a : Tag) (n : Nat) : State :=
  ((s.freeFetchesOf a n).patrons.map Prod.fst).foldl State.settlePending (s.freeFetchesOf a n)

theorem State.expiryWork_damaged (clean : s.upsets = []) (damaged : (s.tags.get n).state = .damaged) :
    State.expiryWork n.val s =
      ((List.finRange 16).foldl State.recountParked (s.settledFor (s.tags.get n) n.val)).retireTag n.val := by
  unfold State.expiryWork
  rw [dif_pos n.isLt, State.readTag_clean clean]
  dsimp only
  split
  · unfold State.expireDamaged
    rw [State.scanTags_clean clean, State.scanTable_clean clean, State.scanTable_clean clean]
    rfl
  · contradiction

theorem State.settledFor_works (s : State) (a : Tag) (n : Nat) : Works (fun _ _ => False) s (s.settledFor a n) :=
  (s.freeFetchesOf_works a n).foldl (fun _ _ h => h.settlePending _) _

theorem State.settledFor_frame (s : State) (a : Tag) (n : Nat) : SameButRecords s (s.settledFor a n) :=
  (s.freeFetchesOf_frame a n).trans (State.settleAll_frame _ _).records

theorem State.settledFor_patrons (wf : Tbl.wf s.patrons = true) (a : Tag) (n k : Nat) :
    Tbl.lookup (s.settledFor a n).patrons k =
      ((Tbl.lookup s.patrons k).filter (PatronRec.outlives a n)).map (PatronRec.settles s.reserves) := by
  unfold State.settledFor
  rw [State.settleAll_all, State.reserves_of_tags (s.freeFetchesOf_frame a n).tags, State.freeFetchesOf_patrons,
    Tbl.lookup_filterValues wf]

theorem State.settledFor_titles (wf : Tbl.wf s.titles = true) (a : Tag) (n k : Nat) :
    Tbl.lookup (s.settledFor a n).titles k = (Tbl.lookup s.titles k).filter (TitleRec.outlives a n) := by
  obtain ⟨titles, -⟩ := (State.settleAll_frame ((s.freeFetchesOf a n).patrons.map Prod.fst) (s.freeFetchesOf a n)).rest
  unfold State.settledFor
  rw [titles, State.freeFetchesOf_titles, Tbl.lookup_filterValues wf]

theorem State.freeFetchesOf_patronAt (wf : Tbl.wf s.patrons = true) (a : Tag) (n k : Nat) :
    (s.freeFetchesOf a n).patronAt k = s.patronAt k := by
  ext p
  rw [State.patronAt_eq_some, State.patronAt_eq_some, State.freeFetchesOf_patrons, Tbl.lookup_filterValues wf,
    Option.filter_eq_some_iff]
  simp [PatronRec.outlives]

/-- A DAMAGED number's expiry has posted the BALANCE of the only record that differs, and has room left. -/
theorem Granted.settledFor_balance (h : Granted s op x) (counted : s.balanceIsOptional = false) (room : 1 ≤ op.reservation)
    (a : Tag) (n : Nat) (own : s.patronAt k = some p) (differs : p.pending ≠ s.reserves p.id)
    (only : ∀ j q, s.patronAt j = some q → q.pending ≠ s.reserves q.id → j = k) :
    .balance p.id p.balance (s.reserves p.id) p.blocked ∈ (s.settledFor a n).link.outbound ∧
      (s.settledFor a n).hasRoom 0 := by
  obtain ⟨wf, -⟩ := h.canon
  have reserves := State.reserves_of_tags (s.freeFetchesOf_frame a n).tags
  have patronAt := State.freeFetchesOf_patronAt wf a n
  have engine : (s.freeFetchesOf a n).engine = s.engine := rfl
  unfold State.settledFor
  generalize s.freeFetchesOf a n = v at reserves patronAt engine
  have mem : k ∈ v.patrons.map Prod.fst :=
    List.mem_map_of_mem (Tbl.mem_of_lookup (State.patronAt_eq_some.mp ((patronAt k).trans own)))
  have others (j : Nat) (other : j ≠ k) : v.isSettled j := by
    intro q own'
    rw [patronAt] at own'
    rw [reserves]
    by_contra differs'
    exact other (only j q own' differs')
  rw [State.settleAll_single mem v others, State.settlePending_differs ((patronAt k).trans own) (by rwa [reserves]), reserves]
  generalize hr : ({ p with pending := s.reserves p.id } : Patron) = r
  have stored : (v.setPatron k (.resident r)).patronAt k = some r :=
    State.patronAt_eq_some.mpr (Tbl.lookup_store_same v.patrons k (.resident r))
  have engine' : (v.setPatron k (.resident r)).engine = s.engine := engine
  rw [State.postBalance_counted stored ((State.balanceIsOptional_congr engine').trans counted)]
  have posted := State.post_room (k := 0) (State.hasRoom_congr engine' ⟨op, h.busy, h.noWait, room⟩) r.balanceNotice
  rwa [← hr] at posted ⊢

/-- The completion of an operation that hands no station notice, or its wait for room. -/
theorem State.complete_sameStacks (busy : w.engine = .busy op) (silent : op.handed = []) (claims : List Claim) :
    SameStacks w (w.complete claims) := by
  by_cases quiet : op.waiting = []
  · rw [State.complete_done busy quiet]
    exact State.finishOp_sameStacks w silent claims
  · rw [State.complete_waits busy quiet]
    exact .of_lanes rfl

/-- The expiry of a DAMAGED number. -/
structure DamagedEnds (s y t : State) (op : Op) : Prop where
  patrons : t.patrons = y.patrons
  titles : t.titles = y.titles
  kept : y.hasRoom 0 → ∀ m ∈ y.link.outbound, m.isLaneState = false → m ∈ t.link.outbound
  parked : ∀ l st, (s.lane l).isAttached = true → op.handed = [] →
    ((t.lane l).stations.get st).parked = s.parkedAt ⟨l, st, (s.lane l).gen⟩

theorem Granted.expires_damaged (h : Granted s op x) (kind : op.kind = .tagExpiry n.val)
    (damaged : (s.tags.get n).state = .damaged) :
    ∃ t, exec (.tagExpiry x) s = .next t ∧ EndsTag s t n ∧ DamagedEnds s (s.settledFor (s.tags.get n) n.val) t op := by
  have works := s.settledFor_works (s.tags.get n) n.val
  have frame := s.settledFor_frame (s.tags.get n) n.val
  have made := State.expiryWork_damaged h.noErr damaged
  generalize s.settledFor (s.tags.get n) n.val = y at works frame made
  have counts := fun l (attached : (y.lane l).isAttached = true) =>
    State.recountAll_counts (List.finRange 16) y attached (.inl (List.mem_finRange l))
  have recounts := State.recountAll_recounts (List.finRange 16) y
  generalize (List.finRange 16).foldl State.recountParked y = c at made counts recounts
  obtain ⟨engine, link, lanes, patrons, titles⟩ := c.retireTag_frame n.val
  have same : { c with lanes := y.lanes } = y := recounts.frame
  have tables : c.tables = y.tables := (congrArg State.tables same :)
  obtain ⟨done, busyY, handed⟩ := works.handed h.busy
  have busy : (c.retireTag n.val).engine = .busy done := engine.trans ((congrArg State.engine same :).trans busyY)
  have run := h.expiry_row kind
  rw [made] at run
  have ended := State.complete_tables (c.retireTag n.val) x.claims
  obtain ⟨patrons', -, titles', -⟩ := State.tables_eq_iff.mp ended
  refine ⟨_, run, ?_, (patrons'.trans patrons).trans (congrArg Tables.patrons tables),
    (titles'.trans titles).trans (congrArg Tables.titles tables), fun room m mem notLane => ?_,
    fun l st attached silent => ?_⟩
  · have retired : EndsTag c ((c.retireTag n.val).complete x.claims).startSending n :=
      (SameButRecords.of_tables ended).endsTag
    exact retired.of_before (frame.trans (.of_tables tables))
  · obtain ⟨left, busyLeft, quiet, -⟩ := room
    cases busyY.symm.trans busyLeft
    rw [State.complete_done busy quiet]
    have there : m ∈ (c.retireTag n.val).link.outbound := by
      rw [link, show c.link = y.link from (congrArg State.link same :)]
      exact mem
    exact State.finishOp_mem _ done x.claims there notLane
  · have later := State.complete_sameStacks busy (handed.trans silent) x.claims
    have before := works.sameStacks
    have attached' : (y.lane l).isAttached = true := by
      unfold LaneUnit.isAttached at attached ⊢
      rwa [before.life]
    have tags : c.tags = s.tags := (frame.trans (.of_tables tables)).tags
    have gen : (c.lane l).gen = (s.lane l).gen := (recounts.attachment l).2.trans (before.gen l)
    have counted := counts l attached' st
    rw [State.parkedAt_of_tags tags, gen] at counted
    exact (later.parked l st).trans (((SameStacks.of_lanes lanes).parked l st).trans counted)

/-- The patron records after the expiry of a DAMAGED number. -/
theorem State.settledFor_patronAt (wf : Tbl.wf s.patrons = true) (a : Tag) (n : Nat) (own : s.patronAt k = some p) :
    (s.settledFor a n).patronAt k = some { p with pending := s.reserves p.id } := by
  rw [State.patronAt_eq_some, State.settledFor_patrons wf, State.patronAt_eq_some.mp own]
  rfl

theorem State.settledFor_otherPatron (wf : Tbl.wf s.patrons = true) (a : Tag) (n : Nat)
    (idle : ∀ id day tag, Tbl.lookup s.patrons k ≠ some (.fetching id day tag)) (other : s.patronAt k = none) :
    Tbl.lookup (s.settledFor a n).patrons k = Tbl.lookup s.patrons k := by
  rw [State.settledFor_patrons wf]
  cases here : Tbl.lookup s.patrons k with
  | none => rfl
  | some r =>
    cases r with
    | fetching id day tag => exact absurd here (idle id day tag)
    | resident p => exact absurd (State.patronAt_eq_some.mpr here) (by simp [other])
    | unknown | damaged => rfl

theorem State.settledFor_otherTitle (wf : Tbl.wf s.titles = true) (a : Tag) (n : Nat)
    (idle : ∀ id tag, Tbl.lookup s.titles k ≠ some (.fetching id tag)) :
    Tbl.lookup (s.settledFor a n).titles k = Tbl.lookup s.titles k := by
  rw [State.settledFor_titles wf]
  cases here : Tbl.lookup s.titles k with
  | none => rfl
  | some r =>
    cases r with
    | fetching id tag => exact absurd here (idle id tag)
    | resident | damaged => rfl

/-- A FETCHING patron record is freed exactly when the damaged tag is its own. -/
theorem State.settledFor_fetchingPatron (wf : Tbl.wf s.patrons = true) (a : Tag) (n : Nat) {id day : Nat} {tag : TagId}
    (here : Tbl.lookup s.patrons k = some (.fetching id day tag)) :
    (a.isOf n tag = true → Tbl.lookup (s.settledFor a n).patrons k = none) ∧
      (¬ a.isOf n tag = true → Tbl.lookup (s.settledFor a n).patrons k = some (.fetching id day tag)) := by
  rw [State.settledFor_patrons wf, here]
  constructor <;> intro held <;> simp [PatronRec.outlives, PatronRec.settles, held]

/-- A FETCHING title record is freed exactly when the damaged tag is its own. -/
theorem State.settledFor_fetchingTitle (wf : Tbl.wf s.titles = true) (a : Tag) (n : Nat) {id : Nat} {tag : TagId}
    (here : Tbl.lookup s.titles k = some (.fetching id tag)) :
    (a.isOf n tag = true → Tbl.lookup (s.settledFor a n).titles k = none) ∧
      (¬ a.isOf n tag = true → Tbl.lookup (s.settledFor a n).titles k = some (.fetching id tag)) := by
  rw [State.settledFor_titles wf, here]
  constructor <;> intro held <;> simp [TitleRec.outlives, held]

/-- Settles O52: a question that is out by its kind, and a DAMAGED number by the tables that its expiry leaves. -/
theorem expiryEndsTheQuestion : Obligations.ExpiryEndsTheQuestion := by
  intro s op x n h kind room
  dsimp only
  refine ⟨fun q asked => ?_, fun damaged => ?_⟩
  · cases fetch : q.kind with
    | patronFetch =>
      obtain ⟨t, next, ended, titles, frees, keeps⟩ := h.expires_patronFetch kind asked fetch
      exact ⟨t, next, ended, fun _ => ⟨titles, frees, keeps⟩, nofun, nofun⟩
    | titleFetch =>
      obtain ⟨t, next, ended, ⟨patrons, frees, keeps⟩, answers⟩ := h.expires_titleFetch kind asked fetch
      exact ⟨t, next, ended, nofun, fun _ => ⟨patrons, frees, keeps, answers⟩, nofun⟩
    | cardAuth =>
      obtain ⟨t, y, next, ended, ⟨titles, releases, keeps⟩, kept, answers⟩ := h.expires_cardAuth kind room asked fetch
      refine ⟨t, next, ended, nofun, nofun, fun _ => ⟨titles, fun k p found own => ?_, keeps, answers⟩⟩
      obtain ⟨own', others, posted⟩ := releases k p found own
      exact ⟨own', others, kept _ posted rfl⟩
  · obtain ⟨t, next, ended, patrons, titles, kept, parked⟩ := h.expires_damaged kind damaged
    obtain ⟨wfPatrons, -, wfTitles, -⟩ := h.canon
    have counted : s.balanceIsOptional = false := by simp [State.balanceIsOptional, State.op?, h.busy, kind]
    refine ⟨t, next, ended, ⟨fun k id day tag here => ?_, fun k p own => ?_, fun k idle other => ?_, fun k id tag here => ?_,
      fun k idle => ?_⟩, fun k p own differs only => ?_, parked⟩
    · rw [patrons, ← Tag.isOf_iff]
      exact State.settledFor_fetchingPatron wfPatrons _ _ here
    · rw [State.patronAt_of_table patrons]
      exact State.settledFor_patronAt wfPatrons _ _ own
    · rw [patrons]
      exact State.settledFor_otherPatron wfPatrons _ _ idle other
    · rw [titles, ← Tag.isOf_iff]
      exact State.settledFor_fetchingTitle wfTitles _ _ here
    · rw [titles]
      exact State.settledFor_otherTitle wfTitles _ _ idle
    · obtain ⟨posted, left⟩ := h.settledFor_balance counted room (s.tags.get n) n.val own differs only
      exact kept left _ posted rfl

end Sys2Proof.Machine
end
